-- ==== Sys2Proof/Word.lean ====
section
/-! DEFINITION. The widths the manual names: bytes, 16-bit words, 24-bit tags, and the two slot ranges. -/

namespace Sys2Proof

/-- One byte of a frame, a handle or a payload (section 0.5.2). -/
abbrev Byte := BitVec 8

/-- A 16-bit serial, set id or grant count, each of which wraps (R28, R50, R112). -/
abbrev Word16 := BitVec 16

/-- The 24-bit name of a resource (section 1.3). -/
abbrev Tag := BitVec 24

/-- The fixed position of an entry, 0 to 255 (R2). -/
abbrev EntrySlot := Fin 256

/-- The fixed position of a requester record, 0 to 47 (R93). -/
abbrev ReqSlot := Fin 48

end Sys2Proof
end

