-- ==== Sys2Proof/Syntax.lean ====
section
/-! DEFINITION. The commands and events of the part, one constructor per row of the opcode table. -/

namespace Sys2Proof

/-- The two command ports (chapter 10). -/
inductive PortId where
  | a
  | b
  deriving DecidableEq, Repr

/-- Where a command came from: port A, port B, or the node at a link address (R94). -/
inductive Origin where
  | portA
  | portB
  | node (address : Nat)
  deriving DecidableEq, Repr

/-- The origin of the commands of a port (R94). -/
def PortId.origin : PortId → Origin
  | .a => .portA
  | .b => .portB

/-- One constructor per row of the opcode table.

The 33 command rows carry the origin of the command, its local id (the RID byte of a port frame, the local id of a node
request) and its payload bytes as they were sent; section 10.7 gives each payload's layout, which Machine/Operands.lean
reads. The other 19 rows are the events of the ports, of the deadline unit, of the node link and of the RESET pin. -/
inductive Instr where
  /- Requester commands of the chapters Requesters and Notices, and OPEN (R157). -/
  | openRequester (o : Origin) (rid : Byte) (payload : List Byte)
  | closeRequester (o : Origin) (rid : Byte) (payload : List Byte)
  | renew (o : Origin) (rid : Byte) (payload : List Byte)
  | setBudget (o : Origin) (rid : Byte) (payload : List Byte)
  | listMine (o : Origin) (rid : Byte) (payload : List Byte)
  | fetchNotice (o : Origin) (rid : Byte) (payload : List Byte)
  /- Entry and directory commands (R158). -/
  | define (o : Origin) (rid : Byte) (payload : List Byte)
  | retire (o : Origin) (rid : Byte) (payload : List Byte)
  | setLimits (o : Origin) (rid : Byte) (payload : List Byte)
  | lookup (o : Origin) (rid : Byte) (payload : List Byte)
  | find (o : Origin) (rid : Byte) (payload : List Byte)
  | readEntry (o : Origin) (rid : Byte) (payload : List Byte)
  | writeNote (o : Origin) (rid : Byte) (payload : List Byte)
  /- Claim commands (R159). -/
  | acquire (o : Origin) (rid : Byte) (payload : List Byte)
  | acquireSet (o : Origin) (rid : Byte) (payload : List Byte)
  | release (o : Origin) (rid : Byte) (payload : List Byte)
  | releaseAll (o : Origin) (rid : Byte) (payload : List Byte)
  | cancel (o : Origin) (rid : Byte) (payload : List Byte)
  | upgrade (o : Origin) (rid : Byte) (payload : List Byte)
  | downgrade (o : Origin) (rid : Byte) (payload : List Byte)
  /- Administration and event commands (R160). -/
  | evict (o : Origin) (rid : Byte) (payload : List Byte)
  | purgeOrigin (o : Origin) (rid : Byte) (payload : List Byte)
  | setPortRights (o : Origin) (rid : Byte) (payload : List Byte)
  | setTimebase (o : Origin) (rid : Byte) (payload : List Byte)
  | routeEvent (o : Origin) (rid : Byte) (payload : List Byte)
  | readEvents (o : Origin) (rid : Byte) (payload : List Byte)
  | setPoolThreshold (o : Origin) (rid : Byte) (payload : List Byte)
  | readPartStatus (o : Origin) (rid : Byte) (payload : List Byte)
  /- Node link commands (R161). -/
  | rosterAdd (o : Origin) (rid : Byte) (payload : List Byte)
  | rosterRemove (o : Origin) (rid : Byte) (payload : List Byte)
  | readNode (o : Origin) (rid : Byte) (payload : List Byte)
  | linkConfig (o : Origin) (rid : Byte) (payload : List Byte)
  /-- A frame or request whose code is no command, or FETCH_NOTICE from a node (R156). -/
  | unknownCommand (o : Origin) (rid : Byte) (code : Byte) (payload : List Byte)
  /-- SEL of the port falls (R152). -/
  | transferStart (p : PortId)
  /-- SEL rises on a command frame of these whole bytes; partialByte says a byte was not completely clocked in (R153). -/
  | commandFrameEnd (p : PortId) (bytes : List Byte) (partialByte : Bool)
  /-- SEL rises on a response read in which the host clocked this many whole bytes (R152). -/
  | responseReadEnd (p : PortId) (clocked : Nat)
  /-- The CLKIN cycle count reaches the divider value (R76). -/
  | tick
  /-- The wait limit of the requester's single wait on the entry expires (R82). -/
  | waitLimitExpiry (r : ReqSlot) (e : EntrySlot)
  /-- The wait limit of the requester's claim set whose first member is on the entry expires (R63). -/
  | setWaitLimitExpiry (r : ReqSlot) (e : EntrySlot)
  /-- The hold limit of the requester's hold on the entry expires (R86). -/
  | holdLimitExpiry (r : ReqSlot) (e : EntrySlot)
  /-- The tenure of the requester expires (R90). -/
  | tenureExpiry (r : ReqSlot)
  /-- NLC selects the next due node and starts its poll (R142). -/
  | nodeSelection
  /-- The last stop bit of the poll ends and the reply window opens (R133, R141). -/
  | replyWindowOpen
  /-- The reply reached its declared length or was found bad by length (R141, R144). -/
  | exchangeEnd
  /-- 40 bit times passed with no reply begun (R141). -/
  | replyWindowClose
  /-- The line stayed idle for 20 bit times inside a reply (R141). -/
  | replyIdleTimeout
  /-- A deferred disable takes effect (R134, R135). -/
  | linkDisable
  /-- A deferred rate or bit time takes effect (R133, R134). -/
  | bitTimeChange
  /-- A LEAVING node is deleted at the end of its exchange (R138). -/
  | nodeRemoval
  /-- RESET is driven active, or power-on (section 0.5.7). -/
  | reset
  /-- The part comes out of reset (R151). -/
  | resetEnd
  /-- A byte arrives on LRX inside the reply window (R141). -/
  | replyByteReceived (b : Byte)
  deriving DecidableEq, Repr

end Sys2Proof
end

