-- ==== Sys2Proof/Decode.lean ====
section
/-! DEFINITION. The command codes of section 10.7, the command decoder over them, and the host's decodeTableWord. -/

namespace Sys2Proof

/-- The command codes of section 10.7 (R157 to R161), each with the command it stands for. -/
def commandTable : List (Byte × (Origin → Byte → List Byte → Instr)) := [
  (0x10#8, .openRequester),
  (0x11#8, .closeRequester),
  (0x12#8, .renew),
  (0x13#8, .setBudget),
  (0x14#8, .listMine),
  (0x15#8, .fetchNotice),
  (0x20#8, .define),
  (0x21#8, .retire),
  (0x22#8, .setLimits),
  (0x23#8, .lookup),
  (0x24#8, .find),
  (0x25#8, .readEntry),
  (0x26#8, .writeNote),
  (0x30#8, .acquire),
  (0x31#8, .acquireSet),
  (0x32#8, .release),
  (0x33#8, .releaseAll),
  (0x34#8, .cancel),
  (0x35#8, .upgrade),
  (0x36#8, .downgrade),
  (0x40#8, .evict),
  (0x41#8, .purgeOrigin),
  (0x42#8, .setPortRights),
  (0x43#8, .setTimebase),
  (0x44#8, .routeEvent),
  (0x45#8, .readEvents),
  (0x46#8, .setPoolThreshold),
  (0x47#8, .readPartStatus),
  (0x50#8, .rosterAdd),
  (0x51#8, .rosterRemove),
  (0x52#8, .readNode),
  (0x53#8, .linkConfig)]

/-- What the frame of a command row carries: its origin, its local id, its command code and its payload; none for an event that no
frame carries. The code is section 10.7's for the 32 commands and its own operand for an unknown command. -/
def Instr.fields : Instr → Option (Origin × Byte × Byte × List Byte)
  | .openRequester o rid p => some (o, rid, 0x10#8, p)
  | .closeRequester o rid p => some (o, rid, 0x11#8, p)
  | .renew o rid p => some (o, rid, 0x12#8, p)
  | .setBudget o rid p => some (o, rid, 0x13#8, p)
  | .listMine o rid p => some (o, rid, 0x14#8, p)
  | .fetchNotice o rid p => some (o, rid, 0x15#8, p)
  | .define o rid p => some (o, rid, 0x20#8, p)
  | .retire o rid p => some (o, rid, 0x21#8, p)
  | .setLimits o rid p => some (o, rid, 0x22#8, p)
  | .lookup o rid p => some (o, rid, 0x23#8, p)
  | .find o rid p => some (o, rid, 0x24#8, p)
  | .readEntry o rid p => some (o, rid, 0x25#8, p)
  | .writeNote o rid p => some (o, rid, 0x26#8, p)
  | .acquire o rid p => some (o, rid, 0x30#8, p)
  | .acquireSet o rid p => some (o, rid, 0x31#8, p)
  | .release o rid p => some (o, rid, 0x32#8, p)
  | .releaseAll o rid p => some (o, rid, 0x33#8, p)
  | .cancel o rid p => some (o, rid, 0x34#8, p)
  | .upgrade o rid p => some (o, rid, 0x35#8, p)
  | .downgrade o rid p => some (o, rid, 0x36#8, p)
  | .evict o rid p => some (o, rid, 0x40#8, p)
  | .purgeOrigin o rid p => some (o, rid, 0x41#8, p)
  | .setPortRights o rid p => some (o, rid, 0x42#8, p)
  | .setTimebase o rid p => some (o, rid, 0x43#8, p)
  | .routeEvent o rid p => some (o, rid, 0x44#8, p)
  | .readEvents o rid p => some (o, rid, 0x45#8, p)
  | .setPoolThreshold o rid p => some (o, rid, 0x46#8, p)
  | .readPartStatus o rid p => some (o, rid, 0x47#8, p)
  | .rosterAdd o rid p => some (o, rid, 0x50#8, p)
  | .rosterRemove o rid p => some (o, rid, 0x51#8, p)
  | .readNode o rid p => some (o, rid, 0x52#8, p)
  | .linkConfig o rid p => some (o, rid, 0x53#8, p)
  | .unknownCommand o rid code p => some (o, rid, code, p)
  | .transferStart _ => none
  | .commandFrameEnd _ _ _ => none
  | .responseReadEnd _ _ => none
  | .tick => none
  | .waitLimitExpiry _ _ => none
  | .setWaitLimitExpiry _ _ => none
  | .holdLimitExpiry _ _ => none
  | .tenureExpiry _ => none
  | .nodeSelection => none
  | .replyWindowOpen => none
  | .exchangeEnd => none
  | .replyWindowClose => none
  | .replyIdleTimeout => none
  | .linkDisable => none
  | .bitTimeChange => none
  | .nodeRemoval => none
  | .reset => none
  | .resetEnd => none
  | .replyByteReceived _ => none

/-- Whether a code names a command of section 10.7 for a command of this origin: FETCH_NOTICE names none in a request
from a node (R116, R156 step 2). -/
def isCommandCode (o : Origin) (code : Byte) : Bool :=
  match o with
  | .node _ => code != 0x15#8 && commandTable.any (fun row => row.1 == code)
  | .portA => commandTable.any (fun row => row.1 == code)
  | .portB => commandTable.any (fun row => row.1 == code)

/-- The command decoder: the command that a frame or a node request with this code stands for (R153, R156). -/
def decodeCommand (o : Origin) (rid code : Byte) (payload : List Byte) : Instr :=
  if isCommandCode o code then
    match commandTable.find? (fun row => row.1 == code) with
    | some row => row.2 o rid payload
    | none => .unknownCommand o rid code payload
  else .unknownCommand o rid code payload

/-- Whether an unknown code, or FETCH_NOTICE from a node, or one of the commands of R94's first and third rows carries
this code: the commands whose local id names a requester and restarts its tenure (R89, R94). -/
def codeNamesRequester (o : Origin) (code : Byte) : Bool :=
  !isCommandCode o code ||
    [0x10#8, 0x11#8, 0x12#8, 0x13#8, 0x14#8, 0x15#8, 0x26#8, 0x30#8, 0x31#8, 0x32#8, 0x33#8, 0x34#8, 0x35#8,
      0x36#8].contains code

/-- The opcode table of this part gives no row any bits, so a word spells no command. -/
def decodeTableWord (_nbits _w : Nat) : Option Instr := none

end Sys2Proof
end

