-- ==== Sys2Proof/Config.lean ====
section
/-! DEFINITION. What the part fixes (its capacities and limits) and the one value the manual leaves open. -/

namespace Sys2Proof.Config

/-- Claim records in the pool (R22). -/
def poolSize : Nat := 512

/-- Notices that one requester's queue holds (R113, R114). -/
def noticeCapacity : Nat := 16

/-- Items that one LIST_MINE or FIND answer holds (R11, R102). -/
def pageSize : Nat := 8

/-- Bytes of a transfer that a port's receive buffer keeps (R153). -/
def receiveBytes : Nat := 36

/-- The longest reply on the node link (R141). -/
def replyBytes : Nat := 64

/-- Nodes that the roster holds (R136, R137). -/
def rosterSize : Nat := 30

/-- FREE VALUE, DESIGN CHOICE (assumption 2): whether a bit time that falls exactly half way between two whole
numbers of CLKIN cycles rounds up. R133 rounds the quotient of the divider value and the bit rate 'to the nearest
whole number' and states no result for a tie; nothing can evaluate this constant. -/
opaque roundTieUp (divider rate : Nat) : Bool

end Sys2Proof.Config
end

