-- ==== Sys2Proof/Machine/State.lean ====
section
/-! DEFINITION. The state of the TA256: every piece of state that the manual gives its eight blocks and its pins, as plain
data, with its value right after reset, and the closed reasons of a stop. -/

namespace Sys2Proof.Machine

/-! ## Claim table and directory (CTB, DIR) -/

/-- The kind of a hold, wanted or held (Table 2.2). -/
inductive Mode where
  | exclusive
  | shared
  deriving DecidableEq, Repr

/-- The states of a live entry (Table 1.2); an UNUSED slot has no entry. -/
inductive EntryState where
  | idle
  | exclusive
  | shared
  | reserved
  | retiring
  deriving DecidableEq, Repr

/-- A claim record in use (Table 2.2). Its entry and its state are the place it stands in: the holder set (HOLDING) or the
wait queue (WAITING) of one entry. firstMember marks the record of a claim set's first member, whose handle names the set
in notices and which keeps the set's countdown (R51, R54); it is false on a single record. The deadline is the number of
whole periods left: the wait limit in a queue, the hold limit in a holder set; 0 is a countdown that reached zero and whose
expiry has not been taken yet (R78, R79). -/
structure Claim where
  requester : ReqSlot
  mode : Mode
  setId : Option Word16
  firstMember : Bool
  deadline : Option Nat
  deriving DecidableEq, Repr

/-- A live entry (Table 1.1); the note length is the number of note bytes. The holder set has no order: it is kept in
ascending requester slot order, so that equal sets are equal data. The queue stands head first. -/
structure Entry where
  tag : Tag
  state : EntryState
  shareLimit : Nat
  holdLimit : Nat
  holders : List Claim
  queue : List Claim
  note : List Byte
  noteStale : Bool
  grantCount : Word16
  deriving DecidableEq, Repr

/-- One of the 256 slots: its generation, and its entry, none while it is UNUSED (R2). -/
structure Slot where
  generation : Byte
  live : Option Entry
  deriving DecidableEq, Repr

/-! ## Requester table (RQT) -/

/-- An OPEN requester record (Table 6.1) without its notice queue, which NTU keeps (State.notices). tenureLeft is the
tenure countdown: none while none is armed, 0 when it reached zero and its expiry has not been taken yet. -/
structure Requester where
  origin : Origin
  localId : Byte
  priority : Nat
  budget : Nat
  holdCount : Nat
  waitCount : Nat
  tenure : Nat
  tenureLeft : Option Nat
  overrun : Bool
  deriving DecidableEq, Repr

/-- Why a requester was evicted (Table 6.3). -/
inductive Cause where
  | tenure
  | reopen
  | evict
  | purge
  | roster
  deriving DecidableEq, Repr

/-! ## Notice unit (NTU) -/

/-- The reason of a REVOKED notice (Table 7.1). -/
inductive RevokeReason where
  | holdLimit
  | retired
  deriving DecidableEq, Repr

/-- The kind of a notice with the fields that its kind has (Table 7.1). -/
inductive NoticeBody where
  | granted (mode : Mode) (setId : Option Word16)
  | waitExpired (setId : Option Word16)
  | waitCancelled (setId : Option Word16)
  | revoked (reason : RevokeReason)
  deriving DecidableEq, Repr

/-- A queued notice (Table 7.1) with the requester slot whose queue it stands in. -/
structure Notice where
  owner : ReqSlot
  serial : Word16
  slot : EntrySlot
  generation : Byte
  body : NoticeBody
  deriving DecidableEq, Repr

/-! ## Attention unit (ATU) -/

/-- The part events, in the order of their codes (Tables 8.1 and 10.4). -/
inductive PartEvent where
  | nodeSilent
  | nodeJoined
  | requesterEvicted
  | poolLow
  | frameErrorA
  | frameErrorB
  | linkError
  deriving DecidableEq, Repr

/-- The kind of a frame error (R125). -/
inductive FrameErrorKind where
  | partialByte
  | byteCount
  | check
  deriving DecidableEq, Repr

/-- A raise of a part event with the detail that comes with it (Table 8.1). -/
inductive Detail where
  | nodeSilent (address : Nat)
  | nodeJoined (address : Nat)
  | requesterEvicted (origin : Origin) (localId : Byte) (cause : Cause)
  | poolLow (count : Nat)
  | frameErrorA (kind : FrameErrorKind)
  | frameErrorB (kind : FrameErrorKind)
  | linkError (address : Nat)
  deriving DecidableEq, Repr

/-- The set of ports to which a part event is reported (R124). -/
inductive Route where
  | none
  | a
  | b
  | both
  deriving DecidableEq, Repr

/-- The re-arming state of POOL_LOW (R129). -/
inductive PoolState where
  | armed
  | fired
  deriving DecidableEq, Repr

/-! ## Results and the command decoder -/

/-- The result codes (Table 10.5). -/
inductive Result where
  | ok
  | granted
  | queued
  | empty
  | badCommand
  | badLength
  | checkFailed
  | frameError
  | badValue
  | notOpen
  | noRight
  | staleHandle
  | noSuchTag
  | tagExists
  | tableFull
  | poolEmpty
  | budget
  | busy
  | wouldDeadlock
  | alreadyClaimed
  | notHeld
  | notWaiting
  | notExclusive
  | notSole
  | retiring
  | limitInUse
  | budgetInUse
  | requestersFull
  | rosterFull
  | nodeExists
  | noSuchNode
  deriving DecidableEq, Repr

/-- What a command answers: one result code and 0 to 48 bytes of answer payload (section 0.5.4). -/
structure Answer where
  result : Result
  payload : List Byte
  deriving DecidableEq, Repr

/-- A command that stands at the command decoder: handed over by a port (R153) or by NLC (R145) and not taken yet. A node
request carries its sequence; discard is set when the node's record is deleted before the response is made, which then goes
nowhere (R149). -/
structure Handed where
  origin : Origin
  localId : Byte
  code : Byte
  payload : List Byte
  sequence : Nat
  discard : Bool
  deriving DecidableEq, Repr

/-! ## Command ports (CPA, CPB) -/

/-- The states of a command port (R151); RDY follows from it (Port.rdy in Machine/Flags.lean). -/
inductive PortPhase where
  | ready
  | working
  | holding
  deriving DecidableEq, Repr

/-- The class that a transfer has from its SEL fall to its SEL rise (R152). -/
inductive TransferClass where
  | responseRead
  | commandFrame
  | ignored
  deriving DecidableEq, Repr

/-- What SDO carries (R151, R152): held high, so that every byte clocked is FFh; in a response read, the bytes of the response from the
first, then FFh; while SEL is high after a transfer, the bytes that were clocked out in it, the level itself being unstated (DESIGN
CHOICE, assumption 9). -/
inductive SdoLine where
  | high
  | sending (response : List Byte)
  | clocked (bytes : List Byte)
  deriving DecidableEq, Repr

/-- A command port (R151 to R155). transfer is the class of the transfer in progress, none while SEL is high; rxBuffer and
rxCount are the receive buffer (its first 36 bytes) and the byte counter of the last command frame; sdo is what SDO carries
(R151, R152); atnLow is the level of the ATN pin (R123). -/
structure Port where
  phase : PortPhase
  transfer : Option TransferClass
  response : Option (List Byte)
  readPointer : Nat
  busyDiscard : Bool
  rxBuffer : List Byte
  rxCount : Nat
  sdo : SdoLine
  atnLow : Bool
  deriving DecidableEq, Repr

/-! ## Node link controller (NLC) -/

/-- The bit rates of the link (R134). -/
inductive LinkRate where
  | k125
  | k250
  | k500
  | k1000
  deriving DecidableEq, Repr

/-- The states of a roster node (Table 9.1). -/
inductive NodeState where
  | joining
  | active
  | silent
  | leaving
  deriving DecidableEq, Repr

/-- A stored response: its sequence, its result code and its answer bytes (Table 9.1). -/
structure Stored where
  sequence : Nat
  result : Result
  payload : List Byte
  deriving DecidableEq, Repr

/-- A node record (Table 9.1). -/
structure NodeRecord where
  address : Nat
  state : NodeState
  missed : Nat
  errorCount : Nat
  lastSequence : Option Nat
  stored : Option Stored
  acknowledged : Bool
  noticeInFlight : Option Word16
  deriving DecidableEq, Repr

/-- How far the exchange in flight has come (R141): its poll is being sent; its reply window is open with these reply bytes
received (none before the reply sync); or its outcome has been taken and claims deferred to its end are still to be taken
(R138, R134). -/
inductive ExchangePhase where
  | polling
  | window (reply : List Byte)
  | ending
  deriving DecidableEq, Repr

/-- The exchange in flight (R141). -/
structure Exchange where
  node : Nat
  phase : ExchangePhase
  deriving DecidableEq, Repr

/-- The level of LTX: idle high, or the bytes of the poll being sent (R133). -/
inductive LinkLine where
  | idleHigh
  | sending (frame : List Byte)
  deriving DecidableEq, Repr

/-- The node link controller (chapter 9). pollWait is set while NLC waits because polling was not possible at a selection
(R142); responseWait holds, while NLC waits for an awaited response to be written before it selects again, the nodes whose response
is awaited, and is empty otherwise (R142); bitTimePending is set while a new rate or divider value waits for the end of the exchange in flight (R133, R134). -/
structure Link where
  enabled : Bool
  rate : LinkRate
  pendingDisable : Bool
  pendingRate : Option LinkRate
  bitTime : Nat
  bitTimePending : Bool
  roster : List NodeRecord
  exchange : Option Exchange
  cycleCount : Nat
  cyclePosition : Option Nat
  pollWait : Bool
  responseWait : List Nat
  lde : Bool
  ltx : LinkLine
  deriving DecidableEq, Repr

/-! ## The whole part -/

/-- The state of the TA256. notices holds every queued notice of the part in the order of queuing (R112); the queue of one
requester is the notices it owns. details holds the detail of each event under its code, none before its first raise.
pending is the model's own queue of the commands and events to come, first in, first out. -/
structure State where
  slots : Vector Slot 256
  dir : List (Tag × EntrySlot)
  freeRecords : Nat
  setIdCounter : Word16
  requesters : Vector (Option Requester) 48
  adminB : Bool
  divider : Nat
  clkCount : Nat
  notices : List Notice
  noticeSerial : Word16
  eventsA : Vector Bool 7
  eventsB : Vector Bool 7
  routes : Vector Route 7
  details : Vector (Option Detail) 7
  poolThreshold : Nat
  poolState : PoolState
  link : Link
  portA : Port
  portB : Port
  decoder : List Handed
  inReset : Bool
  pending : List Instr
  deriving DecidableEq, Repr

/-- A port right after reset (R151, R132): no response waiting, read pointer 0, BUSY_DISCARD clear, ATN high. -/
def Port.reset : Port where
  phase := .ready
  transfer := none
  response := none
  readPointer := 0
  busyDiscard := false
  rxBuffer := []
  rxCount := 0
  sdo := .high
  atnLow := false

/-- NLC right after reset (R150): disabled, 125 kbit/s, an empty roster, nothing in flight, LDE low, LTX idle high. The bit
time is 16000 divided by 125, 128 cycles (R133). -/
def Link.reset : Link where
  enabled := false
  rate := .k125
  pendingDisable := false
  pendingRate := none
  bitTime := 128
  bitTimePending := false
  roster := []
  exchange := none
  cycleCount := 0
  cyclePosition := none
  pollWait := true
  responseWait := []
  lde := false
  ltx := .idleHigh

/-- The part right after reset (R7, R49, R50, R76, R92, R110, R122, R132, R150, R151), RESET still driven: the event
RESET_END makes the ports take frames and starts the time base (DESIGN CHOICE, assumption 12). -/
def State.reset : State where
  slots := Vector.replicate 256 ⟨0, none⟩
  dir := []
  freeRecords := Config.poolSize
  setIdCounter := 0
  requesters := Vector.replicate 48 none
  adminB := false
  divider := 16000
  clkCount := 0
  notices := []
  noticeSerial := 0
  eventsA := Vector.replicate 7 false
  eventsB := Vector.replicate 7 false
  routes := #v[.a, .none, .a, .a, .a, .b, .a]
  details := Vector.replicate 7 none
  poolThreshold := 16
  poolState := .armed
  link := Link.reset
  portA := Port.reset
  portB := Port.reset
  decoder := []
  inReset := true
  pending := []

/-- No command or event of this part makes it stop: every refusal of the manual is an answer and every error an event. -/
inductive Fault where
  deriving DecidableEq, Repr

/-- Why the model gives no next state. -/
inductive Refusal where
  /-- Raised by exec alone, for a row that has no meaning yet; safe, since the model then says nothing of the part. -/
  | notModelled (mnemonic : String)
  deriving DecidableEq, Repr

end Sys2Proof.Machine
end

