-- ==== Sys2Proof/Machine/Codec.lean ====
section
/-! DEFINITION. Byte order, check codes and the value codes of Tables 10.4 and 10.5 (R162 to R164). -/

namespace Sys2Proof.Machine

/-! ## Bytes and words -/

/-- A count or flag sent as one byte. -/
def byteOf (n : Nat) : Byte := BitVec.ofNat 8 n

/-- A flag byte: 01h when set, 00h when clear (R163). -/
def flagByte (b : Bool) : Byte := if b then 0x01#8 else 0x00#8

/-- A two-byte field, most significant byte first (R163). -/
def bytes16 (n : Nat) : List Byte := [byteOf (n / 256), byteOf n]

/-- The value of a two-byte field (R163). -/
def nat16 (hi lo : Byte) : Nat := hi.toNat * 256 + lo.toNat

/-- A serial or set id of two bytes (R163). -/
def word16 (hi lo : Byte) : Word16 := BitVec.ofNat 16 (nat16 hi lo)

/-- A tag as three bytes, most significant first (R163). -/
def tagBytes (t : Tag) : List Byte := [byteOf (t.toNat / 65536), byteOf (t.toNat / 256), byteOf t.toNat]

/-- The tag of three bytes (R163). -/
def tagOf (hi mid lo : Byte) : Tag := BitVec.ofNat 24 (hi.toNat * 65536 + mid.toNat * 256 + lo.toNat)

/-- A handle: the slot byte, then the generation byte (R163). -/
def handleBytes (e : EntrySlot) (generation : Byte) : List Byte := [byteOf e.val, generation]

/-- The slot that a handle's first byte names; every value is a slot (R6). -/
def slotOf (b : Byte) : EntrySlot := b.toFin

/-! ## Check codes -/

/-- One bit of the CRC-8 with the polynomial 07h (R162). -/
def crc8Bit (c : Byte) : Byte := if c.msb then (c <<< 1) ^^^ 0x07#8 else c <<< 1

/-- The CRC-8 of bytes in the order they are sent, initial value 00h, no reflection, no final inversion (R162). -/
def crc8 (bytes : List Byte) : Byte := bytes.foldl (fun c b => crc8Bit^[8] (c ^^^ b)) 0x00#8

/-- One bit of the CRC-16 with the polynomial 8005h (R164). -/
def crc16Bit (c : Word16) : Word16 := if c.msb then (c <<< 1) ^^^ 0x8005#16 else c <<< 1

/-- A byte in the upper half of the 16-bit register. -/
def shiftedIn (b : Byte) : Word16 := b ++ 0x00#8

/-- The CRC-16 of bytes, most significant bit of each byte first, initial value FFFFh, no reflection, no final inversion
(R164). -/
def crc16 (bytes : List Byte) : Word16 :=
  bytes.foldl (fun c b => crc16Bit^[8] (c ^^^ shiftedIn b)) 0xFFFF#16

/-! ## Value codes (Table 10.4) -/

/-- mode. -/
def Mode.code : Mode → Byte
  | .exclusive => 0x00#8
  | .shared => 0x01#8

/-- mode of a payload byte; none is a BAD_VALUE (R163). -/
def modeOf (b : Byte) : Option Mode :=
  if b = 0x00#8 then some .exclusive else if b = 0x01#8 then some .shared else none

/-- retire mode: whether the byte says FORCE; none is a BAD_VALUE. -/
def retireForceOf (b : Byte) : Option Bool :=
  if b = 0x00#8 then some false else if b = 0x01#8 then some true else none

/-- entry state. -/
def EntryState.code : EntryState → Byte
  | .idle => 0x01#8
  | .exclusive => 0x02#8
  | .shared => 0x03#8
  | .reserved => 0x04#8
  | .retiring => 0x05#8

/-- origin. -/
def originCode : Origin → Byte
  | .node n => byteOf n
  | .portA => 0x40#8
  | .portB => 0x41#8

/-- origin of a payload byte; none is a BAD_VALUE. -/
def originOf (b : Byte) : Option Origin :=
  if b = 0x40#8 then some .portA
  else if b = 0x41#8 then some .portB
  else if 1 ≤ b.toNat ∧ b.toNat ≤ 30 then some (.node b.toNat)
  else none

/-- eviction cause. -/
def Cause.code : Cause → Byte
  | .tenure => 0x00#8
  | .reopen => 0x01#8
  | .evict => 0x02#8
  | .purge => 0x03#8
  | .roster => 0x04#8

/-- event, as an index of the routes, details and pending sets. -/
def PartEvent.index : PartEvent → Fin 7
  | .nodeSilent => 0
  | .nodeJoined => 1
  | .requesterEvicted => 2
  | .poolLow => 3
  | .frameErrorA => 4
  | .frameErrorB => 5
  | .linkError => 6

/-- event of a payload byte; none is a BAD_VALUE. -/
def partEventOf (b : Byte) : Option PartEvent :=
  if b = 0x00#8 then some .nodeSilent
  else if b = 0x01#8 then some .nodeJoined
  else if b = 0x02#8 then some .requesterEvicted
  else if b = 0x03#8 then some .poolLow
  else if b = 0x04#8 then some .frameErrorA
  else if b = 0x05#8 then some .frameErrorB
  else if b = 0x06#8 then some .linkError
  else none

/-- The event that a raise is of (Table 8.1). -/
def Detail.event : Detail → PartEvent
  | .nodeSilent _ => .nodeSilent
  | .nodeJoined _ => .nodeJoined
  | .requesterEvicted _ _ _ => .requesterEvicted
  | .poolLow _ => .poolLow
  | .frameErrorA _ => .frameErrorA
  | .frameErrorB _ => .frameErrorB
  | .linkError _ => .linkError

/-- route. -/
def Route.code : Route → Byte
  | .none => 0x00#8
  | .a => 0x01#8
  | .b => 0x02#8
  | .both => 0x03#8

/-- route of a payload byte; none is a BAD_VALUE. -/
def routeOf (b : Byte) : Option Route :=
  if b = 0x00#8 then some .none
  else if b = 0x01#8 then some .a
  else if b = 0x02#8 then some .b
  else if b = 0x03#8 then some .both
  else none

/-- Whether a route names a port (R124). -/
def Route.names : Route → PortId → Bool
  | .none, _ => false
  | .a, .a => true
  | .a, .b => false
  | .b, .a => false
  | .b, .b => true
  | .both, _ => true

/-- frame error kind. -/
def FrameErrorKind.code : FrameErrorKind → Byte
  | .partialByte => 0x01#8
  | .byteCount => 0x02#8
  | .check => 0x03#8

/-- ADMIN_B: whether the byte says GRANT; none is a BAD_VALUE. -/
def adminGrantOf (b : Byte) : Option Bool :=
  if b = 0x00#8 then some false else if b = 0x01#8 then some true else none

/-- link rate. -/
def LinkRate.code : LinkRate → Byte
  | .k125 => 0x00#8
  | .k250 => 0x01#8
  | .k500 => 0x02#8
  | .k1000 => 0x03#8

/-- link rate of a payload byte; none is a BAD_VALUE. -/
def linkRateOf (b : Byte) : Option LinkRate :=
  if b = 0x00#8 then some .k125
  else if b = 0x01#8 then some .k250
  else if b = 0x02#8 then some .k500
  else if b = 0x03#8 then some .k1000
  else none

/-- The bit rate in kbit/s (R134). -/
def LinkRate.kbits : LinkRate → Nat
  | .k125 => 125
  | .k250 => 250
  | .k500 => 500
  | .k1000 => 1000

/-- link enable: whether the byte says ENABLE; none is a BAD_VALUE. -/
def linkEnableOf (b : Byte) : Option Bool :=
  if b = 0x00#8 then some false else if b = 0x01#8 then some true else none

/-- node state. -/
def NodeState.code : NodeState → Byte
  | .joining => 0x01#8
  | .active => 0x02#8
  | .silent => 0x03#8
  | .leaving => 0x04#8

/-- POOL_LOW state. -/
def PoolState.code : PoolState → Byte
  | .armed => 0x00#8
  | .fired => 0x01#8

/-- revoke reason. -/
def RevokeReason.code : RevokeReason → Byte
  | .holdLimit => 0x01#8
  | .retired => 0x02#8

/-- Result codes (Table 10.5). -/
def Result.code : Result → Byte
  | .ok => 0x00#8
  | .granted => 0x01#8
  | .queued => 0x02#8
  | .empty => 0x03#8
  | .badCommand => 0x10#8
  | .badLength => 0x11#8
  | .checkFailed => 0x12#8
  | .frameError => 0x13#8
  | .badValue => 0x14#8
  | .notOpen => 0x20#8
  | .noRight => 0x21#8
  | .staleHandle => 0x22#8
  | .noSuchTag => 0x23#8
  | .tagExists => 0x24#8
  | .tableFull => 0x25#8
  | .poolEmpty => 0x30#8
  | .budget => 0x31#8
  | .busy => 0x32#8
  | .wouldDeadlock => 0x33#8
  | .alreadyClaimed => 0x34#8
  | .notHeld => 0x35#8
  | .notWaiting => 0x36#8
  | .notExclusive => 0x37#8
  | .notSole => 0x38#8
  | .retiring => 0x39#8
  | .limitInUse => 0x3A#8
  | .budgetInUse => 0x3B#8
  | .requestersFull => 0x40#8
  | .rosterFull => 0x41#8
  | .nodeExists => 0x42#8
  | .noSuchNode => 0x43#8

/-! ## Records in answers and polls -/

/-- The set id that a notice carries, when it is about a claim set (R111). -/
def NoticeBody.setId : NoticeBody → Option Word16
  | .granted _ id => id
  | .waitExpired id => id
  | .waitCancelled id => id
  | .revoked _ => none

/-- The notice kind code (Table 10.4). -/
def NoticeBody.kindCode : NoticeBody → Byte
  | .granted _ _ => 0x01#8
  | .waitExpired _ => 0x02#8
  | .waitCancelled _ => 0x03#8
  | .revoked _ => 0x04#8

/-- The mode byte of a GRANTED notice, the reason byte of a REVOKED one, nothing for the other kinds (R163). -/
def NoticeBody.extra : NoticeBody → List Byte
  | .granted m _ => [m.code]
  | .waitExpired _ => []
  | .waitCancelled _ => []
  | .revoked reason => [reason.code]

/-- A notice as 5 to 8 bytes: serial, kind byte with set-id-present in bit 7, handle, mode or reason, set id (R163). -/
def Notice.bytes (n : Notice) : List Byte :=
  bytes16 n.serial.toNat ++
  [n.body.kindCode ||| (if n.body.setId.isSome then 0x80#8 else 0x00#8)] ++
  handleBytes n.slot n.generation ++
  n.body.extra ++
  (match n.body.setId with
   | some id => bytes16 id.toNat
   | none => [])

/-- The bytes of a detail in a READ_EVENTS answer (R160). -/
def Detail.bytes : Detail → List Byte
  | .nodeSilent a => [byteOf a]
  | .nodeJoined a => [byteOf a]
  | .requesterEvicted o l c => [originCode o, l, c.code]
  | .poolLow n => bytes16 n
  | .frameErrorA k => [k.code]
  | .frameErrorB k => [k.code]
  | .linkError a => [byteOf a]

/-- The note byte: note stale in bit 7, the note length in bits 3 to 0 (R158). -/
def noteByte (stale : Bool) (length : Nat) : Byte := byteOf ((if stale then 128 else 0) + length)

/-! ## Port frames (R162) -/

/-- A command frame: LEN, RID, CMD, payload, CHK (Table 10.2). -/
def commandFrame (rid code : Byte) (payload : List Byte) : List Byte :=
  let body := byteOf (payload.length + 2) :: rid :: code :: payload
  body ++ [crc8 body]

/-- A response frame: LEN, STAT, RES, payload, CHK (R155). -/
def responseFrame (stat : Byte) (a : Answer) : List Byte :=
  let body := byteOf (a.payload.length + 2) :: stat :: a.result.code :: a.payload
  body ++ [crc8 body]

/-! ## Link frames (R164, R165) -/

/-- The blocks of a poll as bytes: a response block is sequence, result code, answer length and answer bytes (R164). -/
def Stored.bytes (r : Stored) : List Byte :=
  [byteOf r.sequence, r.result.code, byteOf r.payload.length] ++ r.payload

/-- A poll: sync, destination, control, the blocks present, CRC-16 over destination through the last block byte (R164). -/
def pollFrame (node : Nat) (response : Option Stored) (notice : Option Notice) : List Byte :=
  let control := (if response.isSome then 0x01#8 else 0x00#8) ||| (if notice.isSome then 0x02#8 else 0x00#8)
  let body := [byteOf node, control] ++
    (match response with | some r => r.bytes | none => []) ++
    (match notice with | some n => n.bytes | none => [])
  (0xC5#8 :: body) ++ bytes16 (crc16 body).toNat

end Sys2Proof.Machine
end

