-- ==== Sys2Proof/Machine/Operands.lean ====
section
/-! DEFINITION. The operand forms: the payload layout of every command (section 10.7) and the layout of a link reply
(R165). A payload function answers none when the length does not suit the command (R156 step 3); what it answers otherwise
is the fields as sent, whose values the command's own rule judges (BAD_VALUE, step 6). -/

namespace Sys2Proof.Machine

/-- A handle as sent: slot and generation (R163). -/
structure Handle where
  slot : EntrySlot
  generation : Byte
  deriving DecidableEq, Repr

/-- The handle of two bytes (R163). -/
def handleOf (s g : Byte) : Handle := ⟨slotOf s, g⟩

/-- A member of an ACQUIRE_SET as sent: its handle and mode byte (R159). -/
structure Member where
  handle : Handle
  mode : Byte
  deriving DecidableEq, Repr

/-- No payload (CLOSE, RENEW, FETCH_NOTICE, RELEASE_ALL, READ_EVENTS, READ_PART_STATUS). -/
def noPayload : List Byte → Option Unit
  | [] => some ()
  | _ => none

/-- One byte (SET_BUDGET, PURGE_ORIGIN, SET_PORT_RIGHTS, SET_POOL_THRESHOLD, ROSTER_ADD, ROSTER_REMOVE, READ_NODE). -/
def bytePayload : List Byte → Option Byte
  | [b] => some b
  | _ => none

/-- Two bytes that stand alone (EVICT, ROUTE_EVENT, LINK_CONFIG). -/
def pairPayload : List Byte → Option (Byte × Byte)
  | [x, y] => some (x, y)
  | _ => none

/-- One two-byte field (LIST_MINE, SET_TIMEBASE). -/
def wordPayload : List Byte → Option Nat
  | [hi, lo] => some (nat16 hi lo)
  | _ => none

/-- A handle (READ_ENTRY, RELEASE, CANCEL, UPGRADE, DOWNGRADE). -/
def handlePayload : List Byte → Option Handle
  | [s, g] => some (handleOf s g)
  | _ => none

/-- A tag (LOOKUP). -/
def tagPayload : List Byte → Option Tag
  | [x, y, z] => some (tagOf x y z)
  | _ => none

/-- OPEN: priority, budget, tenure (R157). -/
structure OpenFields where
  priority : Nat
  budget : Nat
  tenure : Nat
  deriving DecidableEq, Repr

/-- The payload of OPEN (R157). -/
def openPayload : List Byte → Option OpenFields
  | [p, b, hi, lo] => some ⟨p.toNat, b.toNat, nat16 hi lo⟩
  | _ => none

/-- DEFINE: tag, share limit, hold limit (R158). -/
structure DefineFields where
  tag : Tag
  shareLimit : Nat
  holdLimit : Nat
  deriving DecidableEq, Repr

/-- The payload of DEFINE (R158). -/
def definePayload : List Byte → Option DefineFields
  | [x, y, z, share, hi, lo] => some ⟨tagOf x y z, share.toNat, nat16 hi lo⟩
  | _ => none

/-- The payload of RETIRE: handle, retire mode (R158). -/
def retirePayload : List Byte → Option (Handle × Byte)
  | [s, g, m] => some (handleOf s g, m)
  | _ => none

/-- SET_LIMITS: handle, share limit, hold limit (R158). -/
structure LimitFields where
  handle : Handle
  shareLimit : Nat
  holdLimit : Nat
  deriving DecidableEq, Repr

/-- The payload of SET_LIMITS (R158). -/
def limitsPayload : List Byte → Option LimitFields
  | [s, g, share, hi, lo] => some ⟨handleOf s g, share.toNat, nat16 hi lo⟩
  | _ => none

/-- FIND: value, mask, cursor (R158). -/
structure FindFields where
  value : Tag
  mask : Tag
  cursor : Nat
  deriving DecidableEq, Repr

/-- The payload of FIND (R158). -/
def findPayload : List Byte → Option FindFields
  | [v2, v1, v0, m2, m1, m0, hi, lo] => some ⟨tagOf v2 v1 v0, tagOf m2 m1 m0, nat16 hi lo⟩
  | _ => none

/-- WRITE_NOTE: handle, note length as sent, note bytes (R158). -/
structure NoteFields where
  handle : Handle
  length : Nat
  bytes : List Byte
  deriving DecidableEq, Repr

/-- The payload of WRITE_NOTE, 3 to 11 bytes (R158). -/
def notePayload : List Byte → Option NoteFields
  | s :: g :: n :: bytes => if bytes.length ≤ 8 then some ⟨handleOf s g, n.toNat, bytes⟩ else none
  | _ => none

/-- ACQUIRE: handle, mode byte, wait limit (R159). -/
structure AcquireFields where
  handle : Handle
  mode : Byte
  waitLimit : Nat
  deriving DecidableEq, Repr

/-- The payload of ACQUIRE (R159). -/
def acquirePayload : List Byte → Option AcquireFields
  | [s, g, m, hi, lo] => some ⟨handleOf s g, m, nat16 hi lo⟩
  | _ => none

/-- ACQUIRE_SET: its members as named and its wait limit (R159); the member count is the number of members. -/
structure SetFields where
  members : List Member
  waitLimit : Nat
  deriving DecidableEq, Repr

/-- The members of an ACQUIRE_SET, 3 bytes each, and the wait limit that follows them (R159). -/
def setMembersOf : Nat → List Byte → Option SetFields
  | 0, [hi, lo] => some ⟨[], nat16 hi lo⟩
  | 0, _ => none
  | n + 1, s :: g :: m :: rest =>
    (setMembersOf n rest).map fun f => ⟨⟨handleOf s g, m⟩ :: f.members, f.waitLimit⟩
  | _ + 1, _ => none

/-- The payload of ACQUIRE_SET: its length equals 3 plus 3 times the member count that it gives (R159). -/
def setPayload : List Byte → Option SetFields
  | [] => none
  | n :: rest => setMembersOf n.toNat rest

/-! ## Link replies (R165) -/

/-- A request of a node: sequence, local id, command code, payload (R146, R165). -/
structure NodeRequest where
  sequence : Nat
  localId : Byte
  code : Byte
  payload : List Byte
  deriving DecidableEq, Repr

/-- The blocks of a reply (Table 10.7). -/
structure Reply where
  source : Byte
  respAck : Option Nat
  noticeAck : Option Word16
  request : Option NodeRequest
  deriving DecidableEq, Repr

/-- The number of bytes that the acknowledgement blocks of a control byte take (R165). -/
def ackBytes (control : Byte) : Nat :=
  (if control.getLsbD 0 then 1 else 0) + (if control.getLsbD 1 then 2 else 0)

/-- The length that a reply declares, from its sync to its CRC: fixed by the control byte and, when a request is present,
by its payload length byte; none while those bytes have not arrived (R165). -/
def declaredLength (reply : List Byte) : Option Nat :=
  match reply[2]? with
  | none => none
  | some control =>
    if control.getLsbD 2 then
      match reply[3 + ackBytes control + 3]? with
      | none => none
      | some n => some (3 + ackBytes control + 4 + n.toNat + 2)
    else some (3 + ackBytes control + 2)

/-- How a reply that has begun stands (R141). -/
inductive ReplyProgress where
  /-- More bytes are awaited. -/
  | incomplete
  /-- The declared length is reached. -/
  | complete
  /-- Found bad by length: more than 64 bytes declared, or 64 bytes received without an end. -/
  | badLength
  deriving DecidableEq, Repr

/-- The progress of the reply bytes received so far, sync included (R141). -/
def replyProgress (reply : List Byte) : ReplyProgress :=
  match declaredLength reply with
  | some n =>
    if Config.replyBytes < n then .badLength
    else if n ≤ reply.length then .complete
    else if Config.replyBytes ≤ reply.length then .badLength
    else .incomplete
  | none => if Config.replyBytes ≤ reply.length then .badLength else .incomplete

/-- The request block that starts at a place of the reply (R165). -/
def requestAt (reply : List Byte) (start : Nat) : Option NodeRequest :=
  match reply.drop start with
  | sequence :: localId :: code :: length :: rest => some ⟨sequence.toNat, localId, code, rest.take length.toNat⟩
  | _ => none

/-- The blocks of a reply whose bytes are all there (Table 10.7). -/
def parseReply (reply : List Byte) : Option Reply :=
  match reply with
  | _ :: source :: control :: _ =>
    let ackStart := if control.getLsbD 0 then 4 else 3
    some {
      source := source
      respAck := if control.getLsbD 0 then (reply[3]?).map BitVec.toNat else none
      noticeAck :=
        if control.getLsbD 1 then
          match reply[ackStart]?, reply[ackStart + 1]? with
          | some hi, some lo => some (word16 hi lo)
          | _, _ => none
        else none
      request := if control.getLsbD 2 then requestAt reply (3 + ackBytes control) else none }
  | _ => none

/-- Whether the declared blocks of a complete reply agree with R165: no control bit above bit 2, a request payload of at
most 32 bytes, sequences of at most 15. -/
def blocksAgree (reply : List Byte) : Bool :=
  match reply[2]? with
  | none => false
  | some control =>
    control.toNat < 8 &&
    (!control.getLsbD 0 || ((reply[3]?).map fun b => decide (b.toNat ≤ 15)).getD false) &&
    (!control.getLsbD 2 ||
      (((reply[3 + ackBytes control]?).map fun b => decide (b.toNat ≤ 15)).getD false &&
       ((reply[3 + ackBytes control + 3]?).map fun b => decide (b.toNat ≤ 32)).getD false))

/-- Whether the CRC-16 of a complete reply agrees with its bytes: computed over the source address through the last byte
before the CRC (R144, R165). -/
def replyCrcAgrees (reply : List Byte) : Bool :=
  let body := (reply.drop 1).dropLast.dropLast
  reply.drop (reply.length - 2) == bytes16 (crc16 body).toNat

/-- The outcome of an exchange (R140, R144). -/
inductive ExchangeOutcome where
  | good (reply : Reply)
  | bad
  | miss
  deriving DecidableEq, Repr

/-- The classification of a reply window that held these bytes, for a poll to this node, in the order of R144. -/
def classify (node : Nat) (reply : List Byte) : ExchangeOutcome :=
  if reply.isEmpty then .miss
  else if replyProgress reply ≠ .complete then .bad
  else if !blocksAgree reply then .bad
  else if !replyCrcAgrees reply then .bad
  else
    match parseReply reply with
    | none => .bad
    | some r => if r.source.toNat ≠ node then .miss else .good r

/-- A reply as a node sends it (R165): the inverse of the reading above, for statements and tests. -/
def replyFrame (r : Reply) : List Byte :=
  let control := (if r.respAck.isSome then 0x01#8 else 0x00#8) ||| (if r.noticeAck.isSome then 0x02#8 else 0x00#8) |||
    (if r.request.isSome then 0x04#8 else 0x00#8)
  let body := [r.source, control] ++
    (match r.respAck with | some s => [byteOf s] | none => []) ++
    (match r.noticeAck with | some s => bytes16 s.toNat | none => []) ++
    (match r.request with
     | some q => [byteOf q.sequence, q.localId, q.code, byteOf q.payload.length] ++ q.payload
     | none => [])
  (0x3A#8 :: body) ++ bytes16 (crc16 body).toNat

end Sys2Proof.Machine
end

