-- ==== Sys2Proof/Machine/Ops.lean ====
section
/-! DEFINITION. The named operations over the state: reading and writing slots, requesters and ports; the notice queues; the
raising of part events; the claim records and the recomputation of an entry. -/

namespace Sys2Proof.Machine

/-! ## Slots and entries -/

/-- The live entry of a slot, none while the slot is UNUSED. -/
def State.entry (s : State) (e : EntrySlot) : Option Entry := (s.slots[e.val]).live

/-- The generation of a slot. -/
def State.generation (s : State) (e : EntrySlot) : Byte := (s.slots[e.val]).generation

/-- Write a live entry into a slot; its generation is left as it stands. -/
def State.setEntry (s : State) (e : EntrySlot) (en : Entry) : State :=
  { s with slots := s.slots.set e.val ⟨s.generation e, some en⟩ }

/-- Change a live entry; an UNUSED slot stays as it is. -/
def State.modifyEntry (s : State) (e : EntrySlot) (f : Entry → Entry) : State :=
  match s.entry e with
  | some en => s.setEntry e (f en)
  | none => s

/-- The entry that a handle names: the slot is live and its generation equals the handle's; none is STALE_HANDLE (R6). -/
def State.entryOf (s : State) (h : Handle) : Option Entry :=
  if s.generation h.slot = h.generation then s.entry h.slot else none

/-- The freeing of a slot: its pair leaves DIR, its generation rises by one and wraps, its state becomes UNUSED (R4). -/
def State.freeSlot (s : State) (e : EntrySlot) : State :=
  { s with
    slots := s.slots.set e.val ⟨s.generation e + 1, none⟩
    dir := s.dir.filter fun p => p.2 ≠ e }

/-- The live slots a predicate on their entries selects, in ascending order. -/
def State.slotsWhere (s : State) (p : Entry → Bool) : List EntrySlot :=
  (List.finRange 256).filter fun e =>
    match s.entry e with
    | some en => p en
    | none => false

/-- The lowest-numbered UNUSED slot (R8). -/
def State.lowestUnused (s : State) : Option EntrySlot :=
  (List.finRange 256).find? fun e => (s.entry e).isNone

/-! ## Requesters -/

/-- The OPEN record of a requester slot, none while it is FREE. -/
def State.req (s : State) (r : ReqSlot) : Option Requester := s.requesters[r.val]

/-- Write a requester slot. -/
def State.setReq (s : State) (r : ReqSlot) (q : Option Requester) : State :=
  { s with requesters := s.requesters.set r.val q }

/-- Change an OPEN requester record; a FREE slot stays as it is. -/
def State.modifyReq (s : State) (r : ReqSlot) (f : Requester → Requester) : State :=
  match s.req r with
  | some q => s.setReq r (some (f q))
  | none => s

/-- The open requesters of an origin, in ascending slot order. -/
def State.reqsOf (s : State) (o : Origin) : List ReqSlot :=
  (List.finRange 48).filter fun r =>
    match s.req r with
    | some q => q.origin = o
    | none => false

/-- The slot of the open requester with this origin and local id, if any (R93). -/
def State.findReq (s : State) (o : Origin) (localId : Byte) : Option ReqSlot :=
  (List.finRange 48).find? fun r =>
    match s.req r with
    | some q => q.origin = o && q.localId = localId
    | none => false

/-- The lowest-numbered FREE requester slot (R97). -/
def State.lowestFree (s : State) : Option ReqSlot :=
  (List.finRange 48).find? fun r => (s.req r).isNone

/-- The priority of a requester (R99). -/
def State.priority (s : State) (r : ReqSlot) : Nat :=
  match s.req r with
  | some q => q.priority
  | none => 0

/-- The countdown of a limit: none for 0, else that many periods (R28, R88). -/
def armed (periods : Nat) : Option Nat := if periods = 0 then none else some periods

/-- The restart of a requester's tenure at its full period (R89). -/
def State.restartTenure (s : State) (r : ReqSlot) : State :=
  s.modifyReq r fun q => { q with tenureLeft := armed q.tenure }

/-- The restart of the tenure of the open requester that a command names, if there is one (R89). -/
def State.restartTenureOf (s : State) (o : Origin) (localId : Byte) : State :=
  match s.findReq o localId with
  | some r => s.restartTenure r
  | none => s

/-- Whether an origin holds the ADMIN right (R95). -/
def State.admin (s : State) : Origin → Bool
  | .portA => true
  | .portB => s.adminB
  | .node _ => false

/-! ## Ports and part events -/

/-- A command port. -/
def State.port (s : State) : PortId → Port
  | .a => s.portA
  | .b => s.portB

/-- Write a command port. -/
def State.setPort (s : State) (p : PortId) (q : Port) : State :=
  match p with
  | .a => { s with portA := q }
  | .b => { s with portB := q }

/-- The pending set of a port (R124). -/
def State.events (s : State) : PortId → Vector Bool 7
  | .a => s.eventsA
  | .b => s.eventsB

/-- Empty the pending set of a port (R127). -/
def State.clearEvents (s : State) (p : PortId) : State :=
  match p with
  | .a => { s with eventsA := Vector.replicate 7 false }
  | .b => { s with eventsB := Vector.replicate 7 false }

/-- The pending set of a port after a raise: the event is set when its route names the port (R124). -/
def raisedIn (set : Vector Bool 7) (ev : PartEvent) (named : Bool) : Vector Bool 7 :=
  if named then set.set ev.index.val true else set

/-- The raise of a part event: its detail is replaced, whatever the route, and the event is set pending at each port that its
route names (R124). -/
def State.raise (s : State) (d : Detail) : State :=
  let i := d.event.index
  let route := s.routes[i.val]
  { s with
    details := s.details.set i.val (some d)
    eventsA := raisedIn s.eventsA d.event (route.names .a)
    eventsB := raisedIn s.eventsB d.event (route.names .b) }

/-! ## Notices -/

/-- The notice queue of a requester, oldest first (R113). -/
def State.noticeQueue (s : State) (r : ReqSlot) : List Notice := s.notices.filter fun n => n.owner = r

/-- Add 1 to a 16-bit counter again for as long as its value is in use (R50, R112). The fuel is the number of values in
use: one more than that many values cannot all be among them. -/
def skipUsed (used : List Word16) : Nat → Word16 → Word16
  | 0, v => v
  | n + 1, v => if used.contains v then skipUsed used n (v + 1) else v

/-- The next value of a 16-bit counter: plus 1, wrapping, past every value in use (R50, R112). -/
def nextUnused (used : List Word16) (v : Word16) : Word16 := skipUsed used used.length (v + 1)

/-- The handing of an outcome to NTU: the notice is appended with the next serial when the requester's queue holds fewer than
16 notices, and is dropped with overrun set otherwise (R112, R113, R114). A notice is queued only for an open requester. -/
def State.queueNotice (s : State) (r : ReqSlot) (e : EntrySlot) (body : NoticeBody) : State :=
  match s.req r with
  | none => s
  | some q =>
    if (s.noticeQueue r).length < Config.noticeCapacity then
      let notices := s.notices ++ [⟨r, s.noticeSerial, e, s.generation e, body⟩]
      { s with
        notices := notices
        noticeSerial := nextUnused (notices.map Notice.serial) s.noticeSerial }
    else s.setReq r (some { q with overrun := true })

/-- The removal of the oldest notice of a requester (R116, R119). -/
def State.dropHeadNotice (s : State) (r : ReqSlot) : State :=
  { s with notices := s.notices.eraseP fun n => n.owner = r }

/-- The emptying of a requester's notice queue and the clearing of its overrun flag (R121). -/
def State.discardNotices (s : State) (r : ReqSlot) : State :=
  { s.modifyReq r (fun q => { q with overrun := false }) with
    notices := s.notices.filter fun n => n.owner ≠ r }

/-- The oldest notice among the heads of the queues of a node's open requesters (R118): the first of the part's notices, in
the order of queuing, that one of them owns. -/
def State.offeredNotice (s : State) (node : Nat) : Option Notice :=
  s.notices.find? fun n =>
    match s.req n.owner with
    | some q => q.origin = .node node
    | none => false

/-- The taking of a NOTICE_ACK: the head notice of one of the node's open requesters that carries the serial is removed; any
other acknowledgement is ignored (R119). -/
def State.ackNotice (s : State) (node : Nat) (serial : Word16) : State :=
  match (s.reqsOf (.node node)).find? fun r => ((s.noticeQueue r).head?.map Notice.serial) = some serial with
  | some r => s.dropHeadNotice r
  | none => s

/-! ## Claim records on an entry -/

/-- The hold of a requester on an entry. -/
def Entry.hold (en : Entry) (r : ReqSlot) : Option Claim := en.holders.find? fun c => c.requester = r

/-- The wait of a requester on an entry. -/
def Entry.wait (en : Entry) (r : ReqSlot) : Option Claim := en.queue.find? fun c => c.requester = r

/-- Whether a requester has a claim record on an entry, holding or waiting (R24). -/
def Entry.claimed (en : Entry) (r : ReqSlot) : Bool := (en.hold r).isSome || (en.wait r).isSome

/-- Whether a requester holds an entry exclusive. -/
def Entry.holdsExclusive (en : Entry) (r : ReqSlot) : Bool :=
  en.holders.any fun c => c.requester = r && c.mode = .exclusive

/-- The position of a requester in a wait queue, counted from 1 at the head; 0 when it does not wait (R30, R157). -/
def Entry.position (en : Entry) (r : ReqSlot) : Nat :=
  match en.queue.findIdx? fun c => c.requester = r with
  | some i => i + 1
  | none => 0

/-- Whether a record belongs to a requester's claim set with this id. -/
def Claim.inSet (c : Claim) (r : ReqSlot) (id : Word16) : Bool := c.requester = r && c.setId = some id

/-- Whether a claim of this mode fits beside an entry's holders (R35 steps 2 and 3, R58). -/
def Entry.fits (en : Entry) : Mode → Bool
  | .exclusive => en.holders.isEmpty
  | .shared => en.holders.isEmpty ||
      (en.holders.all (fun c => c.mode = .shared) && en.holders.length < en.shareLimit)

/-- Whether an ACQUIRE of this mode is granted at once on an entry (R27). -/
def Entry.grantsAtOnce (en : Entry) : Mode → Bool
  | .exclusive => en.state = .idle
  | .shared => en.state = .idle ||
      (en.state = .shared && en.queue.isEmpty && en.holders.length < en.shareLimit)

/-- The state that Table 1.2 gives an entry that is not RETIRING (R3). -/
def Entry.derivedState (en : Entry) : EntryState :=
  if en.holders.isEmpty then
    if en.queue.isEmpty then .idle else .reserved
  else if en.holders.any fun c => c.mode = .exclusive then .exclusive
  else .shared

/-- A record enters a holder set, kept in ascending requester slot order (R12). -/
def insertHolder (c : Claim) : List Claim → List Claim
  | [] => [c]
  | d :: rest => if d.requester < c.requester then d :: insertHolder c rest else c :: d :: rest

/-- A record enters a wait queue after every record whose requester's priority is greater than or equal to its own and
before every record whose requester's priority is lower (R31). -/
def insertWaiter (priority : ReqSlot → Nat) (c : Claim) : List Claim → List Claim
  | [] => [c]
  | d :: rest =>
    if priority c.requester ≤ priority d.requester then d :: insertWaiter priority c rest else c :: d :: rest

/-- The recomputation of an entry (R3): a RETIRING entry stays so while it has a holder and is freed when it has none (R20);
any other takes the state of Table 1.2. -/
def State.recompute (s : State) (e : EntrySlot) : State :=
  match s.entry e with
  | none => s
  | some en =>
    if en.state = .retiring then
      if en.holders.isEmpty then s.freeSlot e else s
    else s.setEntry e { en with state := en.derivedState }

/-- The recomputation of several entries. -/
def State.recomputeAll (s : State) (es : List EntrySlot) : State := es.foldl State.recompute s

/-! ## Taking, granting and removing claim records -/

/-- Add to a requester's hold count and wait count (R25). -/
def State.addCounts (s : State) (r : ReqSlot) (holds waits : Nat) : State :=
  s.modifyReq r fun q => { q with holdCount := q.holdCount + holds, waitCount := q.waitCount + waits }

/-- Take from a requester's hold count and wait count (R25). -/
def State.subCounts (s : State) (r : ReqSlot) (holds waits : Nat) : State :=
  s.modifyReq r fun q => { q with holdCount := q.holdCount - holds, waitCount := q.waitCount - waits }

/-- An entry that gains a holder: the record enters the holder set with a hold-limit countdown of the entry's hold limit,
none when that is 0, and the grant count rises by one and wraps (R28, R36, R84). -/
def Entry.gainHolder (en : Entry) (c : Claim) : Entry :=
  { en with
    holders := insertHolder { c with firstMember := false, deadline := armed en.holdLimit } en.holders
    grantCount := en.grantCount + 1 }

/-- An immediate grant on one entry (R28, R53 steps 2 to 6): one record is taken from the pool and written HOLDING. -/
def State.grantNow (s : State) (r : ReqSlot) (e : EntrySlot) (m : Mode) (setId : Option Word16) : State :=
  let s := s.modifyEntry e fun en => en.gainHolder ⟨r, m, setId, false, none⟩
  let s := { s with freeRecords := s.freeRecords - 1 }
  (s.addCounts r 1 0).recompute e

/-- A waiting record enters a wait queue at the place of R31. -/
def State.enqueue (s : State) (e : EntrySlot) (c : Claim) : State :=
  s.modifyEntry e fun en => { en with queue := insertWaiter s.priority c en.queue }

/-- The placement of one record (R30, R54 steps 2 to 5): one record is taken from the pool and written WAITING. -/
def State.place (s : State) (e : EntrySlot) (c : Claim) : State :=
  let s := s.enqueue e c
  let s := { s with freeRecords := s.freeRecords - 1 }
  (s.addCounts c.requester 0 1).recompute e

/-- The removal of a requester's hold from an entry, as step 1 of a release, revocation or retire: the record returns to the
pool and the hold count falls by one; note stale is set when asked and the hold is exclusive (R14, R18, R39, R86). -/
def State.dropHold (s : State) (r : ReqSlot) (e : EntrySlot) (stale : Bool) : State :=
  let s := s.modifyEntry e fun en =>
    { en with
      holders := en.holders.filter fun c => c.requester ≠ r
      noteStale := en.noteStale || (stale && en.holdsExclusive r) }
  let s := { s with freeRecords := s.freeRecords + 1 }
  s.subCounts r 1 0

/-- The removal of a requester's wait from an entry: the record returns to the pool and the wait count falls by one
(R16, R41, R82). -/
def State.dropWait (s : State) (r : ReqSlot) (e : EntrySlot) : State :=
  let s := s.modifyEntry e fun en => { en with queue := en.queue.filter fun c => c.requester ≠ r }
  let s := { s with freeRecords := s.freeRecords + 1 }
  s.subCounts r 0 1

/-! ## Claim sets -/

/-- The member entries of a waiting set, in ascending slot order. -/
def State.setMembers (s : State) (r : ReqSlot) (id : Word16) : List EntrySlot :=
  s.slotsWhere fun en => en.queue.any fun c => c.inSet r id

/-- The record of a waiting set on an entry. -/
def Entry.setRecord (en : Entry) (r : ReqSlot) (id : Word16) : Option Claim :=
  en.queue.find? fun c => c.inSet r id

/-- The first member of a waiting set: the entry whose record carries the mark, and its mode (R51). -/
def State.firstMember (s : State) (r : ReqSlot) (id : Word16) : Option (EntrySlot × Mode) :=
  (List.finRange 256).findSome? fun e =>
    match s.entry e with
    | some en => (en.queue.find? fun c => c.inSet r id && c.firstMember).map fun c => (e, c.mode)
    | none => none

/-- The removal of a whole waiting set: its records leave every member queue and return to the pool, its countdown goes with
the first member's record, and the wait count falls by the member count (R16, R62, R63). -/
def State.dropSet (s : State) (r : ReqSlot) (id : Word16) : State :=
  let members := s.setMembers r id
  let s := members.foldl
    (fun s e => s.modifyEntry e fun en => { en with queue := en.queue.filter fun c => !c.inSet r id }) s
  let s := { s with freeRecords := s.freeRecords + members.length }
  s.subCounts r 0 members.length

/-- The set ids of the claim sets that have WAITING records (R50). -/
def State.waitingSetIds (s : State) : List Word16 :=
  s.slots.toList.flatMap fun sl =>
    match sl.live with
    | some en => en.queue.filterMap Claim.setId
    | none => []

/-- The taking of a new set id: the counter goes to the next value that no waiting set carries (R50). -/
def State.takeSetId (s : State) : State :=
  { s with setIdCounter := nextUnused s.waitingSetIds s.setIdCounter }

end Sys2Proof.Machine
end

