-- ==== Sys2Proof/Machine/Admission.lean ====
section
/-! DEFINITION. The admission pass with its pass list (R34 to R38, R58 to R61) and the wait-for check (R66 to R74). -/

namespace Sys2Proof.Machine

/-- Whose grant queues no notice, because the answer of the placing command reports it (R32, R55). -/
inductive Quiet where
  | loud
  | single (r : ReqSlot) (e : EntrySlot)
  | set (r : ReqSlot) (id : Word16)
  deriving DecidableEq, Repr

/-- Queue a GRANTED notice unless the grant is the placing command's own. -/
def State.noticeUnless (s : State) (quiet : Bool) (r : ReqSlot) (e : EntrySlot) (body : NoticeBody) : State :=
  if quiet then s else s.queueNotice r e body

/-- The grant of a single record at the head of a queue (R36): it moves from the wait queue to the holder set, takes no
record from the pool, and a GRANTED notice is queued. -/
def State.grantHead (s : State) (q : Quiet) (e : EntrySlot) (c : Claim) : State :=
  let s := s.modifyEntry e fun en => { en with queue := en.queue.tail }.gainHolder c
  let s := (s.subCounts c.requester 0 1).addCounts c.requester 1 0
  s.noticeUnless (decide (q = .single c.requester e)) c.requester e (.granted c.mode none)

/-- One member of a set grant (R60 steps 1, 3 and 4). -/
def State.grantMember (s : State) (r : ReqSlot) (id : Word16) (e : EntrySlot) : State :=
  s.modifyEntry e fun en =>
    match en.setRecord r id with
    | some c => { en with queue := en.queue.filter fun d => !d.inSet r id }.gainHolder c
    | none => en

/-- The grant of a set from the queues (R60): at every member entry together, with one GRANTED notice that names the first
member. -/
def State.grantSet (s : State) (q : Quiet) (r : ReqSlot) (id : Word16) : State :=
  let members := s.setMembers r id
  let first := s.firstMember r id
  let s := members.foldl (fun s e => s.grantMember r id e) s
  let s := (s.subCounts r 0 members.length).addCounts r members.length 0
  let s := s.recomputeAll members
  match first with
  | some (e, m) => s.noticeUnless (decide (q = .set r id)) r e (.granted m (some id))
  | none => s

/-- Whether a waiting set is grantable: at every member its record stands at the head and fits beside the holders (R58). -/
def State.grantable (s : State) (r : ReqSlot) (id : Word16) : Bool :=
  (s.setMembers r id).all fun e =>
    match s.entry e with
    | some en =>
      match en.queue.head? with
      | some c => c.inSet r id && en.fits c.mode
      | none => false
    | none => false

/-- The pass list after a set grant: each other member entry not already on it is appended, in ascending order (R61). -/
def appendMembers (list : List EntrySlot) (e : EntrySlot) (members : List EntrySlot) : List EntrySlot :=
  list ++ members.filter fun m => m ≠ e && !list.contains m

/-- One admission pass on an entry, with the pass list of the event (R35, R59, R61). Each turn but the last grants the head
of the queue, so the length of the queue is fuel enough. A head is judged by R35 whatever its countdown: one that reached zero does not
keep it from its grant, which disarms it (R36, R37, R79; against R83's 'the records are gone in both orders', DESIGN CHOICE, assumption
21). -/
def passTurns (q : Quiet) (e : EntrySlot) : Nat → State → List EntrySlot → State × List EntrySlot
  | 0, s, list => (s, list)
  | n + 1, s, list =>
    match s.entry e with
    | none => (s, list)
    | some en =>
      match en.queue.head? with
      | none => (s, list)
      | some c =>
        match c.setId with
        | none =>
          if en.fits c.mode then
            let s' := s.grantHead q e c
            if c.mode = .exclusive then (s', list) else passTurns q e n s' list
          else (s, list)
        | some id =>
          if s.grantable c.requester id then
            let list' := appendMembers list e (s.setMembers c.requester id)
            let s' := s.grantSet q c.requester id
            if c.mode = .exclusive then (s', list') else passTurns q e n s' list'
          else (s, list)

/-- The admission pass on an entry; after it stops, the entry is recomputed (R35). -/
def State.pass (s : State) (q : Quiet) (e : EntrySlot) (list : List EntrySlot) : State × List EntrySlot :=
  let fuel := match s.entry e with | some en => en.queue.length | none => 0
  let r := passTurns q e fuel s list
  (r.1.recompute e, r.2)

/-- The number of WAITING records of the part. -/
def State.waiting (s : State) : Nat :=
  (s.slots.toList.map fun sl => match sl.live with | some en => en.queue.length | none => 0).sum

/-- Run passes from the front of the pass list until it is empty, taking each entry off the list as its pass begins; a pass
runs on a live entry (R34, R61). -/
def runPassList (q : Quiet) : Nat → State → List EntrySlot → State
  | 0, s, _ => s
  | _, s, [] => s
  | n + 1, s, e :: rest =>
    match s.entry e with
    | none => runPassList q n s rest
    | some _ => let r := s.pass q e rest; runPassList q n r.1 r.2

/-- The admission passes of one event over its pass list (R61). Each entry taken off the list is one turn, and an entry is
appended only by a set grant, which removes a waiting record and appends fewer than 256 entries: the fuel is enough. -/
def State.runPasses (s : State) (q : Quiet) (list : List EntrySlot) : State :=
  runPassList q (list.length + 256 * s.waiting) s list

/-! ## The wait-for check -/

/-- The edges from the waiters of a queue: to each requester of the first list (the holders, then the waiters ahead). -/
def queueEdges : List ReqSlot → List ReqSlot → List (ReqSlot × ReqSlot)
  | _, [] => []
  | ahead, x :: rest => ahead.map (fun y => (x, y)) ++ queueEdges (ahead ++ [x]) rest

/-- The holder edges and ahead edges of one entry (R66). -/
def Entry.waitEdges (en : Entry) : List (ReqSlot × ReqSlot) :=
  queueEdges (en.holders.map Claim.requester) (en.queue.map Claim.requester)

/-- The waiting relation: (x, y) is an edge when x waits for y (R66, R67). -/
def State.waitEdges (s : State) : List (ReqSlot × ReqSlot) :=
  s.slots.toList.flatMap fun sl =>
    match sl.live with
    | some en => en.waitEdges
    | none => []

/-- The requesters that the edges lead to from a set of requesters, within n more edges, that set included. -/
def reachWithin (edges : List (ReqSlot × ReqSlot)) : Nat → List ReqSlot → List ReqSlot
  | 0, seen => seen
  | n + 1, seen =>
    reachWithin edges n (((edges.filter fun p => seen.contains p.1).map Prod.snd).foldr List.insert seen)

/-- Whether a requester waits indirectly for itself (R66, R69): among 48 requesters a chain needs at most 48 edges. -/
def waitsForItself (edges : List (ReqSlot × ReqSlot)) (r : ReqSlot) : Bool :=
  (reachWithin edges 48 ((edges.filter fun p => p.1 = r).map Prod.snd)).contains r

/-- The wait-for check of a placement: the relation as it would stand with the new records in their queues (R68, R70).
True is WOULD_DEADLOCK. -/
def State.wouldDeadlock (s : State) (r : ReqSlot) (records : List (EntrySlot × Claim)) : Bool :=
  waitsForItself (records.foldl (fun s p => s.enqueue p.1 p.2) s).waitEdges r

/-! ## Reclaiming a requester's records -/

/-- Take every record of a requester off one entry, setting note stale for an exclusive hold when asked (R46, R104). -/
def State.strip (s : State) (r : ReqSlot) (stale : Bool) (e : EntrySlot) : State :=
  s.modifyEntry e fun en =>
    { en with
      queue := en.queue.filter fun c => c.requester ≠ r
      holders := en.holders.filter fun c => c.requester ≠ r
      noteStale := en.noteStale || (stale && en.holdsExclusive r) }

/-- The removal of all records of a requester (R46; R104 steps 1 and 2 with stale): every wait, whole sets with it, then every hold is
removed, and each affected entry is recomputed. A claim set's records all belong to its requester, so removing its records removes
its sets whole. -/
def State.stripAll (s : State) (r : ReqSlot) (stale : Bool) : State :=
  let holding := s.slotsWhere fun en => (en.hold r).isSome
  let waiting := s.slotsWhere fun en => (en.wait r).isSome
  let affected := s.slotsWhere fun en => en.claimed r
  let s := affected.foldl (fun s e => s.strip r stale e) s
  let s := { s with freeRecords := s.freeRecords + holding.length + waiting.length }
  let s := s.subCounts r holding.length waiting.length
  s.recomputeAll affected

/-- The reclaim of all records of a requester (R46; R104 steps 1 to 3 with stale): their removal, then admission passes on the
affected entries still live, in ascending slot order. -/
def State.reclaim (s : State) (r : ReqSlot) (stale : Bool) : State :=
  (s.stripAll r stale).runPasses .loud (s.slotsWhere fun en => en.claimed r)

/-- The answer that counts what a reclaim removes: the holds and the waits (R46, R103). -/
def State.reclaimAnswer (s : State) (r : ReqSlot) : Answer :=
  ⟨.ok, [byteOf (s.slotsWhere fun en => (en.hold r).isSome).length, byteOf (s.slotsWhere fun en => (en.wait r).isSome).length]⟩

/-- An eviction, by the six steps of R104: reclaim with note stale for exclusive holds, notices discarded, tenure disarmed and
slot freed, REQUESTER_EVICTED raised. -/
def State.evict (s : State) (r : ReqSlot) (cause : Cause) : State :=
  match s.req r with
  | none => s
  | some q =>
    let s := (s.reclaim r true).discardNotices r
    let s := s.setReq r none
    s.raise (.requesterEvicted q.origin q.localId cause)

/-- The eviction of several requesters, each whole before the next begins (R106, R107). -/
def State.evictAll (s : State) (rs : List ReqSlot) (cause : Cause) : State :=
  rs.foldl (fun s r => s.evict r cause) s

end Sys2Proof.Machine
end

