-- ==== Sys2Proof/Machine/Flags.lean ====
section
/-! DEFINITION. The flags the part computes: the attention condition and the ATN lines (R123), the STAT byte (R155, R162), RDY
(R151), POOL_LOW (R129), and what ends every event. -/

namespace Sys2Proof.Machine

/-- The requesters of a port with attention: a notice queued or overrun set (R123). -/
def State.attentionSet (s : State) (p : PortId) : List ReqSlot :=
  (s.reqsOf p.origin).filter fun r =>
    !(s.noticeQueue r).isEmpty ||
      (match s.req r with
       | some q => q.overrun
       | none => false)

/-- The attention condition of a port (R123). -/
def State.attention (s : State) (p : PortId) : Bool :=
  !(s.attentionSet p).isEmpty || (s.events p).any id

/-- ATNA and ATNB take the level of their port's attention condition (R123). -/
def State.settleAttention (s : State) : State :=
  { s with
    portA := { s.portA with atnLow := s.attention .a }
    portB := { s.portB with atnLow := s.attention .b } }

/-- RDY of a port: high when it is READY or HOLDING, low while it is WORKING and during reset (R151). -/
def Port.rdy (q : Port) (inReset : Bool) : Bool := !inReset && q.phase ≠ .working

/-- The STAT byte: BUSY_DISCARD in bit 7, ATN in bit 6, PORT_ADMIN in bit 5 (Table 10.3). -/
def statByte (busyDiscard atn admin : Bool) : Byte :=
  (if busyDiscard then 0x80#8 else 0x00#8) ||| (if atn then 0x40#8 else 0x00#8) ||| (if admin then 0x20#8 else 0x00#8)

/-- The STAT byte of a response that is written into a port's buffer now (R155). -/
def State.stat (s : State) (p : PortId) : Byte :=
  statByte (s.port p).busyDiscard (s.attention p) (s.admin p.origin)

/-- The re-arming state that a free record count gives a threshold (R130). -/
def rearmed (free threshold : Nat) : PoolState := if threshold ≤ free then .armed else .fired

/-- The report of the free record count to ATU at the end of an event that changed it (R129). -/
def State.reportPool (s : State) (before : Nat) : State :=
  if s.freeRecords = before then s
  else if s.freeRecords < s.poolThreshold then
    match s.poolState with
    | .armed => { s.raise (.poolLow s.freeRecords) with poolState := .fired }
    | .fired => s
  else { s with poolState := .armed }

/-- The end of an event that started with this many free records: POOL_LOW, then the ATN lines. -/
def State.endEvent (s : State) (before : Nat) : State := (s.reportPool before).settleAttention

end Sys2Proof.Machine
end

