-- ==== Sys2Proof/Machine/Decoder.lean ====
section
/-! DEFINITION. Taking a command from the decoder: the common refusal order (R156), the tenure restart (R89), and the response
to a port (R155) or to a node (R146). -/

namespace Sys2Proof.Machine

/-! ## Responses -/

/-- The writing of a response into a port's buffer with its STAT byte; the port becomes HOLDING (R154, R155). -/
def State.writeResponse (s : State) (p : PortId) (a : Answer) : State :=
  s.setPort p { s.port p with phase := .holding, response := some (responseFrame (s.stat p) a) }

/-- Change the roster record of an address. -/
def State.modifyNode (s : State) (address : Nat) (f : NodeRecord → NodeRecord) : State :=
  { s with link := { s.link with roster := s.link.roster.map fun n => if n.address = address then f n else n } }

/-- The writing of a node's response ends the wait for it, after which the selection is made again (R142). The first one written ends a
wait for several (DESIGN CHOICE, assumption 20). -/
def Link.responseWritten (l : Link) (address : Nat) : Link :=
  { l with responseWait := if address ∈ l.responseWait then [] else l.responseWait }

/-- The storing of a node's response, in one step with the last taken sequence (R146). -/
def State.storeResponse (s : State) (address sequence : Nat) (a : Answer) : State :=
  let s := s.modifyNode address fun n =>
    { n with
      lastSequence := some sequence
      stored := some ⟨sequence, a.result, a.payload⟩
      acknowledged := false }
  { s with link := s.link.responseWritten address }

/-- A response goes back by the path its request came by (section 0.3); that of a node whose record was deleted meanwhile is
discarded (R149; DEDUCED, assumption 5). -/
def State.respond (s : State) (h : Handed) (a : Answer) : State :=
  match h.origin with
  | .portA => s.writeResponse .a a
  | .portB => s.writeResponse .b a
  | .node n => if h.discard then s else s.storeResponse n h.sequence a

/-! ## The decoder -/

/-- The oldest command of an origin that stands at the decoder. -/
def State.handedFrom (s : State) (o : Origin) : Option Handed := s.decoder.find? fun h => h.origin = o

/-- That command leaves the decoder. -/
def State.dropHanded (s : State) (o : Origin) : State := { s with decoder := s.decoder.eraseP fun h => h.origin = o }

/-- Whether the command with this origin, local id, code and payload is the one to be taken next from its origin. -/
def State.stands (s : State) (o : Origin) (rid code : Byte) (payload : List Byte) : Option Handed :=
  match s.handedFrom o with
  | none => none
  | some h => if h.localId = rid ∧ h.code = code ∧ h.payload = payload then some h else none

/-- What a command does to the blocks and what it answers. -/
abbrev Effect := State → State × Answer

/-- A refusal with an empty payload changes nothing (R156). -/
def refuse (r : Result) : Effect := fun s => (s, ⟨r, []⟩)

/-- The answer OK with a payload, changing nothing. -/
def answerOk (payload : List Byte) : Effect := fun s => (s, ⟨.ok, payload⟩)

/-- A change of state that answers OK with an empty payload. -/
def changeOk (f : State → State) : Effect := fun s => (f s, ⟨.ok, []⟩)

/-- A command is taken as one event (R1, R154): it leaves the decoder, restarts the tenure of the open requester it names
(R89), has its effect, and its response goes back. A command that does not stand in the decoder is not taken
(DESIGN CHOICE, assumption 4); a POOL_LOW that it raises
comes before its response's STAT byte (DEDUCED, assumption 11). -/
def takeCommand (o : Origin) (rid code : Byte) (payload : List Byte) (names : Bool) (effect : Effect) (s : State) :
    Host.Outcome State Fault Refusal :=
  match s.stands o rid code payload with
  | none => .next s
  | some h =>
    let s1 := s.dropHanded o
    let s2 := if names then s1.restartTenureOf o rid else s1
    let r := effect s2
    .next (((r.1.reportPool s.freeRecords).respond h r.2).settleAttention)

/-- The common tests of a requester command (R156 steps 3 and 5): BAD_LENGTH, then NOT_OPEN; refused gives the payload that
a refusal of this command carries. -/
def requesterEffect {α : Type} (o : Origin) (rid : Byte) (fields : Option α) (refused : List Byte)
    (effect : ReqSlot → α → Effect) : Effect := fun s =>
  match fields with
  | none => (s, ⟨.badLength, refused⟩)
  | some f =>
    match s.findReq o rid with
    | none => (s, ⟨.notOpen, refused⟩)
    | some r => effect r f s

/-- The common test of a command without a requester that needs no ADMIN (R156 step 3). -/
def plainEffect {α : Type} (fields : Option α) (effect : α → Effect) : Effect := fun s =>
  match fields with
  | none => refuse .badLength s
  | some f => effect f s

/-- The common tests of a command that requires ADMIN (R156 steps 3 and 4). -/
def adminEffect {α : Type} (o : Origin) (fields : Option α) (effect : α → Effect) : Effect := fun s =>
  match fields with
  | none => refuse .badLength s
  | some f => if s.admin o then effect f s else refuse .noRight s

/-- A requester command with an ordinary refusal payload (R156). -/
def takeRequesterCommand {α : Type} (o : Origin) (rid code : Byte) (payload : List Byte) (fields : List Byte → Option α)
    (effect : ReqSlot → α → Effect) (s : State) : Host.Outcome State Fault Refusal :=
  takeCommand o rid code payload true (requesterEffect o rid (fields payload) [] effect) s

/-- A command without a requester that needs no ADMIN (R94, R156). -/
def takePlainCommand {α : Type} (o : Origin) (rid code : Byte) (payload : List Byte) (fields : List Byte → Option α)
    (effect : α → Effect) (s : State) : Host.Outcome State Fault Refusal :=
  takeCommand o rid code payload false (plainEffect (fields payload) effect) s

/-- A command without a requester that requires ADMIN (Table 6.2, R95, R156). -/
def takeAdminCommand {α : Type} (o : Origin) (rid code : Byte) (payload : List Byte) (fields : List Byte → Option α)
    (effect : α → Effect) (s : State) : Host.Outcome State Fault Refusal :=
  takeCommand o rid code payload false (adminEffect o (fields payload) effect) s

/-- The end of an event that no command started: what it did, POOL_LOW and the ATN lines. -/
def finishEvent (before : State) (after : State) : Host.Outcome State Fault Refusal :=
  .next (after.endEvent before.freeRecords)

end Sys2Proof.Machine
end

