-- ==== Sys2Proof/Machine/Requesters.lean ====
section
/-! DEFINITION. The commands of the chapters Requesters and Notices that name a requester: OPEN, CLOSE, RENEW, SET_BUDGET,
LIST_MINE, FETCH_NOTICE (R157). -/

namespace Sys2Proof.Machine

/-- The range of local ids of an origin: 0 to 15 for a port, 0 to 3 for a node (R97). -/
def localIdInRange : Origin → Byte → Bool
  | .portA, l => l.toNat ≤ 15
  | .portB, l => l.toNat ≤ 15
  | .node _, l => l.toNat ≤ 3

/-- Whether the local id, priority, budget and tenure of an OPEN are refused BAD_VALUE (R97). -/
def openRefused (o : Origin) (rid : Byte) (f : OpenFields) : Bool :=
  !localIdInRange o rid ||
  3 < f.priority ||
  f.budget = 0 || 24 < f.budget ||
  (1 ≤ f.tenure && f.tenure ≤ 99) ||
  (f.tenure = 0 && match o with | .node _ => true | .portA => false | .portB => false)

/-- The record that an OPEN writes (R97 steps 1 to 4). -/
def openedRecord (o : Origin) (rid : Byte) (f : OpenFields) : Requester where
  origin := o
  localId := rid
  priority := f.priority
  budget := f.budget
  holdCount := 0
  waitCount := 0
  tenure := f.tenure
  tenureLeft := armed f.tenure
  overrun := false

/-- The taking of the lowest FREE slot by an OPEN, and its answer with the reopened flag; REQUESTERS_FULL without a FREE slot
(R97, R98). -/
def openSlot (o : Origin) (rid : Byte) (f : OpenFields) (reopened : Bool) : Effect := fun s =>
  match s.lowestFree with
  | none => refuse .requestersFull s
  | some r => (s.setReq r (some (openedRecord o rid f)), ⟨.ok, [flagByte reopened]⟩)

/-- OPEN after its length test (R97, R98): BAD_VALUE, then a reopen of an open pair, else a plain opening. -/
def openEffect (o : Origin) (rid : Byte) (f : OpenFields) : Effect := fun s =>
  if openRefused o rid f then refuse .badValue s
  else
    match s.findReq o rid with
    | some r => openSlot o rid f true (s.evict r .reopen)
    | none => openSlot o rid f false s

/-- OPEN (R97, R98, code 10h). -/
def execOpenRequester (o : Origin) (rid : Byte) (payload : List Byte) (s : State) : Host.Outcome State Fault Refusal :=
  takeCommand o rid 0x10#8 payload true (plainEffect (openPayload payload) (openEffect o rid)) s

/-- CLOSE of an open requester (R103): the steps of RELEASE_ALL, its notices discarded, its tenure disarmed, its slot FREE. -/
def closeEffect (r : ReqSlot) (_ : Unit) : Effect := fun s =>
  (((s.reclaim r false).discardNotices r).setReq r none, s.reclaimAnswer r)

/-- CLOSE (R103, code 11h). -/
def execCloseRequester (o : Origin) (rid : Byte) (payload : List Byte) (s : State) : Host.Outcome State Fault Refusal :=
  takeRequesterCommand o rid 0x11#8 payload noPayload closeEffect s

/-- RENEW (R101, code 12h): nothing beyond the tenure restart of every requester command. -/
def execRenew (o : Origin) (rid : Byte) (payload : List Byte) (s : State) : Host.Outcome State Fault Refusal :=
  takeRequesterCommand o rid 0x12#8 payload noPayload (fun _ _ => answerOk []) s

/-- SET_BUDGET of an open requester (R100). -/
def setBudgetEffect (r : ReqSlot) (b : Byte) : Effect := fun s =>
  if b.toNat = 0 ∨ 24 < b.toNat then refuse .badValue s
  else
    match s.req r with
    | none => refuse .notOpen s
    | some q =>
      if b.toNat < q.holdCount + q.waitCount then refuse .budgetInUse s
      else changeOk (fun s => s.modifyReq r fun q => { q with budget := b.toNat }) s

/-- SET_BUDGET (R100, code 13h). -/
def execSetBudget (o : Origin) (rid : Byte) (payload : List Byte) (s : State) : Host.Outcome State Fault Refusal :=
  takeRequesterCommand o rid 0x13#8 payload bytePayload setBudgetEffect s

/-- The five bytes of a LIST_MINE item: handle, item byte (mode in bit 7, set-id-present in bit 6, queue position in bits 5 to
0, 0 for a hold), set id (R102, R157). -/
def mineItem (s : State) (r : ReqSlot) (e : EntrySlot) (en : Entry) : List Byte :=
  match (match en.hold r with | some c => some c | none => en.wait r) with
  | none => []
  | some c =>
    let item := (if c.mode = .shared then 128 else 0) + (if c.setId.isSome then 64 else 0) +
      (if (en.hold r).isSome then 0 else en.position r)
    handleBytes e (s.generation e) ++ [byteOf item] ++
      (match c.setId with | some id => bytes16 id.toNat | none => [0x00#8, 0x00#8])

/-- The next cursor of a walk: the slot of the eighth item plus 1 when 8 were collected, else 256 (R11, R102). -/
def nextCursor (page : List EntrySlot) : Nat :=
  if page.length = Config.pageSize then
    match page.getLast? with
    | some e => e.val + 1
    | none => 256
  else 256

/-- The entries that a LIST_MINE returns: those with a record of the requester from the cursor slot upward, at most 8 (R102). -/
def State.minePage (s : State) (r : ReqSlot) (cursor : Nat) : List EntrySlot :=
  ((s.slotsWhere fun en => en.claimed r).filter fun e => cursor ≤ e.val).take Config.pageSize

/-- The answer of a LIST_MINE (R102, R157). -/
def State.mineAnswer (s : State) (r : ReqSlot) (q : Requester) (cursor : Nat) : List Byte :=
  let page := s.minePage r cursor
  [flagByte q.overrun, byteOf (s.noticeQueue r).length, byteOf q.budget, byteOf q.holdCount, byteOf q.waitCount,
    byteOf page.length] ++ bytes16 (nextCursor page) ++
    page.flatMap fun e =>
      match s.entry e with
      | some en => mineItem s r e en
      | none => []

/-- LIST_MINE of an open requester; with cursor 0 it clears overrun after the answer has been taken (R102, R115). -/
def listMineEffect (r : ReqSlot) (cursor : Nat) : Effect := fun s =>
  if 256 < cursor then refuse .badValue s
  else
    match s.req r with
    | none => refuse .notOpen s
    | some q =>
      let s' := if cursor = 0 then s.setReq r (some { q with overrun := false }) else s
      (s', ⟨.ok, s.mineAnswer r q cursor⟩)

/-- LIST_MINE (R102, code 14h). -/
def execListMine (o : Origin) (rid : Byte) (payload : List Byte) (s : State) : Host.Outcome State Fault Refusal :=
  takeRequesterCommand o rid 0x14#8 payload wordPayload listMineEffect s

/-- FETCH_NOTICE of an open requester of a port: the oldest notice is removed and returned with the number left and the overrun
flag, or EMPTY with the flag (R116). -/
def fetchNoticeEffect (r : ReqSlot) (_ : Unit) : Effect := fun s =>
  let overrun := match s.req r with | some q => q.overrun | none => false
  match s.noticeQueue r with
  | [] => (s, ⟨.empty, [flagByte overrun]⟩)
  | n :: rest => (s.dropHeadNotice r, ⟨.ok, n.bytes ++ [byteOf rest.length, flagByte overrun]⟩)

/-- FETCH_NOTICE (R116, code 15h): from a node it is BAD_COMMAND, before every other test. -/
def execFetchNotice (o : Origin) (rid : Byte) (payload : List Byte) (s : State) : Host.Outcome State Fault Refusal :=
  match o with
  | .node _ => takeCommand o rid 0x15#8 payload true (refuse .badCommand) s
  | .portA => takeRequesterCommand .portA rid 0x15#8 payload noPayload fetchNoticeEffect s
  | .portB => takeRequesterCommand .portB rid 0x15#8 payload noPayload fetchNoticeEffect s

end Sys2Proof.Machine
end

