-- ==== Sys2Proof/Machine/Entries.lean ====
section
/-! DEFINITION. The entry and directory commands: DEFINE, RETIRE, SET_LIMITS, LOOKUP, FIND, READ_ENTRY, WRITE_NOTE (R158). -/

namespace Sys2Proof.Machine

/-- Whether a share limit is out of its range 1 to 8 (R8, R9). -/
def shareLimitBad (n : Nat) : Bool := n = 0 || 8 < n

/-- The entry that DEFINE writes (R8). -/
def definedEntry (f : DefineFields) : Entry where
  tag := f.tag
  state := .idle
  shareLimit := f.shareLimit
  holdLimit := f.holdLimit
  holders := []
  queue := []
  note := []
  noteStale := false
  grantCount := 0

/-- The pair of a new entry enters DIR, which is kept in ascending slot order (R5, R8). -/
def insertPair (p : Tag × EntrySlot) : List (Tag × EntrySlot) → List (Tag × EntrySlot)
  | [] => [p]
  | q :: rest => if q.2 < p.2 then q :: insertPair p rest else p :: q :: rest

/-- DEFINE with the right (R8). -/
def defineEffect (f : DefineFields) : Effect := fun s =>
  if shareLimitBad f.shareLimit then refuse .badValue s
  else if s.dir.any fun p => p.1 = f.tag then refuse .tagExists s
  else
    match s.lowestUnused with
    | none => refuse .tableFull s
    | some e =>
      ({ s.setEntry e (definedEntry f) with dir := insertPair (f.tag, e) s.dir },
        ⟨.ok, handleBytes e (s.generation e)⟩)

/-- DEFINE (R8, code 20h). -/
def execDefine (o : Origin) (rid : Byte) (payload : List Byte) (s : State) : Host.Outcome State Fault Refusal :=
  takeAdminCommand o rid 0x20#8 payload definePayload defineEffect s

/-- The removal of one wait of a retired entry (R16): a single wait goes with a WAIT_CANCELLED notice for the entry; a claim
set goes whole with one for its first member, and its other members are recomputed and are due for a pass. -/
def cancelWait (e : EntrySlot) (acc : State × List EntrySlot) (c : Claim) : State × List EntrySlot :=
  let s := acc.1
  match c.setId with
  | none => ((s.dropWait c.requester e).queueNotice c.requester e (.waitCancelled none), acc.2)
  | some id =>
    let others := (s.setMembers c.requester id).filter fun m => m ≠ e
    let first := match s.firstMember c.requester id with | some (f, _) => f | none => e
    let s := (s.dropSet c.requester id).queueNotice c.requester first (.waitCancelled (some id))
    (s.recomputeAll others, acc.2 ++ others)

/-- The removal of every wait of an entry, in queue order from the head (R16); with it the other members of the removed sets. -/
def State.cancelWaits (s : State) (e : EntrySlot) (en : Entry) : State × List EntrySlot :=
  en.queue.foldl (cancelWait e) (s, [])

/-- The revocation of every hold of an entry in ascending requester slot order, with a REVOKED notice of reason RETIRED and note
stale set for an exclusive hold (R18). -/
def State.revokeHolds (s : State) (e : EntrySlot) (en : Entry) : State :=
  en.holders.foldl (fun s c => (s.dropHold c.requester e true).queueNotice c.requester e (.revoked .retired)) s

/-- The retire outcome byte: RETIRED 00h, DRAINING 01h (Table 10.4). -/
def retireOutcome (draining : Bool) : Answer := ⟨.ok, [if draining then 0x01#8 else 0x00#8]⟩

/-- A FORCE of an entry (R18, R19): the waits, then the holds are removed and the slot is freed. -/
def State.forceRetire (s : State) (e : EntrySlot) (en : Entry) : State × List EntrySlot :=
  let c := s.cancelWaits e en
  ((c.1.revokeHolds e en).freeSlot e, c.2)

/-- A DRAIN of a held entry (R17): the waits are removed and the entry becomes RETIRING. -/
def State.drainRetire (s : State) (e : EntrySlot) (en : Entry) : State × List EntrySlot :=
  let c := s.cancelWaits e en
  (c.1.modifyEntry e (fun en => { en with state := .retiring }), c.2)

/-- The steps of a RETIRE by the state of the entry when it is taken (R15 to R19): the state after its own steps, the entries
due for a pass, and whether the outcome is DRAINING. -/
def State.retireSteps (s : State) (e : EntrySlot) (en : Entry) (force : Bool) : (State × List EntrySlot) × Bool :=
  match en.state with
  | .idle => ((s.freeSlot e, []), false)
  | .reserved => let c := s.cancelWaits e en; ((c.1.freeSlot e, c.2), false)
  | .exclusive => if force then (s.forceRetire e en, false) else (s.drainRetire e en, true)
  | .shared => if force then (s.forceRetire e en, false) else (s.drainRetire e en, true)
  | .retiring => if force then (s.forceRetire e en, false) else ((s, []), true)

/-- RETIRE with the right (R15): the event's own steps, then the passes on the other members in ascending slot order. -/
def retireEffect (f : Handle × Byte) : Effect := fun s =>
  match retireForceOf f.2 with
  | none => refuse .badValue s
  | some force =>
    match s.entryOf f.1 with
    | none => refuse .staleHandle s
    | some en =>
      let r := s.retireSteps f.1.slot en force
      let due := (List.finRange 256).filter fun e => r.1.2.contains e
      (r.1.1.runPasses .loud due, retireOutcome r.2)

/-- RETIRE (R15, code 21h). -/
def execRetire (o : Origin) (rid : Byte) (payload : List Byte) (s : State) : Host.Outcome State Fault Refusal :=
  takeAdminCommand o rid 0x21#8 payload retirePayload retireEffect s

/-- SET_LIMITS with the right (R9): a raised share limit runs the admission pass. -/
def setLimitsEffect (f : LimitFields) : Effect := fun s =>
  if shareLimitBad f.shareLimit then refuse .badValue s
  else
    match s.entryOf f.handle with
    | none => refuse .staleHandle s
    | some en =>
      if f.shareLimit < en.holders.length then refuse .limitInUse s
      else
        let s' := s.setEntry f.handle.slot { en with shareLimit := f.shareLimit, holdLimit := f.holdLimit }
        (if en.shareLimit < f.shareLimit then s'.runPasses .loud [f.handle.slot] else s', ⟨.ok, []⟩)

/-- SET_LIMITS (R9, code 22h). -/
def execSetLimits (o : Origin) (rid : Byte) (payload : List Byte) (s : State) : Host.Outcome State Fault Refusal :=
  takeAdminCommand o rid 0x22#8 payload limitsPayload setLimitsEffect s

/-- LOOKUP (R10): DIR maps the tag to its slot; the answer is its handle and state, or NO_SUCH_TAG. -/
def lookupEffect (t : Tag) : Effect := fun s =>
  match s.dir.find? fun p => p.1 = t with
  | none => refuse .noSuchTag s
  | some p =>
    match s.entry p.2 with
    | none => refuse .noSuchTag s
    | some en => answerOk (handleBytes p.2 (s.generation p.2) ++ [en.state.code]) s

/-- LOOKUP (R10, code 23h). -/
def execLookup (o : Origin) (rid : Byte) (payload : List Byte) (s : State) : Host.Outcome State Fault Refusal :=
  takePlainCommand o rid 0x23#8 payload tagPayload lookupEffect s

/-- The entries that a FIND collects: live, at or above the cursor, agreeing with the value where the mask has a 1, at most 8
(R11). -/
def State.findPage (s : State) (f : FindFields) : List EntrySlot :=
  ((s.slotsWhere fun en => en.tag &&& f.mask = f.value &&& f.mask).filter fun e => f.cursor ≤ e.val).take Config.pageSize

/-- An item of a FIND answer: handle and flags with RETIRING in bit 0 (R158). -/
def findItem (s : State) (e : EntrySlot) : List Byte :=
  handleBytes e (s.generation e) ++
    [flagByte (match s.entry e with | some en => en.state = .retiring | none => false)]

/-- FIND (R11). -/
def findEffect (f : FindFields) : Effect := fun s =>
  if 256 < f.cursor then refuse .badValue s
  else
    let page := s.findPage f
    answerOk ([byteOf page.length] ++ bytes16 (nextCursor page) ++ page.flatMap (findItem s)) s

/-- FIND (R11, code 24h). -/
def execFind (o : Origin) (rid : Byte) (payload : List Byte) (s : State) : Host.Outcome State Fault Refusal :=
  takePlainCommand o rid 0x24#8 payload findPayload findEffect s

/-- A holder in READ_ENTRY: origin, local id and mode (R12, R163). -/
def holderItem (s : State) (c : Claim) : List Byte :=
  match s.req c.requester with
  | some q => [originCode q.origin, q.localId, c.mode.code]
  | none => []

/-- The answer of READ_ENTRY (Table 1.3, R158). -/
def State.entryAnswer (s : State) (en : Entry) : List Byte :=
  [en.state.code] ++ tagBytes en.tag ++ [byteOf en.shareLimit] ++ bytes16 en.holdLimit ++ bytes16 en.grantCount.toNat ++
    [byteOf en.queue.length, noteByte en.noteStale en.note.length] ++ en.note ++ [byteOf en.holders.length] ++
    en.holders.flatMap (holderItem s)

/-- READ_ENTRY (R12). -/
def readEntryEffect (h : Handle) : Effect := fun s =>
  match s.entryOf h with
  | none => refuse .staleHandle s
  | some en => answerOk (s.entryAnswer en) s

/-- READ_ENTRY (R12, code 25h). -/
def execReadEntry (o : Origin) (rid : Byte) (payload : List Byte) (s : State) : Host.Outcome State Fault Refusal :=
  takePlainCommand o rid 0x25#8 payload handlePayload readEntryEffect s

/-- WRITE_NOTE of an open requester (R13). -/
def writeNoteEffect (r : ReqSlot) (f : NoteFields) : Effect := fun s =>
  if 8 < f.length ∨ f.length ≠ f.bytes.length then refuse .badValue s
  else
    match s.entryOf f.handle with
    | none => refuse .staleHandle s
    | some en =>
      if en.holdsExclusive r then
        (s.setEntry f.handle.slot { en with note := f.bytes, noteStale := false }, ⟨.ok, []⟩)
      else refuse .notExclusive s

/-- WRITE_NOTE (R13, code 26h). -/
def execWriteNote (o : Origin) (rid : Byte) (payload : List Byte) (s : State) : Host.Outcome State Fault Refusal :=
  takeRequesterCommand o rid 0x26#8 payload notePayload writeNoteEffect s

end Sys2Proof.Machine
end

