-- ==== Sys2Proof/Machine/Claims.lean ====
section
/-! DEFINITION. The claim commands: ACQUIRE, ACQUIRE_SET, RELEASE, RELEASE_ALL, CANCEL, UPGRADE, DOWNGRADE (R159). -/

namespace Sys2Proof.Machine

/-! ## ACQUIRE -/

/-- What a GRANTED answer reports of an entry: its grant count and its note byte (R28, R159). -/
def Entry.grantReport (en : Entry) : List Byte := bytes16 en.grantCount.toNat ++ [noteByte en.noteStale en.note.length]

/-- The grant report of a slot. -/
def State.grantReport (s : State) (e : EntrySlot) : List Byte :=
  match s.entry e with
  | some en => en.grantReport
  | none => []

/-- What a QUEUED answer reports of an entry: the position of the requester's record and the queue length (R30, R159). -/
def State.queueReport (s : State) (r : ReqSlot) (e : EntrySlot) : List Byte :=
  match s.entry e with
  | some en => [byteOf (en.position r), byteOf en.queue.length]
  | none => []

/-- The countdown that a placement arms: none for the unlimited wait FFFFh (R30, R54, R80). -/
def waitDeadline (waitLimit : Nat) : Option Nat := if waitLimit = 65535 then none else some waitLimit

/-- Whether a requester's record on a slot is a hold. -/
def State.isHolding (s : State) (r : ReqSlot) (e : EntrySlot) : Bool :=
  match s.entry e with
  | some en => (en.hold r).isSome
  | none => false

/-- Whether a requester's wait stands at the head of a slot's queue. -/
def State.atHead (s : State) (r : ReqSlot) (e : EntrySlot) : Bool :=
  match s.entry e with
  | some en => (en.queue.head?.map Claim.requester) = some r
  | none => false

/-- The placement of a single wait (R30), with the admission pass when it stands at the head (R32): GRANTED when the pass
grants it, else QUEUED with the position and queue length after placement. -/
def placeSingle (r : ReqSlot) (e : EntrySlot) (m : Mode) (waitLimit : Nat) : Effect := fun s =>
  let s1 := s.place e ⟨r, m, none, false, waitDeadline waitLimit⟩
  let s2 := if s1.atHead r e then s1.runPasses (.single r e) [e] else s1
  if s2.isHolding r e then (s2, ⟨.granted, s2.grantReport e⟩)
  else (s2, ⟨.queued, s1.queueReport r e⟩)

/-- An ACQUIRE that passed its tests (R27 to R30): granted at once, refused BUSY, refused WOULD_DEADLOCK or placed. -/
def acquireTested (r : ReqSlot) (e : EntrySlot) (en : Entry) (m : Mode) (waitLimit : Nat) : Effect := fun s =>
  if en.grantsAtOnce m then
    let s' := s.grantNow r e m none
    (s', ⟨.granted, s'.grantReport e⟩)
  else if waitLimit = 0 then refuse .busy s
  else if s.wouldDeadlock r [(e, ⟨r, m, none, false, waitDeadline waitLimit⟩)] then refuse .wouldDeadlock s
  else placeSingle r e m waitLimit s

/-- ACQUIRE of an open requester (R26): BAD_VALUE, STALE_HANDLE, RETIRING, ALREADY_CLAIMED, BUDGET, POOL_EMPTY, in this order. -/
def acquireEffect (r : ReqSlot) (f : AcquireFields) : Effect := fun s =>
  match modeOf f.mode with
  | none => refuse .badValue s
  | some m =>
    match s.entryOf f.handle, s.req r with
    | none, _ => refuse .staleHandle s
    | some _, none => refuse .notOpen s
    | some en, some q =>
      if en.state = .retiring then refuse .retiring s
      else if en.claimed r then refuse .alreadyClaimed s
      else if q.holdCount + q.waitCount = q.budget then refuse .budget s
      else if s.freeRecords = 0 then refuse .poolEmpty s
      else acquireTested r f.handle.slot en m f.waitLimit s

/-- ACQUIRE (R26, code 30h). -/
def execAcquire (o : Origin) (rid : Byte) (payload : List Byte) (s : State) : Host.Outcome State Fault Refusal :=
  takeRequesterCommand o rid 0x30#8 payload acquirePayload acquireEffect s

/-! ## ACQUIRE_SET -/

/-- The members of a set as slots and modes; none when a mode byte is no mode (R51). -/
def memberModes : List Member → Option (List (EntrySlot × Mode))
  | [] => some []
  | m :: rest =>
    match modeOf m.mode, memberModes rest with
    | some mode, some l => some ((m.handle.slot, mode) :: l)
    | _, _ => none

/-- A refusal of an ACQUIRE_SET carries a member number (R52). -/
def refuseMember (r : Result) (member : Nat) : Effect := fun s => (s, ⟨r, [byteOf member]⟩)

/-- The first member that fails STALE_HANDLE, RETIRING or ALREADY_CLAIMED, with its number (R52 tests 1 to 3). -/
def memberTest (s : State) (r : ReqSlot) : Nat → List Member → Option (Result × Nat)
  | _, [] => none
  | k, m :: rest =>
    match s.entryOf m.handle with
    | none => some (.staleHandle, k)
    | some en =>
      if en.state = .retiring then some (.retiring, k)
      else if en.claimed r then some (.alreadyClaimed, k)
      else memberTest s r (k + 1) rest

/-- Whether every member is granted at once (R53). -/
def State.allAtOnce (s : State) (members : List (EntrySlot × Mode)) : Bool :=
  members.all fun p =>
    match s.entry p.1 with
    | some en => en.grantsAtOnce p.2
    | none => false

/-- The waiting records of a set: each with the set id, the first one marked and carrying the countdown (R54). -/
def setRecords (r : ReqSlot) (id : Word16) (waitLimit : Nat) : List (EntrySlot × Mode) → List (EntrySlot × Claim)
  | [] => []
  | p :: rest =>
    (p.1, ⟨r, p.2, some id, true, waitDeadline waitLimit⟩) ::
      rest.map fun q => (q.1, ⟨r, q.2, some id, false, none⟩)

/-- The GRANTED answer of a set: set id, then the grant report of each member in the order named (R53, R159). -/
def State.setGranted (s : State) (id : Word16) (members : List (EntrySlot × Mode)) : Answer :=
  ⟨.granted, bytes16 id.toNat ++ members.flatMap fun p => s.grantReport p.1⟩

/-- The placement of a set in one event (R54), the passes on the members where it stands at the head (R55), and its answer. -/
def placeSet (r : ReqSlot) (members : List (EntrySlot × Mode)) (waitLimit : Nat) : Effect := fun s =>
  let s1 := s.takeSetId
  let id := s1.setIdCounter
  let s2 := (setRecords r id waitLimit members).foldl (fun s p => s.place p.1 p.2) s1
  let due := s2.slotsWhere fun en => (en.queue.head?.map fun c => c.inSet r id).getD false
  let s3 := s2.runPasses (.set r id) due
  if members.all fun p => s3.isHolding r p.1 then (s3, s3.setGranted id members)
  else (s3, ⟨.queued, bytes16 id.toNat ++ members.flatMap fun p => s2.queueReport r p.1⟩)

/-- An ACQUIRE_SET that passed its tests (R53, R54). The wait-for check is made once over all members; the set id of the records
it is computed with is of no effect on it (R66). -/
def acquireSetTested (r : ReqSlot) (members : List (EntrySlot × Mode)) (waitLimit : Nat) : Effect := fun s =>
  if s.allAtOnce members then
    let s1 := s.takeSetId
    let id := s1.setIdCounter
    let s2 := members.foldl (fun s p => s.grantNow r p.1 p.2 (some id)) s1
    (s2, s2.setGranted id members)
  else if waitLimit = 0 then refuseMember .busy 0 s
  else if s.wouldDeadlock r (setRecords r s.setIdCounter waitLimit members) then refuseMember .wouldDeadlock 0 s
  else placeSet r members waitLimit s

/-- ACQUIRE_SET of an open requester: the tests on the payload (R51), member by member, then on the whole request (R52). -/
def acquireSetEffect (r : ReqSlot) (f : SetFields) : Effect := fun s =>
  match memberModes f.members with
  | none => refuseMember .badValue 0 s
  | some members =>
    if members.length < 2 ∨ 4 < members.length ∨ ¬ (members.map Prod.fst).Nodup then refuseMember .badValue 0 s
    else
      match memberTest s r 1 f.members, s.req r with
      | some (result, k), _ => refuseMember result k s
      | none, none => refuseMember .notOpen 0 s
      | none, some q =>
        if q.budget < q.holdCount + q.waitCount + members.length then refuseMember .budget 0 s
        else if s.freeRecords < members.length then refuseMember .poolEmpty 0 s
        else acquireSetTested r members f.waitLimit s

/-- ACQUIRE_SET (R51, code 31h); BAD_LENGTH and NOT_OPEN carry member number 0 (R52). -/
def execAcquireSet (o : Origin) (rid : Byte) (payload : List Byte) (s : State) : Host.Outcome State Fault Refusal :=
  takeCommand o rid 0x31#8 payload true (requesterEffect o rid (setPayload payload) [0x00#8] acquireSetEffect) s

/-! ## Ending and changing claims -/

/-- RELEASE of an open requester (R39). -/
def releaseEffect (r : ReqSlot) (h : Handle) : Effect := fun s =>
  match s.entryOf h with
  | none => refuse .staleHandle s
  | some en =>
    if (en.hold r).isSome then
      (((s.dropHold r h.slot false).recompute h.slot).runPasses .loud [h.slot], ⟨.ok, []⟩)
    else refuse .notHeld s

/-- RELEASE (R39, code 32h). -/
def execRelease (o : Origin) (rid : Byte) (payload : List Byte) (s : State) : Host.Outcome State Fault Refusal :=
  takeRequesterCommand o rid 0x32#8 payload handlePayload releaseEffect s

/-- RELEASE_ALL of an open requester (R46). -/
def releaseAllEffect (r : ReqSlot) (_ : Unit) : Effect := fun s =>
  (s.reclaim r false, s.reclaimAnswer r)

/-- RELEASE_ALL (R46, code 33h). -/
def execReleaseAll (o : Origin) (rid : Byte) (payload : List Byte) (s : State) : Host.Outcome State Fault Refusal :=
  takeRequesterCommand o rid 0x33#8 payload noPayload releaseAllEffect s

/-- The removal of a whole waiting set with its passes on every member in ascending slot order (R62 steps 1 to 5; R63). -/
def State.endSet (s : State) (r : ReqSlot) (id : Word16) (notify : State → State) : State :=
  let members := s.setMembers r id
  ((notify (s.dropSet r id)).recomputeAll members).runPasses .loud members

/-- CANCEL of an open requester: a single wait (R41) or a whole claim set (R62). -/
def cancelEffect (r : ReqSlot) (h : Handle) : Effect := fun s =>
  match s.entryOf h with
  | none => refuse .staleHandle s
  | some en =>
    match en.wait r with
    | none => refuse .notWaiting s
    | some c =>
      match c.setId with
      | none => (((s.dropWait r h.slot).recompute h.slot).runPasses .loud [h.slot], ⟨.ok, []⟩)
      | some id => (s.endSet r id (fun s => s), ⟨.ok, []⟩)

/-- CANCEL (R41, code 34h). -/
def execCancel (o : Origin) (rid : Byte) (payload : List Byte) (s : State) : Host.Outcome State Fault Refusal :=
  takeRequesterCommand o rid 0x34#8 payload handlePayload cancelEffect s

/-- The mode of a requester's hold on an entry changes; the record does not move (R43, R44). -/
def Entry.setHoldMode (en : Entry) (r : ReqSlot) (m : Mode) : Entry :=
  { en with holders := en.holders.map fun c => if c.requester = r then { c with mode := m } else c }

/-- UPGRADE of an open requester (R43). -/
def upgradeEffect (r : ReqSlot) (h : Handle) : Effect := fun s =>
  match s.entryOf h with
  | none => refuse .staleHandle s
  | some en =>
    match en.hold r with
    | none => refuse .notHeld s
    | some c =>
      match c.mode with
      | .exclusive => answerOk [] s
      | .shared =>
        if en.holders.any fun d => d.requester ≠ r then refuse .notSole s
        else changeOk (fun s => (s.setEntry h.slot (en.setHoldMode r .exclusive)).recompute h.slot) s

/-- UPGRADE (R43, code 35h). -/
def execUpgrade (o : Origin) (rid : Byte) (payload : List Byte) (s : State) : Host.Outcome State Fault Refusal :=
  takeRequesterCommand o rid 0x35#8 payload handlePayload upgradeEffect s

/-- DOWNGRADE of an open requester (R44). -/
def downgradeEffect (r : ReqSlot) (h : Handle) : Effect := fun s =>
  match s.entryOf h with
  | none => refuse .staleHandle s
  | some en =>
    if en.holdsExclusive r then
      changeOk (fun s =>
        ((s.setEntry h.slot (en.setHoldMode r .shared)).recompute h.slot).runPasses .loud [h.slot]) s
    else refuse .notExclusive s

/-- DOWNGRADE (R44, code 36h). -/
def execDowngrade (o : Origin) (rid : Byte) (payload : List Byte) (s : State) : Host.Outcome State Fault Refusal :=
  takeRequesterCommand o rid 0x36#8 payload handlePayload downgradeEffect s

end Sys2Proof.Machine
end

