-- ==== Sys2Proof/Machine/Limits.lean ====
section
/-! DEFINITION. The deadline unit: TICK and the four expiries (R76 to R92). -/

namespace Sys2Proof.Machine

/-- One period of a countdown; one that reached zero stays there until its expiry is taken or it is disarmed (R78, R79). -/
def lowered (d : Option Nat) : Option Nat := d.map fun n => n - 1

/-- Every countdown on an entry's records loses one period (R78). -/
def Entry.tick (en : Entry) : Entry :=
  { en with
    holders := en.holders.map fun c => { c with deadline := lowered c.deadline }
    queue := en.queue.map fun c => { c with deadline := lowered c.deadline } }

/-- The tick of the time base: the cycle count starts again from zero and every armed countdown loses one period (R76, R78). -/
def State.lowerAll (s : State) : State :=
  { s with
    clkCount := 0
    slots := s.slots.map fun sl => { sl with live := sl.live.map Entry.tick }
    requesters := s.requesters.map fun q => q.map fun q => { q with tenureLeft := lowered q.tenureLeft } }

/-- TICK (R76): the time base runs from the end of reset. -/
def execTick (s : State) : Host.Outcome State Fault Refusal := .next (if s.inReset then s else s.lowerAll)

/-- WAIT_LIMIT_EXPIRY (R82): taken when the requester's single wait on the entry has a countdown that reached zero; it is
removed with a WAIT_EXPIRED notice, and the admission pass runs. Otherwise the expiry is not taken (R79). The pass grants a fitting head
whose own countdown reached zero at the same tick and whose expiry is not yet taken: that wait is then a hold and its expiry is not taken,
where R83 has both records gone (DESIGN CHOICE, assumption 21). -/
def execWaitLimitExpiry (r : ReqSlot) (e : EntrySlot) (s : State) : Host.Outcome State Fault Refusal :=
  match (s.entry e).bind fun en => en.wait r with
  | none => .next s
  | some c =>
    if c.setId = none ∧ c.deadline = some 0 then
      finishEvent s ((((s.dropWait r e).queueNotice r e (.waitExpired none)).recompute e).runPasses .loud [e])
    else .next s

/-- SET_WAIT_LIMIT_EXPIRY (R63): taken when the requester's wait on the entry is the first member of a claim set and its
countdown reached zero; the whole set is removed with one WAIT_EXPIRED notice, and every member entry is passed. Those passes too grant a
fitting head that has expired but whose expiry is not yet taken (DESIGN CHOICE, assumption 21). -/
def execSetWaitLimitExpiry (r : ReqSlot) (e : EntrySlot) (s : State) : Host.Outcome State Fault Refusal :=
  match (s.entry e).bind fun en => en.wait r with
  | none => .next s
  | some c =>
    match c.setId with
    | none => .next s
    | some id =>
      if c.firstMember ∧ c.deadline = some 0 then
        finishEvent s (s.endSet r id fun s => s.queueNotice r e (.waitExpired (some id)))
      else .next s

/-- HOLD_LIMIT_EXPIRY (R86): taken when the requester's hold on the entry has a countdown that reached zero; the hold is revoked
with note stale set when it is exclusive and a REVOKED notice of reason HOLD_LIMIT, and on a live entry the pass runs. -/
def execHoldLimitExpiry (r : ReqSlot) (e : EntrySlot) (s : State) : Host.Outcome State Fault Refusal :=
  match (s.entry e).bind fun en => en.hold r with
  | none => .next s
  | some c =>
    if c.deadline = some 0 then
      finishEvent s ((((s.dropHold r e true).queueNotice r e (.revoked .holdLimit)).recompute e).runPasses .loud [e])
    else .next s

/-- TENURE_EXPIRY (R90): taken when the requester is open with a tenure countdown that reached zero; it is evicted with cause
TENURE. -/
def execTenureExpiry (r : ReqSlot) (s : State) : Host.Outcome State Fault Refusal :=
  match s.req r with
  | none => .next s
  | some q => if q.tenureLeft = some 0 then finishEvent s (s.evict r .tenure) else .next s

end Sys2Proof.Machine
end

