-- ==== Sys2Proof/Machine/Admin.lean ====
section
/-! DEFINITION. The administration and event commands: EVICT, PURGE_ORIGIN, SET_PORT_RIGHTS, SET_TIMEBASE, ROUTE_EVENT,
READ_EVENTS, SET_POOL_THRESHOLD, READ_PART_STATUS (R160), and a command of unknown code (R156). -/

namespace Sys2Proof.Machine

/-- EVICT with the right (R105). -/
def evictEffect (f : Byte × Byte) : Effect := fun s =>
  match originOf f.1 with
  | none => refuse .badValue s
  | some o =>
    if localIdInRange o f.2 then
      match s.findReq o f.2 with
      | none => refuse .notOpen s
      | some r => changeOk (fun s => s.evict r .evict) s
    else refuse .badValue s

/-- EVICT (R105, code 40h). -/
def execEvict (o : Origin) (rid : Byte) (payload : List Byte) (s : State) : Host.Outcome State Fault Refusal :=
  takeAdminCommand o rid 0x40#8 payload pairPayload evictEffect s

/-- PURGE_ORIGIN with the right (R106). -/
def purgeEffect (b : Byte) : Effect := fun s =>
  match originOf b with
  | none => refuse .badValue s
  | some o => (s.evictAll (s.reqsOf o) .purge, ⟨.ok, [byteOf (s.reqsOf o).length]⟩)

/-- PURGE_ORIGIN (R106, code 41h). -/
def execPurgeOrigin (o : Origin) (rid : Byte) (payload : List Byte) (s : State) : Host.Outcome State Fault Refusal :=
  takeAdminCommand o rid 0x41#8 payload bytePayload purgeEffect s

/-- SET_PORT_RIGHTS after its length test (R96): NO_RIGHT unless the origin is port A, also from port B holding ADMIN. -/
def setPortRightsEffect (o : Origin) (b : Byte) : Effect := fun s =>
  if o = .portA then
    match adminGrantOf b with
    | none => refuse .badValue s
    | some g => changeOk (fun s => { s with adminB := g }) s
  else refuse .noRight s

/-- SET_PORT_RIGHTS (R96, code 42h). -/
def execSetPortRights (o : Origin) (rid : Byte) (payload : List Byte) (s : State) : Host.Outcome State Fault Refusal :=
  takePlainCommand o rid 0x42#8 payload bytePayload (setPortRightsEffect o) s

/-- The bit time in CLKIN cycles: the divider value divided by the bit rate, rounded to the nearest whole number (R133); a tie
goes by the free value. -/
def bitTimeOf (divider : Nat) (rate : LinkRate) : Nat :=
  let q := divider / rate.kbits
  let rest := divider % rate.kbits
  if 2 * rest < rate.kbits then q
  else if rate.kbits < 2 * rest then q + 1
  else if Config.roundTieUp divider rate.kbits then q + 1 else q

/-- A new bit time applies at once when no exchange is in flight and waits for its end otherwise (R133, R134). -/
def State.deriveBitTime (s : State) : State :=
  match s.link.exchange with
  | none => { s with link := { s.link with bitTime := bitTimeOf s.divider s.link.rate } }
  | some _ => { s with link := { s.link with bitTimePending := true } }

/-- SET_TIMEBASE with the right (R77): the divider value is replaced and the cycle count restarts. -/
def setTimebaseEffect (n : Nat) : Effect := fun s =>
  if n < 4000 ∨ 40000 < n then refuse .badValue s
  else changeOk (fun s => { s with divider := n, clkCount := 0 }.deriveBitTime) s

/-- SET_TIMEBASE (R77, code 43h). -/
def execSetTimebase (o : Origin) (rid : Byte) (payload : List Byte) (s : State) : Host.Outcome State Fault Refusal :=
  takeAdminCommand o rid 0x43#8 payload wordPayload setTimebaseEffect s

/-- ROUTE_EVENT with the right (R126): the route is written and the previous one answered. -/
def routeEventEffect (f : Byte × Byte) : Effect := fun s =>
  match partEventOf f.1, routeOf f.2 with
  | some ev, some route =>
    ({ s with routes := s.routes.set ev.index.val route }, ⟨.ok, [(s.routes[ev.index.val]).code]⟩)
  | _, _ => refuse .badValue s

/-- ROUTE_EVENT (R126, code 44h). -/
def execRouteEvent (o : Origin) (rid : Byte) (payload : List Byte) (s : State) : Host.Outcome State Fault Refusal :=
  takeAdminCommand o rid 0x44#8 payload pairPayload routeEventEffect s

/-- The pending set byte: bit n for the event of code n (R160). -/
def eventSetByte (set : Vector Bool 7) : Byte :=
  byteOf (((List.finRange 7).map fun i => if set[i.val] then 2 ^ i.val else 0).sum)

/-- The answer of READ_EVENTS to a port: the pending set, then the detail of each pending event in event code order (R127). -/
def State.eventsAnswer (s : State) (p : PortId) : List Byte :=
  eventSetByte (s.events p) ::
    (List.finRange 7).flatMap fun i =>
      if (s.events p)[i.val] then
        match s.details[i.val] with
        | some d => d.bytes
        | none => []
      else []

/-- READ_EVENTS (R127): a port's pending set is answered and emptied; a node is answered that no event is pending. -/
def readEventsEffect (o : Origin) (_ : Unit) : Effect := fun s =>
  match o with
  | .portA => (s.clearEvents .a, ⟨.ok, s.eventsAnswer .a⟩)
  | .portB => (s.clearEvents .b, ⟨.ok, s.eventsAnswer .b⟩)
  | .node _ => answerOk [0x00#8] s

/-- READ_EVENTS (R127, code 45h). -/
def execReadEvents (o : Origin) (rid : Byte) (payload : List Byte) (s : State) : Host.Outcome State Fault Refusal :=
  takePlainCommand o rid 0x45#8 payload noPayload (readEventsEffect o) s

/-- SET_POOL_THRESHOLD with the right (R130): the re-arming state follows from the present count; no event is raised. -/
def setPoolThresholdEffect (b : Byte) : Effect := fun s =>
  if 64 < b.toNat then refuse .badValue s
  else changeOk (fun s => { s with poolThreshold := b.toNat, poolState := rearmed s.freeRecords b.toNat }) s

/-- SET_POOL_THRESHOLD (R130, code 46h). -/
def execSetPoolThreshold (o : Origin) (rid : Byte) (payload : List Byte) (s : State) : Host.Outcome State Fault Refusal :=
  takeAdminCommand o rid 0x46#8 payload bytePayload setPoolThresholdEffect s

/-- The number of roster nodes in a state (Table 8.2). -/
def State.nodesIn (s : State) (st : NodeState) : Nat := (s.link.roster.filter fun n => n.state = st).length

/-- The number of OPEN requester slots (Table 8.2). -/
def State.openCount (s : State) : Nat := (s.requesters.toList.filter Option.isSome).length

/-- The number of slots that are not UNUSED (Table 8.2). -/
def State.liveCount (s : State) : Nat := (s.slots.toList.filter fun sl => sl.live.isSome).length

/-- The answer of READ_PART_STATUS (Table 8.2, R160). -/
def State.statusAnswer (s : State) : List Byte :=
  bytes16 s.freeRecords ++ bytes16 s.liveCount ++ [byteOf s.openCount, byteOf s.poolThreshold, s.poolState.code] ++
    s.routes.toList.map Route.code ++
    [flagByte s.adminB, flagByte s.link.enabled, s.link.rate.code, byteOf s.link.roster.length,
      byteOf (s.nodesIn .joining), byteOf (s.nodesIn .active), byteOf (s.nodesIn .silent), byteOf (s.nodesIn .leaving)]

/-- READ_PART_STATUS (R131, code 47h). -/
def execReadPartStatus (o : Origin) (rid : Byte) (payload : List Byte) (s : State) : Host.Outcome State Fault Refusal :=
  takePlainCommand o rid 0x47#8 payload noPayload (fun _ s => answerOk s.statusAnswer s) s

/-- A command of unknown code, or FETCH_NOTICE from a node (R116, R156 step 2): BAD_COMMAND, and the tenure of the open requester
it names is restarted (R89). A term whose code is a command's stands for no such command and is not taken. -/
def execUnknownCommand (o : Origin) (rid : Byte) (code : Byte) (payload : List Byte) (s : State) :
    Host.Outcome State Fault Refusal :=
  if isCommandCode o code then .next s else takeCommand o rid code payload true (refuse .badCommand) s

end Sys2Proof.Machine
end

