-- ==== Sys2Proof/Machine/Roster.lean ====
section
/-! DEFINITION. The node link commands: ROSTER_ADD, ROSTER_REMOVE, READ_NODE, LINK_CONFIG (R161), with the removal of a node and
the disable of the link that they share with events. -/

namespace Sys2Proof.Machine

/-- The roster record of an address. -/
def State.node (s : State) (address : Nat) : Option NodeRecord := s.link.roster.find? fun n => n.address = address

/-- Whether an exchange with the node is in flight; one whose outcome has been taken is no longer (DESIGN CHOICE, assumption 6). -/
def State.inExchange (s : State) (address : Nat) : Bool :=
  match s.link.exchange with
  | some x => x.node = address && x.phase ≠ .ending
  | none => false

/-- Whether an address is one that a node can have, 1 to 30. -/
def addressValid (a : Nat) : Bool := 1 ≤ a && a ≤ 30

/-- A node record as ROSTER_ADD writes it (R137). -/
def joinedRecord (address : Nat) : NodeRecord where
  address := address
  state := .joining
  missed := 0
  errorCount := 0
  lastSequence := none
  stored := none
  acknowledged := false
  noticeInFlight := none

/-- A record enters the roster in address order (R136). -/
def insertNode (n : NodeRecord) : List NodeRecord → List NodeRecord
  | [] => [n]
  | m :: rest => if m.address < n.address then m :: insertNode n rest else n :: m :: rest

/-- The end of NLC's wait by a command that makes polling possible: with the link enabled and the roster not empty a new cycle
starts, with position none and the cycle count as it stood (R142). -/
def State.resumePolling (s : State) : State :=
  if s.link.pollWait ∧ s.link.enabled ∧ s.link.roster ≠ [] then
    { s with link := { s.link with pollWait := false, cyclePosition := none } }
  else s

/-- ROSTER_ADD with the right (R137). -/
def rosterAddEffect (b : Byte) : Effect := fun s =>
  if !addressValid b.toNat then refuse .badValue s
  else if (s.node b.toNat).isSome then refuse .nodeExists s
  else if Config.rosterSize ≤ s.link.roster.length then refuse .rosterFull s
  else
    changeOk (fun s =>
      { s with link := { s.link with roster := insertNode (joinedRecord b.toNat) s.link.roster } }.resumePolling) s

/-- ROSTER_ADD (R137, code 50h). -/
def execRosterAdd (o : Origin) (rid : Byte) (payload : List Byte) (s : State) : Host.Outcome State Fault Refusal :=
  takeAdminCommand o rid 0x50#8 payload bytePayload rosterAddEffect s

/-- A command of a node whose record is deleted: its response goes nowhere (R149). -/
def discardedFor (address : Nat) (h : Handed) : Handed :=
  if h.origin = .node address then { h with discard := true } else h

/-- The deletion of a node's record (R138): every field is discarded, a response still to be made for it is to be discarded
(R149), and its requesters are evicted with cause ROSTER (R107). NLC waits no longer for a response of the node, which is never written
(DESIGN CHOICE, assumption 20). -/
def State.deleteNode (s : State) (address : Nat) : State :=
  let s := { s with
    link := { s.link with
      roster := s.link.roster.filter fun n => n.address ≠ address
      responseWait := s.link.responseWait.filter fun a => a ≠ address }
    decoder := s.decoder.map (discardedFor address) }
  s.evictAll (s.reqsOf (.node address)) .roster

/-- ROSTER_REMOVE with the right (R138): nothing changes for a node already LEAVING; with an exchange in flight the node becomes
LEAVING; otherwise its record is deleted at once. -/
def rosterRemoveEffect (b : Byte) : Effect := fun s =>
  if !addressValid b.toNat then refuse .badValue s
  else
    match s.node b.toNat with
    | none => refuse .noSuchNode s
    | some n =>
      if n.state = .leaving then answerOk [] s
      else if s.inExchange b.toNat then
        changeOk (fun s => s.modifyNode b.toNat fun n => { n with state := .leaving }) s
      else changeOk (fun s => s.deleteNode b.toNat) s

/-- ROSTER_REMOVE (R138, code 51h). -/
def execRosterRemove (o : Origin) (rid : Byte) (payload : List Byte) (s : State) : Host.Outcome State Fault Refusal :=
  takeAdminCommand o rid 0x51#8 payload bytePayload rosterRemoveEffect s

/-- The answer of READ_NODE (R139, R161). -/
def State.nodeAnswer (s : State) (n : NodeRecord) : List Byte :=
  let sequence := match n.stored with | some r => r.sequence | none => 0
  [n.state.code, byteOf n.missed, byteOf n.errorCount,
    (match n.lastSequence with | some q => byteOf q | none => 0xFF#8),
    byteOf ((if n.stored.isSome then 128 else 0) + (if n.acknowledged then 64 else 0) + sequence),
    (match n.stored with | some r => r.result.code | none => 0x00#8),
    byteOf ((if n.noticeInFlight.isSome then 1 else 0) + (if s.inExchange n.address then 2 else 0))] ++
    (match n.noticeInFlight with | some w => bytes16 w.toNat | none => [0x00#8, 0x00#8]) ++
    [byteOf s.link.cycleCount, byteOf (s.reqsOf (.node n.address)).length]

/-- READ_NODE (R139). -/
def readNodeEffect (b : Byte) : Effect := fun s =>
  if !addressValid b.toNat then refuse .badValue s
  else
    match s.node b.toNat with
    | none => refuse .noSuchNode s
    | some n => answerOk (s.nodeAnswer n) s

/-- READ_NODE (R139, code 52h). -/
def execReadNode (o : Origin) (rid : Byte) (payload : List Byte) (s : State) : Host.Outcome State Fault Refusal :=
  takePlainCommand o rid 0x52#8 payload bytePayload readNodeEffect s

/-! ## The exchange in flight and what waits for its end -/

/-- The exchange in flight takes a phase. -/
def State.setPhase (s : State) (x : Exchange) (phase : ExchangePhase) : State :=
  { s with link := { s.link with exchange := some { x with phase := phase } } }

/-- Whether the exchange is at its end. -/
def State.ending (s : State) : Bool :=
  match s.link.exchange with
  | some x => x.phase = .ending
  | none => false

/-- Whether claims deferred to the end of the exchange are still to be taken (R138, R134, R133). -/
def State.endDeferred (s : State) : Bool :=
  s.link.pendingDisable || s.link.bitTimePending ||
    (match s.link.exchange with
     | some x => (match s.node x.node with | some n => n.state = .leaving | none => false)
     | none => false)

/-- The exchange leaves flight once nothing deferred to its end is left; until then it is ending (DESIGN CHOICE, assumption
6). -/
def State.closeExchange (s : State) : State :=
  match s.link.exchange with
  | none => s
  | some x =>
    if s.endDeferred then s.setPhase x .ending else { s with link := { s.link with exchange := none } }

/-! ## LINK_CONFIG -/

/-- A roster node when the link is disabled: JOINING, missed 0, no notice in flight, the rest kept (R135). -/
def disabledRecord (n : NodeRecord) : NodeRecord := { n with state := .joining, missed := 0, noticeInFlight := none }

/-- The taking effect of a disable (R135): the cycle is abandoned, with a wait for a response in it, every node becomes JOINING, and NLC
waits until polling is possible (R142). -/
def State.disableLink (s : State) : State :=
  { s with
    link := { s.link with
      enabled := false
      pendingDisable := false
      roster := s.link.roster.map disabledRecord
      cyclePosition := none
      pollWait := true
      responseWait := [] } }

/-- The writing of a rate in force, with the bit time it gives (R133). -/
def State.setRate (s : State) (rate : LinkRate) : State :=
  { s with link := { s.link with
      rate := rate
      pendingRate := none
      bitTime := bitTimeOf s.divider rate
      bitTimePending := false } }

/-- A rate and a disable, or none, that wait for the end of the exchange in flight; they replace those that waited (R134). -/
def State.deferLink (s : State) (rate : LinkRate) (disable : Bool) : State :=
  { s with link := { s.link with pendingRate := some rate, bitTimePending := true, pendingDisable := disable } }

/-- A link that is disabled at the end of an exchange takes a LINK_CONFIG at once; the exchange leaves flight when nothing deferred
is left. -/
def State.closeIfEnding (s : State) : State := if s.ending then s.closeExchange else s

/-- The effect of a LINK_CONFIG by the link's present enable and the exchange in flight (Table of R134). -/
def State.configureLink (s : State) (rate : LinkRate) (enable : Bool) : State :=
  if s.link.enabled then
    match s.link.exchange with
    | some _ => s.deferLink rate (!enable)
    | none => if enable then s.setRate rate else (s.setRate rate).disableLink
  else
    let s := (s.setRate rate).closeIfEnding
    if enable then { s with link := { s.link with enabled := true, cyclePosition := none, pollWait := true } }.resumePolling
    else s

/-- LINK_CONFIG with the right (R134): the answer gives the enable and rate that were in force. -/
def linkConfigEffect (f : Byte × Byte) : Effect := fun s =>
  match linkRateOf f.1, linkEnableOf f.2 with
  | some rate, some enable =>
    (s.configureLink rate enable, ⟨.ok, [flagByte s.link.enabled, s.link.rate.code]⟩)
  | _, _ => refuse .badValue s

/-- LINK_CONFIG (R134, code 53h). -/
def execLinkConfig (o : Origin) (rid : Byte) (payload : List Byte) (s : State) : Host.Outcome State Fault Refusal :=
  takeAdminCommand o rid 0x53#8 payload pairPayload linkConfigEffect s

end Sys2Proof.Machine
end

