-- ==== Sys2Proof/Machine/Ports.lean ====
section
/-! DEFINITION. The events of the command ports, TRANSFER_START, COMMAND_FRAME_END, RESPONSE_READ_END (R151 to R155), and of the
RESET pin, RESET and RESET_END. -/

namespace Sys2Proof.Machine

/-! ## Transfers -/

/-- Whether a transfer may start: SEL is high, or the transfer in progress is an ignored one, whose SEL rise is no event of its
own and came before this fall. -/
def Port.selMayFall (q : Port) : Bool :=
  match q.transfer with
  | none => true
  | some .ignored => true
  | some .responseRead => false
  | some .commandFrame => false

/-- What SDO carries in a response read of this port: the response, or, no response standing there, FFh (R152). -/
def Port.sdoOfRead (q : Port) : SdoLine :=
  match q.response with
  | some response => .sending response
  | none => .high

/-- The class a transfer takes at its SEL fall and what SDO carries in it (R152): an ignored one during reset (R151), which sets no
flag; a response read, a command frame, or, while the port is WORKING, an ignored one that sets BUSY_DISCARD (R154). -/
def Port.startTransfer (q : Port) (inReset : Bool) : Port :=
  if inReset then { q with transfer := some .ignored, sdo := .high }
  else
    match q.phase with
    | .holding => { q with transfer := some .responseRead, readPointer := 0, sdo := q.sdoOfRead }
    | .ready => { q with transfer := some .commandFrame, rxBuffer := [], rxCount := 0, sdo := .high }
    | .working => { q with transfer := some .ignored, busyDiscard := true, sdo := .high }

/-- What SDO carried in a transfer in which it was high (R152): FFh for every byte clocked. -/
def sdoFilled (clocked : Nat) : SdoLine := .clocked (List.replicate clocked 0xFF#8)

/-- The SEL rise of an ignored transfer ends it with nothing (R152); during reset SDO stays held high (R151). -/
def Port.endIgnored (q : Port) (inReset : Bool) (clocked : Nat) : Port :=
  { q with transfer := none, sdo := if inReset then .high else sdoFilled clocked }

/-- TRANSFER_START (R152). -/
def execTransferStart (p : PortId) (s : State) : Host.Outcome State Fault Refusal :=
  if (s.port p).selMayFall then .next (s.setPort p ((s.port p).startTransfer s.inReset)) else .next s

/-! ## Command frames -/

/-- The frame error of a command frame: the first test of R153 that holds, with the result of its response. -/
def frameError (bytes : List Byte) (partialByte : Bool) : Option (FrameErrorKind × Result) :=
  if partialByte then some (.partialByte, .frameError)
  else
    match bytes.head? with
    | none => some (.byteCount, .badLength)
    | some len =>
      if len.toNat < 2 ∨ 34 < len.toNat ∨ bytes.length ≠ len.toNat + 2 then some (.byteCount, .badLength)
      else
        let kept := bytes.take Config.receiveBytes
        if kept.getLast? ≠ some (crc8 kept.dropLast) then some (.check, .checkFailed) else none

/-- The command that a frame which passed its tests hands to the decoder: RID, CMD and the payload between CMD and CHK (R153,
R162). -/
def handedFrame (p : PortId) (bytes : List Byte) : Option Handed :=
  match bytes with
  | _ :: rid :: code :: rest => some ⟨p.origin, rid, code, rest.dropLast, 0, false⟩
  | _ => none

/-- The raise of a port's frame error event (R125). -/
def frameErrorDetail (p : PortId) (k : FrameErrorKind) : Detail :=
  match p with
  | .a => .frameErrorA k
  | .b => .frameErrorB k

/-- SEL rises on a command frame: the transfer ends, its first 36 bytes stand in the receive buffer and all are counted (R153), and SDO
carried FFh for each (R152). -/
def Port.receive (q : Port) (bytes : List Byte) : Port :=
  { q with
    transfer := none, rxBuffer := bytes.take Config.receiveBytes, rxCount := bytes.length, sdo := sdoFilled bytes.length }

/-- The end of a command frame (R152, R153): an empty one is dropped; a frame error raises the port's event and makes the error
response (the raise first: DEDUCED, assumption 3); a good frame goes to the decoder and the port is WORKING. -/
def State.endFrame (s : State) (p : PortId) (bytes : List Byte) (partialByte : Bool) : State :=
  let s := s.setPort p ((s.port p).receive bytes)
  if bytes = [] ∧ partialByte = false then s
  else
    match frameError bytes partialByte with
    | some (k, result) => (((s.raise (frameErrorDetail p k)).writeResponse p ⟨result, []⟩)).settleAttention
    | none =>
      match handedFrame p bytes with
      | none => s
      | some h => { s.setPort p { s.port p with phase := .working } with decoder := s.decoder ++ [h] }

/-- COMMAND_FRAME_END (R153): the SEL rise of a command frame; that of an ignored transfer ends it with nothing (R152). -/
def execCommandFrameEnd (p : PortId) (bytes : List Byte) (partialByte : Bool) (s : State) :
    Host.Outcome State Fault Refusal :=
  match (s.port p).transfer with
  | some .commandFrame => .next (s.endFrame p bytes partialByte)
  | some .ignored => .next (s.setPort p ((s.port p).endIgnored s.inReset bytes.length))
  | some .responseRead => .next s
  | none => .next s

/-! ## Response reads -/

/-- What SDO carries while this many bytes are clocked: the response from its first byte, then FFh (R152). -/
def sdoBytes (response : List Byte) (clocked : Nat) : List Byte :=
  response.take clocked ++ List.replicate (clocked - response.length) 0xFF#8

/-- The end of a response read (R152): the response is removed, BUSY_DISCARD cleared and the port READY when all of its bytes
were clocked out; otherwise it stays. -/
def Port.endRead (q : Port) (clocked : Nat) : Port :=
  match q.response with
  | none => { q with transfer := none, readPointer := clocked, sdo := sdoFilled clocked }
  | some response =>
    let q := { q with transfer := none, readPointer := clocked, sdo := .clocked (sdoBytes response clocked) }
    if response.length ≤ clocked then { q with phase := .ready, response := none, busyDiscard := false } else q

/-- RESPONSE_READ_END (R152): the SEL rise of a response read; that of an ignored transfer ends it with nothing. -/
def execResponseReadEnd (p : PortId) (clocked : Nat) (s : State) : Host.Outcome State Fault Refusal :=
  match (s.port p).transfer with
  | some .responseRead => .next (s.setPort p ((s.port p).endRead clocked))
  | some .ignored => .next (s.setPort p ((s.port p).endIgnored s.inReset clocked))
  | some .commandFrame => .next s
  | none => .next s

/-! ## Reset -/

/-- A port at reset: every field at its reset value, a transfer in progress staying as an ignored one up to its SEL rise (R151). -/
def Port.resetKeepingSel (q : Port) : Port := { Port.reset with transfer := q.transfer.map fun _ => .ignored }

/-- RESET (section 0.5.7; R7, R49, R92, R110, R122, R132, R150, R151): every block takes its reset values. The queue of what is
to come is no part of the chip and stays. -/
def execReset (s : State) : Host.Outcome State Fault Refusal :=
  .next { State.reset with
    portA := s.portA.resetKeepingSel
    portB := s.portB.resetKeepingSel
    pending := s.pending }

/-- RESET_END (R76, R151): the ports take frames, RDY goes high and the time base starts. -/
def execResetEnd (s : State) : Host.Outcome State Fault Refusal := .next { s with inReset := false }

end Sys2Proof.Machine
end

