-- ==== Sys2Proof/Machine/Exchange.lean ====
section
/-! DEFINITION. The events of the node link: NODE_SELECTION, REPLY_WINDOW_OPEN, REPLY_BYTE_RECEIVED, EXCHANGE_END,
REPLY_WINDOW_CLOSE, REPLY_IDLE_TIMEOUT, NODE_REMOVAL, LINK_DISABLE, BIT_TIME_CHANGE (R133 to R149). -/

namespace Sys2Proof.Machine

/-! ## Selection and poll -/

/-- Whether a request taken from the node stands at the decoder, its response not yet written (R142, R146). One whose response is to be
discarded counts no longer (DESIGN CHOICE, assumption 20). -/
def State.awaitsResponse (s : State) (address : Nat) : Bool :=
  s.decoder.any fun h => h.origin = .node address && !h.discard

/-- Whether a node is due in the cycle of this count (R142): JOINING and ACTIVE always, SILENT when the count is a multiple of 8,
LEAVING never; not while its response is awaited. -/
def State.nodeDue (s : State) (count : Nat) (n : NodeRecord) : Bool :=
  !s.awaitsResponse n.address &&
    match n.state with
    | .joining => true
    | .active => true
    | .silent => count % 8 = 0
    | .leaving => false

/-- The nodes above a cycle position, all of them when it is none (R142). -/
def nodesAbove (roster : List NodeRecord) : Option Nat → List NodeRecord
  | none => roster
  | some p => roster.filter fun n => p < n.address

/-- The outcome of a selection. -/
inductive Selection where
  /-- The poll of this node begins, in the cycle of this count. -/
  | poll (address count : Nat)
  /-- NLC waits for an awaited response; the cycle, with this count and position, does not end. -/
  | wait (count : Nat) (position : Option Nat)
  deriving DecidableEq, Repr

/-- The selection (R142): the lowest due node above the position; a wait when none is due and a node whose response is awaited
stands there; else the cycle ends and the selection is made again. Nine turns reach a count that is a multiple of 8 with
position none. -/
def State.select (s : State) : Nat → Nat → Option Nat → Selection
  | 0, count, position => .wait count position
  | n + 1, count, position =>
    let above := nodesAbove s.link.roster position
    match above.find? (s.nodeDue count) with
    | some x => .poll x.address count
    | none =>
      if above.any fun x => s.awaitsResponse x.address then .wait count position
      else s.select n ((count + 1) % 256) none

/-- The start of the poll of a node (R133, R143): built from the state as it stands, the notice carried recorded as in flight,
LDE high. -/
def State.startPoll (s : State) (address count : Nat) : State :=
  match s.node address with
  | none => s
  | some n =>
    let response := if n.acknowledged then none else n.stored
    let notice := s.offeredNotice address
    let s := s.modifyNode address fun n => { n with noticeInFlight := notice.map Notice.serial }
    { s with link := { s.link with
        exchange := some ⟨address, .polling⟩
        cycleCount := count
        cyclePosition := some address
        lde := true
        ltx := .sending (pollFrame address response notice) } }

/-- The wait for an awaited response (R142): NLC selects again when one of the nodes above the position has its response written. -/
def State.waitForResponse (s : State) (count : Nat) (position : Option Nat) : State :=
  { s with link := { s.link with
      cycleCount := count
      cyclePosition := position
      responseWait :=
        ((nodesAbove s.link.roster position).filter fun n => s.awaitsResponse n.address).map NodeRecord.address } }

/-- NODE_SELECTION (R142): taken when no exchange is in flight and NLC waits neither for polling to become possible nor for a
response to be written. -/
def execNodeSelection (s : State) : Host.Outcome State Fault Refusal :=
  match s.link.exchange with
  | some _ => .next s
  | none =>
    if s.link.pollWait ∨ s.link.responseWait ≠ [] then .next s
    else if !s.link.enabled || s.link.roster.isEmpty then
      .next { s with link := { s.link with pollWait := true } }
    else
      match s.select 10 s.link.cycleCount s.link.cyclePosition with
      | .wait count position => .next (s.waitForResponse count position)
      | .poll address count => .next (s.startPoll address count)

/-! ## The reply window -/

/-- REPLY_WINDOW_OPEN (R133, R141): the poll's last stop bit ended; LDE falls, LTX idles and the window opens. -/
def execReplyWindowOpen (s : State) : Host.Outcome State Fault Refusal :=
  match s.link.exchange with
  | none => .next s
  | some x =>
    match x.phase with
    | .polling =>
      let s := s.setPhase x (.window [])
      .next { s with link := { s.link with lde := false, ltx := .idleHigh } }
    | .window _ => .next s
    | .ending => .next s

/-- The reply after a byte (R141): it begins with the sync 3Ah, other bytes before it are no part of it, and a reply that is
complete or bad by length has ended. -/
def receiveReplyByte (reply : List Byte) (b : Byte) : List Byte :=
  if reply.isEmpty then (if b = 0x3A#8 then [b] else [])
  else if replyProgress reply = .incomplete then reply ++ [b]
  else reply

/-- REPLY_BYTE_RECEIVED (R141): only inside the reply window (R133). -/
def execReplyByteReceived (b : Byte) (s : State) : Host.Outcome State Fault Refusal :=
  match s.link.exchange with
  | none => .next s
  | some x =>
    match x.phase with
    | .polling => .next s
    | .window reply => .next (s.setPhase x (.window (receiveReplyByte reply b)))
    | .ending => .next s

/-! ## The end of an exchange -/

/-- A RESP_ACK (R145 step 1). -/
def NodeRecord.respAck (n : NodeRecord) (ack : Option Nat) : NodeRecord :=
  match ack, n.stored with
  | some a, some r => if r.sequence = a then { n with acknowledged := true } else n
  | _, _ => n

/-- The taking of a NOTICE_ACK when present (R145 step 2). -/
def State.noticeAck (s : State) (address : Nat) : Option Word16 → State
  | none => s
  | some serial => s.ackNotice address serial

/-- The judging of a request when present (R145 step 3, R146): a duplicate clears response acknowledged and restarts the tenure of
the requester it names; a new one goes to the decoder with origin node n. -/
def State.takeRequest (s : State) (address : Nat) (request : Option NodeRequest) : State :=
  match request, s.node address with
  | some q, some n =>
    if n.lastSequence = some q.sequence then
      let s := s.modifyNode address fun n => { n with acknowledged := false }
      if codeNamesRequester (.node address) q.code then s.restartTenureOf (.node address) q.localId else s
    else { s with decoder := s.decoder ++ [⟨.node address, q.localId, q.code, q.payload, q.sequence, false⟩] }
  | _, _ => s

/-- missed plus 1, staying at 4 (Table 9.2). -/
def missedUp (missed : Nat) : Nat := if 4 ≤ missed then 4 else missed + 1

/-- error count plus 1, saturating at 255 (R140). -/
def errorUp (count : Nat) : Nat := if 255 ≤ count then 255 else count + 1

/-- A node after a failed exchange (Table 9.2): an ACTIVE node that reaches 4 missed becomes SILENT. -/
def NodeRecord.failed (n : NodeRecord) : NodeRecord :=
  let n := { n with missed := missedUp n.missed }
  if n.state = .active ∧ n.missed = 4 then { n with state := .silent } else n

/-- Whether a failed exchange makes the node SILENT (Table 9.2). -/
def NodeRecord.fallsSilent (n : NodeRecord) : Bool := n.state = .active && missedUp n.missed = 4

/-- The update of a node's health by an exchange outcome, with the events it raises (R140, Table 9.2); LINK_ERROR is raised before
NODE_SILENT. -/
def State.updateHealth (s : State) (address : Nat) (outcome : ExchangeOutcome) : State :=
  match s.node address with
  | none => s
  | some n =>
    let silence := fun (s : State) => if n.fallsSilent then s.raise (.nodeSilent address) else s
    match outcome with
    | .good _ =>
      let s := s.modifyNode address fun n => { n with state := .active, missed := 0 }
      if n.state = .active then s else s.raise (.nodeJoined address)
    | .bad =>
      let s := s.modifyNode address fun n => { n.failed with errorCount := errorUp n.errorCount }
      silence (s.raise (.linkError address))
    | .miss => silence (s.modifyNode address NodeRecord.failed)

/-- The taking of a good reply by the steps 1 to 3 of R145. -/
def State.takeReply (s : State) (address : Nat) (r : Reply) : State :=
  let s := s.modifyNode address fun n => n.respAck r.respAck
  let s := s.noticeAck address r.noticeAck
  s.takeRequest address r.request

/-- The outcome of an exchange, taken at its end (R140, R145): nothing of it is taken for a LEAVING node (R138). -/
def State.takeOutcome (s : State) (address : Nat) (outcome : ExchangeOutcome) : State :=
  match s.node address with
  | none => s
  | some n =>
    if n.state = .leaving then s
    else
      let s := match outcome with
        | .good r => s.takeReply address r
        | .bad => s
        | .miss => s
      s.updateHealth address outcome

/-- The end of an exchange with an outcome. -/
def State.endExchange (s : State) (x : Exchange) (outcome : ExchangeOutcome) : State :=
  (s.takeOutcome x.node outcome).closeExchange.settleAttention

/-- EXCHANGE_END (R141, R144, R145): the reply reached its declared length or was found bad by length. -/
def execExchangeEnd (s : State) : Host.Outcome State Fault Refusal :=
  match s.link.exchange with
  | none => .next s
  | some x =>
    match x.phase with
    | .polling => .next s
    | .window reply =>
      if reply.isEmpty ∨ replyProgress reply = .incomplete then .next s
      else .next (s.endExchange x (classify x.node reply))
    | .ending => .next s

/-- REPLY_WINDOW_CLOSE (R141, R144): no reply has begun; a miss. -/
def execReplyWindowClose (s : State) : Host.Outcome State Fault Refusal :=
  match s.link.exchange with
  | none => .next s
  | some x =>
    match x.phase with
    | .polling => .next s
    | .window reply => if reply.isEmpty then .next (s.endExchange x (classify x.node reply)) else .next s
    | .ending => .next s

/-- REPLY_IDLE_TIMEOUT (R141, R144): the line stayed idle before a begun reply reached its declared length; a bad reply. -/
def execReplyIdleTimeout (s : State) : Host.Outcome State Fault Refusal :=
  match s.link.exchange with
  | none => .next s
  | some x =>
    match x.phase with
    | .polling => .next s
    | .window reply =>
      if reply.isEmpty = false ∧ replyProgress reply = .incomplete then
        .next (s.endExchange x (classify x.node reply))
      else .next s
    | .ending => .next s

/-! ## What was deferred to the end of an exchange -/

/-- The node of the exchange at its end, when it is LEAVING. -/
def State.leavingAtEnd (s : State) : Option Nat :=
  match s.link.exchange with
  | none => none
  | some x =>
    if x.phase = .ending then
      match s.node x.node with
      | some n => if n.state = .leaving then some x.node else none
      | none => none
    else none

/-- NODE_REMOVAL (R107, R138): the record of the LEAVING node is deleted at the end of its exchange and its requesters are evicted
with cause ROSTER. -/
def execNodeRemoval (s : State) : Host.Outcome State Fault Refusal :=
  match s.leavingAtEnd with
  | none => .next s
  | some address => finishEvent s (s.deleteNode address).closeExchange

/-- LINK_DISABLE (R134, R135): a deferred disable takes effect at the end of the exchange, after a deferred removal (R141). -/
def execLinkDisable (s : State) : Host.Outcome State Fault Refusal :=
  if s.ending ∧ s.leavingAtEnd = none ∧ s.link.pendingDisable then .next s.disableLink.closeExchange else .next s

/-- BIT_TIME_CHANGE (R133, R134): a deferred rate or divider value takes effect at the end of the exchange, after a deferred
removal (R141). -/
def execBitTimeChange (s : State) : Host.Outcome State Fault Refusal :=
  if s.ending ∧ s.leavingAtEnd = none ∧ s.link.bitTimePending then
    .next (s.setRate (s.link.pendingRate.getD s.link.rate)).closeExchange
  else .next s

end Sys2Proof.Machine
end

