-- ==== Sys2Proof/Machine/Dispatch.lean ====
section
/-! DEFINITION. The meaning of every command and event, one arm per row of the opcode table. -/

namespace Sys2Proof.Machine

/-- The effect of a command or event on everything but the queue. -/
def exec (i : Instr) (s : State) : Host.Outcome State Fault Refusal :=
  match i with
  | .openRequester o rid payload => Sys2Proof.Machine.execOpenRequester o rid payload s
  | .closeRequester o rid payload => Sys2Proof.Machine.execCloseRequester o rid payload s
  | .renew o rid payload => Sys2Proof.Machine.execRenew o rid payload s
  | .setBudget o rid payload => Sys2Proof.Machine.execSetBudget o rid payload s
  | .listMine o rid payload => Sys2Proof.Machine.execListMine o rid payload s
  | .fetchNotice o rid payload => Sys2Proof.Machine.execFetchNotice o rid payload s
  | .define o rid payload => Sys2Proof.Machine.execDefine o rid payload s
  | .retire o rid payload => Sys2Proof.Machine.execRetire o rid payload s
  | .setLimits o rid payload => Sys2Proof.Machine.execSetLimits o rid payload s
  | .lookup o rid payload => Sys2Proof.Machine.execLookup o rid payload s
  | .find o rid payload => Sys2Proof.Machine.execFind o rid payload s
  | .readEntry o rid payload => Sys2Proof.Machine.execReadEntry o rid payload s
  | .writeNote o rid payload => Sys2Proof.Machine.execWriteNote o rid payload s
  | .acquire o rid payload => Sys2Proof.Machine.execAcquire o rid payload s
  | .acquireSet o rid payload => Sys2Proof.Machine.execAcquireSet o rid payload s
  | .release o rid payload => Sys2Proof.Machine.execRelease o rid payload s
  | .releaseAll o rid payload => Sys2Proof.Machine.execReleaseAll o rid payload s
  | .cancel o rid payload => Sys2Proof.Machine.execCancel o rid payload s
  | .upgrade o rid payload => Sys2Proof.Machine.execUpgrade o rid payload s
  | .downgrade o rid payload => Sys2Proof.Machine.execDowngrade o rid payload s
  | .evict o rid payload => Sys2Proof.Machine.execEvict o rid payload s
  | .purgeOrigin o rid payload => Sys2Proof.Machine.execPurgeOrigin o rid payload s
  | .setPortRights o rid payload => Sys2Proof.Machine.execSetPortRights o rid payload s
  | .setTimebase o rid payload => Sys2Proof.Machine.execSetTimebase o rid payload s
  | .routeEvent o rid payload => Sys2Proof.Machine.execRouteEvent o rid payload s
  | .readEvents o rid payload => Sys2Proof.Machine.execReadEvents o rid payload s
  | .setPoolThreshold o rid payload => Sys2Proof.Machine.execSetPoolThreshold o rid payload s
  | .readPartStatus o rid payload => Sys2Proof.Machine.execReadPartStatus o rid payload s
  | .rosterAdd o rid payload => Sys2Proof.Machine.execRosterAdd o rid payload s
  | .rosterRemove o rid payload => Sys2Proof.Machine.execRosterRemove o rid payload s
  | .readNode o rid payload => Sys2Proof.Machine.execReadNode o rid payload s
  | .linkConfig o rid payload => Sys2Proof.Machine.execLinkConfig o rid payload s
  | .unknownCommand o rid code payload => Sys2Proof.Machine.execUnknownCommand o rid code payload s
  | .transferStart p => Sys2Proof.Machine.execTransferStart p s
  | .commandFrameEnd p bytes partialByte => Sys2Proof.Machine.execCommandFrameEnd p bytes partialByte s
  | .responseReadEnd p clocked => Sys2Proof.Machine.execResponseReadEnd p clocked s
  | .tick => Sys2Proof.Machine.execTick s
  | .waitLimitExpiry r e => Sys2Proof.Machine.execWaitLimitExpiry r e s
  | .setWaitLimitExpiry r e => Sys2Proof.Machine.execSetWaitLimitExpiry r e s
  | .holdLimitExpiry r e => Sys2Proof.Machine.execHoldLimitExpiry r e s
  | .tenureExpiry r => Sys2Proof.Machine.execTenureExpiry r s
  | .nodeSelection => Sys2Proof.Machine.execNodeSelection s
  | .replyWindowOpen => Sys2Proof.Machine.execReplyWindowOpen s
  | .exchangeEnd => Sys2Proof.Machine.execExchangeEnd s
  | .replyWindowClose => Sys2Proof.Machine.execReplyWindowClose s
  | .replyIdleTimeout => Sys2Proof.Machine.execReplyIdleTimeout s
  | .linkDisable => Sys2Proof.Machine.execLinkDisable s
  | .bitTimeChange => Sys2Proof.Machine.execBitTimeChange s
  | .nodeRemoval => Sys2Proof.Machine.execNodeRemoval s
  | .reset => Sys2Proof.Machine.execReset s
  | .resetEnd => Sys2Proof.Machine.execResetEnd s
  | .replyByteReceived b => Sys2Proof.Machine.execReplyByteReceived b s

end Sys2Proof.Machine
end

