-- ==== Sys2Proof/Safety.lean ====
section
/-! DEFINITION. What a legal state of the part is, and the words in which the statements say what a command answers and what a
step leaves alone. -/

namespace Sys2Proof.Machine

/-! ## Legal states -/

/-- DIR holds one pair for each live entry, in ascending slot order, and no two live entries have the same tag (R5). -/
abbrev State.dirLegal (s : State) : Prop :=
  s.dir = (List.finRange 256).filterMap (fun e => (s.entry e).map fun en => (en.tag, e)) ∧
  (s.dir.map Prod.fst).Nodup

/-- A live entry: a requester has at most one record on it (R24); the holders stand in requester slot order; an exclusive holder is
the only one and the holders are within the share limit (R8, R9, R27, R35); a holder is no first member of a waiting set; the state
is RETIRING, with a holder and no waiter, or the one that Table 1.2 gives (R3). -/
abbrev Entry.legal (en : Entry) : Prop :=
  ((en.holders ++ en.queue).map Claim.requester).Nodup ∧
  en.holders.Pairwise (fun c d => c.requester < d.requester) ∧
  (∀ c ∈ en.holders, c.mode = .exclusive → en.holders.length = 1) ∧
  en.holders.length ≤ en.shareLimit ∧ 1 ≤ en.shareLimit ∧ en.shareLimit ≤ 8 ∧ en.note.length ≤ 8 ∧
  (∀ c ∈ en.holders, c.firstMember = false) ∧
  (if en.state = .retiring then en.holders ≠ [] ∧ en.queue = [] else en.state = en.derivedState)

/-- Every live entry is legal. -/
abbrev State.entriesLegal (s : State) : Prop := ∀ e, ∀ en ∈ s.entry e, en.legal

/-- The number of entries on which a requester holds. -/
def State.holdsOf (s : State) (r : ReqSlot) : Nat := (s.slotsWhere fun en => (en.hold r).isSome).length

/-- The number of entries on which a requester waits. -/
def State.waitsOf (s : State) (r : ReqSlot) : Nat := (s.slotsWhere fun en => (en.wait r).isSome).length

/-- The waiting records of the part, each with its entry. -/
def State.waitRecords (s : State) : List (EntrySlot × Claim) :=
  (List.finRange 256).flatMap fun e => match s.entry e with | some en => en.queue.map fun c => (e, c) | none => []

/-- The number of claim records in use: holders plus waiters over all entries (R22). -/
def State.recordsInUse (s : State) : Nat :=
  ((List.finRange 256).map fun e =>
    match s.entry e with | some en => en.holders.length + en.queue.length | none => 0).sum

/-- The claim sets are coherent: a set id names the records of one requester and exactly one of them is the first member's, which
alone of them may keep a countdown; a single record is marked as no first member (R50, R51, R54). -/
abbrev State.setsLegal (s : State) : Prop :=
  ∀ x ∈ s.waitRecords,
    if x.2.setId = none then x.2.firstMember = false
    else
      (∀ y ∈ s.waitRecords, y.2.setId = x.2.setId → y.2.requester = x.2.requester) ∧
      (s.waitRecords.filter fun y => y.2.setId = x.2.setId && y.2.firstMember).length = 1 ∧
      (x.2.firstMember = false → x.2.deadline = none)

/-- The claim table is consistent: every entry is legal, its records belong to open requesters, and its queue stands in priority order
(R3, R23, R24, R31); the sets are coherent; free records plus records in use are 512 (R22); the counts of every open requester are
the numbers of its records, and their sum is within its budget (R25, R99). -/
abbrev State.claimsLegal (s : State) : Prop :=
  s.entriesLegal ∧
  (∀ e, ∀ en ∈ s.entry e, (∀ c ∈ en.holders ++ en.queue, (s.req c.requester).isSome) ∧
    en.queue.Pairwise fun c d => s.priority d.requester ≤ s.priority c.requester) ∧
  s.setsLegal ∧
  s.freeRecords + s.recordsInUse = Config.poolSize ∧
  ∀ r, ∀ q ∈ s.req r, q.holdCount = s.holdsOf r ∧ q.waitCount = s.waitsOf r ∧ q.holdCount + q.waitCount ≤ q.budget

/-- The head of an entry's queue, if there is one, cannot be granted as things stand (R35, R58). -/
abbrev State.blocked (s : State) (e : EntrySlot) : Prop :=
  ∀ en ∈ s.entry e, ∀ c ∈ en.queue.head?,
    (match c.setId with | none => en.fits c.mode | some id => s.grantable c.requester id) = false

/-- The waiting relation has no cycle (R72). -/
def Acyclic (edges : List (ReqSlot × ReqSlot)) : Prop := ∀ r, ¬ Relation.TransGen (fun x y => (x, y) ∈ edges) r r

/-- An open requester record keeps the ranges of R97 and R100, and its tenure countdown is armed exactly when it has a tenure
(R88). -/
abbrev Requester.legal (q : Requester) : Prop :=
  localIdInRange q.origin q.localId = true ∧ q.priority ≤ 3 ∧ 1 ≤ q.budget ∧ q.budget ≤ 24 ∧
  (q.tenure = 0 → q.origin = .portA ∨ q.origin = .portB) ∧ (q.tenure = 0 ∨ 100 ≤ q.tenure) ∧
  (q.tenureLeft = none ↔ q.tenure = 0) ∧ ∀ n ∈ q.tenureLeft, n ≤ q.tenure

/-- The requester table and the settings: every open record is legal, no two have one origin and one local id (R93); the divider value
and the pool threshold are in range (R77, R130), and POOL_LOW is armed exactly while the free records reach the threshold (R129). -/
abbrev State.registersLegal (s : State) : Prop :=
  (∀ r, ∀ q ∈ s.req r, q.legal) ∧
  (∀ r, ∀ q ∈ s.req r, ∀ r', ∀ q' ∈ s.req r', q.origin = q'.origin → q.localId = q'.localId → r = r') ∧
  4000 ≤ s.divider ∧ s.divider ≤ 40000 ∧ s.poolThreshold ≤ 64 ∧ s.poolState = rearmed s.freeRecords s.poolThreshold

/-- A requester's queue holds at most 16 notices, every queued notice belongs to an open requester, no two carry one serial and
the counter holds a serial that no queued notice carries (R112, R113). -/
abbrev State.noticesLegal (s : State) : Prop :=
  (∀ r, (s.noticeQueue r).length ≤ Config.noticeCapacity) ∧
  (∀ n ∈ s.notices, (s.req n.owner).isSome) ∧
  (s.notices.map Notice.serial).Nodup ∧
  s.noticeSerial ∉ s.notices.map Notice.serial

/-- A port holds a response exactly when it is HOLDING, one command of its origin stands at the decoder exactly when it is WORKING, a
response read or command frame runs only in the state that started it (R151, R152, R154), SDO carries the response in a response read
and is high in every other transfer and in reset, in which no other transfer than an ignored one runs (R151, R152), and its ATN line
stands at the level of its attention condition (R123). -/
abbrev State.portLegal (s : State) (p : PortId) : Prop :=
  ((s.port p).response.isSome ↔ (s.port p).phase = .holding) ∧
  (s.decoder.filter fun h => h.origin = p.origin).length = (if (s.port p).phase = .working then 1 else 0) ∧
  ((s.port p).transfer = some .responseRead → (s.port p).phase = .holding ∧
    some (s.port p).sdo = (s.port p).response.map SdoLine.sending) ∧
  ((s.port p).transfer = some .commandFrame → (s.port p).phase = .ready ∧ (s.port p).sdo = .high) ∧
  ((s.port p).transfer = some .ignored → (s.port p).sdo = .high) ∧
  (s.inReset = true →
    (s.port p).sdo = .high ∧ ((s.port p).transfer = none ∨ (s.port p).transfer = some .ignored)) ∧
  (s.port p).atnLow = s.attention p

/-- Both ports are legal. -/
abbrev State.portsLegal (s : State) : Prop := s.portLegal .a ∧ s.portLegal .b

/-- A node record keeps the ranges of Table 9.1, and its stored response is that of its last taken sequence, absent exactly while
that is none (R136, Note 1 of Table 9.1). -/
abbrev NodeRecord.legal (n : NodeRecord) : Prop :=
  1 ≤ n.address ∧ n.address ≤ 30 ∧ n.missed ≤ 4 ∧ n.errorCount ≤ 255 ∧
  n.lastSequence = n.stored.map Stored.sequence ∧
  (∀ q ∈ n.lastSequence, q ≤ 15)

/-- The roster stands in ascending address order with legal records, a LEAVING node is the node of the exchange, and while the
link is disabled every node is JOINING and no exchange is under way (R131, R136, R138). The exchange that a LEAVING node or a disabled
link still meets is one kept at its end, in the phase `ending`, until what is deferred to that end is taken (the model's choice,
assumption 6). -/
abbrev State.rosterLegal (s : State) : Prop :=
  s.link.roster.Pairwise (fun m n => m.address < n.address) ∧
  (∀ n ∈ s.link.roster, n.legal) ∧
  (∀ n ∈ s.link.roster, n.state = .leaving → s.link.exchange.map Exchange.node = some n.address) ∧
  (s.link.enabled = false →
    (∀ n ∈ s.link.roster, n.state = .joining) ∧ ∀ x ∈ s.link.exchange, x.phase = .ending) ∧
  (∀ h ∈ s.decoder, h.sequence ≤ 15)

/-- The exchange and the line: the node of an exchange whose outcome is not taken yet stands in the roster; what is deferred is deferred
to the end of an exchange, which stays in the phase `ending` until nothing is (R134, R138, R141; the staying is the model's choice,
assumption 6); LDE is high and LTX driven exactly while a poll is being
sent, and the bit time is that of the divider value and rate in force unless a new one waits (R133). A wait for a response is one on an
enabled link between two exchanges (R142), for nodes of the roster whose request stands at the decoder, so that it ends: after a deletion
that is the model's choice (assumption 20). -/
abbrev State.linkLegal (s : State) : Prop :=
  (∀ x ∈ s.link.exchange, if x.phase = .ending then s.endDeferred = true else (s.node x.node).isSome) ∧
  (s.link.exchange = none →
    s.link.pendingDisable = false ∧ s.link.bitTimePending = false ∧ s.link.lde = false) ∧
  (∀ x ∈ s.link.exchange, s.link.lde = decide (x.phase = .polling)) ∧
  (s.link.lde = false ↔ s.link.ltx = .idleHigh) ∧
  (s.link.pendingRate.isSome → s.link.bitTimePending = true) ∧
  (s.link.pendingDisable = true → s.link.enabled = true) ∧
  (s.link.bitTimePending = false → s.link.bitTime = bitTimeOf s.divider s.link.rate) ∧
  (s.link.responseWait ≠ [] → s.link.exchange = none ∧ s.link.pollWait = false ∧ s.link.enabled = true) ∧
  ∀ a ∈ s.link.responseWait, (s.node a).isSome ∧ s.awaitsResponse a = true

/-- A requester has no claim record, holding or waiting, on any entry. -/
abbrev State.unclaimedBy (s : State) (r : ReqSlot) : Prop := ∀ e, ∀ en ∈ s.entry e, en.claimed r = false

/-! ## Layouts, byte by byte -/

/-- A response frame (Tables 10.2 and 10.3): LEN, STAT with its three flags, RES, the payload and the check byte. -/
def responseLayout (busyDiscard attention admin : Bool) (result : Result) (payload : List Byte) : List Byte :=
  let stat := byteOf ((if busyDiscard then 128 else 0) + (if attention then 64 else 0) + (if admin then 32 else 0))
  let body := byteOf (payload.length + 2) :: stat :: result.code :: payload
  body ++ [crc8 body]

/-- A notice (R163): the serial, the kind with set-id-present in bit 7, the handle, the mode of a GRANTED or the reason of a REVOKED one,
and the set id. -/
def noticeLayout (n : Notice) : List Byte :=
  let sent := fun (kind : Byte) (extra : List Byte) (setId : Option Word16) =>
    bytes16 n.serial.toNat ++
      match setId with
      | none => [kind, byteOf n.slot.val, n.generation] ++ extra
      | some id => [kind + 0x80#8, byteOf n.slot.val, n.generation] ++ extra ++ bytes16 id.toNat
  match n.body with
  | .granted .exclusive id => sent 0x01#8 [0x00#8] id
  | .granted .shared id => sent 0x01#8 [0x01#8] id
  | .waitExpired id => sent 0x02#8 [] id
  | .waitCancelled id => sent 0x03#8 [] id
  | .revoked .holdLimit => sent 0x04#8 [0x01#8] none
  | .revoked .retired => sent 0x04#8 [0x02#8] none

/-- A poll (Table 10.6): sync C5h, the destination, the control byte, the blocks present and the CRC-16 from the destination on. -/
def pollLayout (node : Nat) (response : Option Stored) (notice : Option Notice) : List Byte :=
  let block := fun (r : Stored) => byteOf r.sequence :: r.result.code :: byteOf r.payload.length :: r.payload
  let body := byteOf node ::
    match response, notice with
    | none, none => [0x00#8]
    | some r, none => 0x01#8 :: block r
    | none, some n => 0x02#8 :: noticeLayout n
    | some r, some n => 0x03#8 :: block r ++ noticeLayout n
  0xC5#8 :: body ++ bytes16 (crc16 body).toNat

/-! ## What a command answers -/

/-- A port after the response to its command, or to another origin's command, has been made: a response written to it makes it
HOLDING; ATN takes the level of the attention condition either way (R123, R154, R155). -/
def Port.answered (q : Port) (own : Bool) (frame : List Byte) (attention : Bool) : Port :=
  if own then { q with phase := .holding, response := some frame, atnLow := attention } else { q with atnLow := attention }

/-- The link after the response has been made: that to a node's request is stored with its sequence, which becomes the last taken
one, response acknowledged is cleared (R146), and a wait for it ends (R142); the response of a deleted node goes nowhere (R149). -/
def Link.answered (l : Link) (h : Handed) (a : Answer) : Link :=
  match h.origin with
  | .portA => l
  | .portB => l
  | .node n =>
    if h.discard then l
    else
      { l with
        roster := l.roster.map fun x =>
          if x.address = n then
            { x with
              lastSequence := some h.sequence
              stored := some ⟨h.sequence, a.result, a.payload⟩
              acknowledged := false }
          else x
        responseWait := if n ∈ l.responseWait then [] else l.responseWait }

/-- The command is answered: it has left the decoder, and the response with this result and payload, its STAT byte as the state
then stands, is in its port's buffer or in its node's record. Nothing else of the ports and of the link has changed. -/
structure Responded (s t : State) (h : Handed) (a : Answer) : Prop where
  decoder : t.decoder = s.decoder.eraseP fun x => x.origin = h.origin
  portA : t.portA = s.portA.answered (h.origin = .portA) (responseFrame (t.stat .a) a) (t.attention .a)
  portB : t.portB = s.portB.answered (h.origin = .portB) (responseFrame (t.stat .b) a) (t.attention .b)
  link : t.link = s.link.answered h a

/-- Outside the decoder, the ports and the link, t is the state u. -/
def SameBut (u t : State) : Prop :=
  t = { u with decoder := t.decoder, portA := t.portA, portB := t.portB, link := t.link }

/-- A command of an open requester stands at the decoder, next to be taken from its origin, and names the requester r with the
record q (R94). -/
abbrev Asked (s : State) (o : Origin) (rid code : Byte) (payload : List Byte) (h : Handed) (r : ReqSlot) (q : Requester) : Prop :=
  s.stands o rid code payload = some h ∧ s.findReq o rid = some r ∧ s.req r = some q

/-- The record of a requester that a command names: its tenure restarts at its full period (R89). -/
def Requester.renewed (q : Requester) : Requester := { q with tenureLeft := armed q.tenure }

/-- The state with the tenure of the requester of a command restarted. -/
def State.renewed (s : State) (r : ReqSlot) (q : Requester) : State :=
  { s with requesters := s.requesters.set r.val (some q.renewed) }

/-- The command i, taken in the state s, is answered a, and beyond its answer it leaves the state u: one step, the response's STAT byte
being the one after the command's own changes (R154, R155). -/
def Answers (i : Instr) (s u : State) (h : Handed) (a : Answer) : Prop :=
  ∃ t, exec i s = .next t ∧ Responded u t h a ∧ SameBut u t

/-! ## The tests of the claim commands -/

/-- The tests that an ACQUIRE makes of a live entry, its budget and the pool all pass (R26). -/
abbrev ClaimAllowed (s : State) (r : ReqSlot) (q : Requester) (en : Entry) : Prop :=
  en.state ≠ .retiring ∧ en.claimed r = false ∧ q.holdCount + q.waitCount ≠ q.budget ∧ s.freeRecords ≠ 0

/-- An ACQUIRE of this mode is granted at once (R27). -/
abbrev AtOnce (en : Entry) (m : Mode) : Prop :=
  en.state = .idle ∨ (m = .shared ∧ en.state = .shared ∧ en.queue = [] ∧ en.holders.length < en.shareLimit)

/-- An entry to which a new hold with no firstMember mark is added: hold-limit countdown, grant count and state follow (R28). -/
def Entry.granted (en : Entry) (r : ReqSlot) (m : Mode) (setId : Option Word16) : Entry :=
  { en with
    holders := insertHolder ⟨r, m, setId, false, if en.holdLimit = 0 then none else some en.holdLimit⟩ en.holders
    grantCount := en.grantCount + 1
    state := match m with | .exclusive => .exclusive | .shared => .shared }

/-- An entry in whose queue a new wait is placed, by the priorities of the requesters (R30, R31). -/
def Entry.placed (en : Entry) (priority : ReqSlot → Nat) (c : Claim) : Entry :=
  let queue := insertWaiter priority c en.queue
  { en with queue := queue, state := Entry.derivedState { en with queue := queue } }

/-- The slots with a change of the live entries at some of them. -/
def State.mapEntries (s : State) (f : EntrySlot → Entry → Entry) : Vector Slot 256 :=
  Vector.ofFn fun e => ⟨s.generation e, (s.entry e).map (f e)⟩

/-- The bytes of an ACQUIRE_SET with these members and this wait limit (R159). -/
def setBytes (members : List Member) (hi lo : Byte) : List Byte :=
  byteOf members.length ::
    (members.flatMap fun m => [byteOf m.handle.slot.val, m.handle.generation, m.mode]) ++ [hi, lo]

/-! ## The classes of commands -/

/-- Whether a payload length suits a command, by the payload columns of R157 to R161. -/
def lengthSuits (code : Byte) (payload : List Byte) : Bool :=
  if [0x11#8, 0x12#8, 0x15#8, 0x33#8, 0x45#8, 0x47#8].contains code then payload.length = 0
  else if [0x13#8, 0x41#8, 0x42#8, 0x46#8, 0x50#8, 0x51#8, 0x52#8].contains code then payload.length = 1
  else if [0x14#8, 0x25#8, 0x32#8, 0x34#8, 0x35#8, 0x36#8, 0x40#8, 0x43#8, 0x44#8, 0x53#8].contains code then payload.length = 2
  else if [0x21#8, 0x23#8].contains code then payload.length = 3
  else if code = 0x10#8 then payload.length = 4
  else if [0x22#8, 0x30#8].contains code then payload.length = 5
  else if code = 0x20#8 then payload.length = 6
  else if code = 0x24#8 then payload.length = 8
  else if code = 0x26#8 then 3 ≤ payload.length && payload.length ≤ 11
  else match payload.head? with
    | some n => payload.length = 3 + 3 * n.toNat
    | none => false

/-- The codes of the requester commands (first row of the table of R94). -/
def requesterCodes : List Byte :=
  [0x11#8, 0x12#8, 0x13#8, 0x14#8, 0x15#8, 0x26#8, 0x30#8, 0x31#8, 0x32#8, 0x33#8, 0x34#8, 0x35#8, 0x36#8]

/-- The codes of the commands that require ADMIN (Table 6.2), SET_PORT_RIGHTS aside, whose own rule is R96. -/
def adminCodes : List Byte :=
  [0x20#8, 0x21#8, 0x22#8, 0x40#8, 0x41#8, 0x43#8, 0x44#8, 0x46#8, 0x50#8, 0x51#8, 0x53#8]

/-- The payload of a refusal before a command's own tests: empty, but member number 0 for ACQUIRE_SET (R52, R156). -/
def refusalPayload (code : Byte) : List Byte := if code = 0x31#8 then [0x00#8] else []

/-! ## What admission passes do -/

/-- What admission passes make of an entry: waiting records leave the queue from its head, none past another, and stand in the holder set with
the hold limit's countdown; the grant count rises by one for each; the state follows Table 1.2; everything else is as it was
(R3, R35, R36, R60). -/
structure Admitted (en en' : Entry) : Prop where
  fixed : en'.tag = en.tag ∧ en'.shareLimit = en.shareLimit ∧ en'.holdLimit = en.holdLimit ∧ en'.note = en.note ∧
    en'.noteStale = en.noteStale
  queue : en'.queue <:+ en.queue
  holders : ∀ c, c ∈ en'.holders ↔ c ∈ en.holders ∨
    ∃ w ∈ en.queue, w ∉ en'.queue ∧ c = { w with firstMember := false, deadline := armed en.holdLimit }
  grantCount : en'.grantCount = en.grantCount + BitVec.ofNat 16 (en.queue.length - en'.queue.length)
  state : en'.state = if en.state = .retiring then .retiring else en'.derivedState

/-- The waiting record w stood in the queue of e in u and is granted in t. -/
def Granted (u t : State) (e : EntrySlot) (w : Claim) : Prop :=
  ∃ en en', u.entry e = some en ∧ t.entry e = some en' ∧ w ∈ en.queue ∧ w ∉ en'.queue

/-- Whether a grant is the placing command's own, which its answer reports in place of a notice (R32, R55). -/
def Quiet.covers (q : Quiet) (e : EntrySlot) (w : Claim) : Bool :=
  match q with
  | .loud => false
  | .single r e' => w.requester = r && e = e' && w.setId = none
  | .set r id => w.inSet r id

/-- The notices of t that were queued after those of u. -/
def newNotices (u t : State) : List Notice := t.notices.drop u.notices.length

/-- A notice with this body about the entry e was queued for the requester since u, or its queue is full and overrun is set (R113,
R114). -/
def Told (u t : State) (r : ReqSlot) (e : EntrySlot) (generation : Byte) (body : NoticeBody) : Prop :=
  (∃ n ∈ newNotices u t, n.owner = r ∧ n.slot = e ∧ n.generation = generation ∧ n.body = body) ∨
  (Config.noticeCapacity ≤ (t.noticeQueue r).length ∧ ∃ q, t.req r = some q ∧ q.overrun = true)

/-- The head of the queue of e is the record of a waiting set that waits on an entry of the list too, so that a pass on that entry
reaches it (R59). -/
abbrev State.passedWith (s : State) (list : List EntrySlot) (e : EntrySlot) : Prop :=
  ∃ en ∈ s.entry e, ∃ c ∈ en.queue.head?, ∃ id ∈ c.setId, ∃ e' ∈ list, e' ∈ s.setMembers c.requester id

/-- The admission passes of one event took u to t (R34 to R36, R58 to R61): every entry is as passes make it, and a consistent claim table
stays so, so that a grant fits beside the holders; a set is granted whole or not at all; the counts of every requester follow its
records, and overrun is set only for a grant that a full queue kept from being told; each grant of a single wait, and of a set for its first member, is told
by a GRANTED notice but for the quiet one, and no other notice is queued; and when every entry not on the pass list was blocked
before, or has a set at its head that waits on an entry of the list as well, no head that could be granted is left anywhere. Nothing
else changes. -/
structure PassesRan (quiet : Quiet) (list : List EntrySlot) (u t : State) : Prop where
  generations : ∀ e, t.generation e = u.generation e
  live : ∀ e, (t.entry e).isSome = (u.entry e).isSome
  entries : ∀ e en en', u.entry e = some en → t.entry e = some en' → Admitted en en'
  legal : u.claimsLegal → t.claimsLegal
  whole : ∀ e w e' w', Granted u t e w → (e', w') ∈ u.waitRecords → w.setId ≠ none → w'.setId = w.setId →
    Granted u t e' w'
  requesters : ∀ r, ∃ overrun,
    t.req r = (u.req r).map (fun q =>
      { q with holdCount := t.holdsOf r, waitCount := t.waitsOf r, overrun := q.overrun || overrun }) ∧
    (overrun = true → Config.noticeCapacity ≤ (t.noticeQueue r).length ∧
      ∃ e w, Granted u t e w ∧ w.requester = r ∧ (w.setId = none ∨ w.firstMember = true) ∧ quiet.covers e w = false ∧
        ∀ n ∈ newNotices u t, n.owner = r → n.slot ≠ e)
  told : ∀ e w, Granted u t e w → (w.setId = none ∨ w.firstMember = true) → quiet.covers e w = false →
    Told u t w.requester e (u.generation e) (.granted w.mode w.setId)
  notices : ∃ new, t.notices = u.notices ++ new ∧ (new.map fun n => (n.owner, n.slot)).Nodup ∧
    ∀ n ∈ new, n.generation = u.generation n.slot ∧
      ∃ w, Granted u t n.slot w ∧ w.requester = n.owner ∧ n.body = .granted w.mode w.setId ∧
        (w.setId = none ∨ w.firstMember = true) ∧ quiet.covers n.slot w = false
  blocked : (∀ e, e ∉ list → u.blocked e ∨ u.passedWith list e) → ∀ e, t.blocked e
  rest : t = { u with
    slots := t.slots, requesters := t.requesters, notices := t.notices, noticeSerial := t.noticeSerial }

/-! ## What an event that no command started leaves alone -/

/-- The decoder and the link are as they were, and of the ports only the level of ATN, which is that of the attention condition (R123),
may have changed. -/
structure Unasked (s t : State) : Prop where
  decoder : t.decoder = s.decoder
  link : t.link = s.link
  portA : t.portA = { s.portA with atnLow := t.attention .a }
  portB : t.portB = { s.portB with atnLow := t.attention .b }

/-! ## Evictions -/

/-- The requester r with the record q has been evicted from u with this cause, by the steps of R104: its records are gone with note
stale set for its exclusive holds, passes ran, its notices are gone, its slot is FREE, and REQUESTER_EVICTED is raised. -/
def Evicted (u t : State) (r : ReqSlot) (q : Requester) (cause : Cause) : Prop :=
  ∃ w, PassesRan .loud (u.slotsWhere fun en => en.claimed r) (u.stripAll r true) w ∧
    t = State.raise
      { w with requesters := w.requesters.set r.val none, notices := w.notices.filter fun n => n.owner ≠ r }
      (.requesterEvicted q.origin q.localId cause)

/-- The requesters of the list have been evicted one after the other, each eviction whole before the next begins (R106, R107). -/
inductive EvictedInTurn (cause : Cause) : State → List ReqSlot → State → Prop where
  | none (u : State) : EvictedInTurn cause u [] u
  | next (u v t : State) (r : ReqSlot) (q : Requester) (rest : List ReqSlot) :
      u.req r = some q → Evicted u v r q cause → EvictedInTurn cause v rest t → EvictedInTurn cause u (r :: rest) t

end Sys2Proof.Machine
end

