-- ==== Sys2Proof/WellFormed.lean ====
section
/-! DEFINITION. Which terms of Instr stand for something the part can meet. -/

namespace Sys2Proof

/-- A node origin has an address of 1 to 30 (section 0.4, R94). -/
def Origin.wellFormed : Origin → Bool
  | .portA => true
  | .portB => true
  | .node n => 1 ≤ n && n ≤ 30

/-- The common check of a command: its origin exists and its payload fits a frame, 0 to 32 bytes (R162, R165). -/
def commandWellFormed (o : Origin) (payload : List Byte) : Bool :=
  o.wellFormed && payload.length ≤ 32

/-- Well-formed terms: a command fits a frame of its origin; the row UNKNOWN_COMMAND carries a code that is no command for
its origin, and the row FETCH_NOTICE comes from a port (from a node it is the row UNKNOWN_COMMAND, R156). -/
def Instr.wellFormed : Instr → Bool
  | .openRequester o _ p => commandWellFormed o p
  | .closeRequester o _ p => commandWellFormed o p
  | .renew o _ p => commandWellFormed o p
  | .setBudget o _ p => commandWellFormed o p
  | .listMine o _ p => commandWellFormed o p
  | .fetchNotice o _ p => commandWellFormed o p && isCommandCode o 0x15#8
  | .define o _ p => commandWellFormed o p
  | .retire o _ p => commandWellFormed o p
  | .setLimits o _ p => commandWellFormed o p
  | .lookup o _ p => commandWellFormed o p
  | .find o _ p => commandWellFormed o p
  | .readEntry o _ p => commandWellFormed o p
  | .writeNote o _ p => commandWellFormed o p
  | .acquire o _ p => commandWellFormed o p
  | .acquireSet o _ p => commandWellFormed o p
  | .release o _ p => commandWellFormed o p
  | .releaseAll o _ p => commandWellFormed o p
  | .cancel o _ p => commandWellFormed o p
  | .upgrade o _ p => commandWellFormed o p
  | .downgrade o _ p => commandWellFormed o p
  | .evict o _ p => commandWellFormed o p
  | .purgeOrigin o _ p => commandWellFormed o p
  | .setPortRights o _ p => commandWellFormed o p
  | .setTimebase o _ p => commandWellFormed o p
  | .routeEvent o _ p => commandWellFormed o p
  | .readEvents o _ p => commandWellFormed o p
  | .setPoolThreshold o _ p => commandWellFormed o p
  | .readPartStatus o _ p => commandWellFormed o p
  | .rosterAdd o _ p => commandWellFormed o p
  | .rosterRemove o _ p => commandWellFormed o p
  | .readNode o _ p => commandWellFormed o p
  | .linkConfig o _ p => commandWellFormed o p
  | .unknownCommand o _ code p => commandWellFormed o p && !isCommandCode o code
  | .transferStart _ => true
  | .commandFrameEnd _ _ _ => true
  | .responseReadEnd _ _ => true
  | .tick => true
  | .waitLimitExpiry _ _ => true
  | .setWaitLimitExpiry _ _ => true
  | .holdLimitExpiry _ _ => true
  | .tenureExpiry _ => true
  | .nodeSelection => true
  | .replyWindowOpen => true
  | .exchangeEnd => true
  | .replyWindowClose => true
  | .replyIdleTimeout => true
  | .linkDisable => true
  | .bitTimeChange => true
  | .nodeRemoval => true
  | .reset => true
  | .resetEnd => true
  | .replyByteReceived _ => true

end Sys2Proof
end

