-- ==== Sys2Proof/Certificates/Slice0/Obligations.lean ====
section
/-! DEFINITION. The statements about the model, for the provers. OBLIGATIONS.json lists them with the rules they rest on. -/

open Sys2Proof Sys2Proof.Machine

/-! ## The queue of commands and the frames that carry them -/

/-- A step takes the command at the front of the queue with the queue's rest; on an empty queue the part idles (assumption 1). -/
def Obligations.StepTakesFront : Prop :=
  (∀ (c : Instr) (rest : List Instr) (s : State),
    step { s with pending := c :: rest } = exec c { s with pending := rest }) ∧
  ∀ s : State, s.pending = [] → step s = .next s

/-- Every command of a port survives its frame: the frame made of its fields, LEN, RID, CMD, the payload and CHK, passes the tests of
R153, and what it hands to the decoder decodes to the command. A response frame is LEN, STAT with BUSY_DISCARD in bit 7, ATN in bit 6 and
PORT_ADMIN in bit 5, RES, the payload and CHK (R155, R162). -/
def Obligations.CommandFramesDecodeBack : Prop :=
  (∀ (i : Instr) (p : PortId) (rid code : Byte) (payload : List Byte),
    i.wellFormed = true → i.fields = some (p.origin, rid, code, payload) →
      (let body := byteOf (payload.length + 2) :: rid :: code :: payload
       commandFrame rid code payload = body ++ [crc8 body]) ∧
      frameError (commandFrame rid code payload) false = none ∧
      ∃ h, handedFrame p (commandFrame rid code payload) = some h ∧
        decodeCommand h.origin h.localId h.code h.payload = i) ∧
  ∀ (s : State) (p : PortId) (result : Result) (payload : List Byte),
    responseFrame (s.stat p) ⟨result, payload⟩ =
      responseLayout (s.port p).busyDiscard (s.attention p) (s.admin p.origin) result payload

/-- Every reply that a node may send is received whole, byte by byte, and is classified as the good reply it is for the node polled,
and as a miss for any other (R141, R144, R165). -/
def Obligations.RepliesReceivedBack : Prop :=
  ∀ (r : Reply) (n : Nat), r.source.toNat = n →
    (∀ a, r.respAck = some a → a ≤ 15) →
    (∀ q, r.request = some q → q.sequence ≤ 15 ∧ q.payload.length ≤ 32) →
      (replyFrame r).foldl receiveReplyByte [] = replyFrame r ∧
      replyProgress (replyFrame r) = .complete ∧
      classify n (replyFrame r) = .good r ∧
      ∀ m, m ≠ n → classify m (replyFrame r) = .miss

/-! ## The command ports -/

/-- A transfer takes its class at its SEL fall, by the port's state (R152): a response read from the first byte, a command frame, an
ignored transfer that sets BUSY_DISCARD; during reset an ignored one that sets no flag (R151). A command frame with no byte at all is
dropped; the SEL rise of an ignored transfer only ends it. A response clocked out whole is removed with BUSY_DISCARD cleared and the
port READY; one that is not stays. SDO carries the response and FFh after its CHK in a response read, FFh in every other transfer, and is
held high in reset. Nothing else changes. That a new transfer may start while an ignored one has not ended in the queue, and that either
end row ends an ignored one, are the model's choice (assumption 17), and so is that the bytes of SDO and the read pointer stand on after
the transfer (assumption 9). -/
def Obligations.TransfersStartAndEnd : Prop :=
  (∀ (s : State) (p : PortId), ((s.port p).transfer = none ∨ (s.port p).transfer = some .ignored) →
      (s.inReset = true →
        exec (.transferStart p) s = .next (s.setPort p { s.port p with transfer := some .ignored, sdo := .high })) ∧
      (∀ response, s.inReset = false → (s.port p).phase = .holding → (s.port p).response = some response →
        exec (.transferStart p) s =
          .next (s.setPort p { s.port p with transfer := some .responseRead, readPointer := 0, sdo := .sending response })) ∧
      (s.inReset = false → (s.port p).phase = .ready →
        exec (.transferStart p) s =
          .next (s.setPort p { s.port p with transfer := some .commandFrame, rxBuffer := [], rxCount := 0, sdo := .high })) ∧
      (s.inReset = false → (s.port p).phase = .working →
        exec (.transferStart p) s =
          .next (s.setPort p { s.port p with transfer := some .ignored, busyDiscard := true, sdo := .high }))) ∧
  (∀ (s : State) (p : PortId),
      ((s.port p).transfer = some .commandFrame →
        exec (.commandFrameEnd p [] false) s =
          .next (s.setPort p { s.port p with transfer := none, rxBuffer := [], rxCount := 0, sdo := .clocked [] })) ∧
      ((s.port p).transfer = some .ignored →
        let ended := fun (clocked : Nat) => s.setPort p { s.port p with
          transfer := none
          sdo := if s.inReset then .high else .clocked (List.replicate clocked 0xFF#8) }
        (∀ bytes b, exec (.commandFrameEnd p bytes b) s = .next (ended bytes.length)) ∧
        ∀ n, exec (.responseReadEnd p n) s = .next (ended n)) ∧
      ∀ (response : List Byte) (n : Nat),
        (s.port p).transfer = some .responseRead → (s.port p).response = some response →
        (response.length ≤ n →
          exec (.responseReadEnd p n) s = .next (s.setPort p { s.port p with
            transfer := none, readPointer := n, sdo := .clocked (response ++ List.replicate (n - response.length) 0xFF#8)
            phase := .ready, response := none, busyDiscard := false })) ∧
        (n < response.length →
          exec (.responseReadEnd p n) s = .next (s.setPort p { s.port p with
            transfer := none, readPointer := n, sdo := .clocked (response.take n) })))

/-- A command frame that passes its tests is handed to the decoder with the port's origin, RID, CMD and payload, and the port is
WORKING, RDY going low; SDO carried FFh for every byte of it; nothing else changes (R151, R152, R153, R154). -/
def Obligations.GoodFrameHandedOver : Prop :=
  ∀ (s : State) (p : PortId) (rid code : Byte) (payload : List Byte),
    (s.port p).transfer = some .commandFrame → payload.length ≤ 32 →
      let bytes := commandFrame rid code payload
      ∃ t, exec (.commandFrameEnd p bytes false) s = .next t ∧ (t.port p).rdy t.inReset = false ∧
        t = { s.setPort p { s.port p with
                  transfer := none, rxBuffer := bytes, rxCount := bytes.length, phase := .working
                  sdo := .clocked (List.replicate bytes.length 0xFF#8) } with
                decoder := s.decoder ++ [⟨p.origin, rid, code, payload, 0, false⟩] }

/-- What a frame refused with a frame error of this kind leaves: the port HOLDING its error response with an empty payload, its event
raised with the kind as detail, the ATN lines settled, SDO having carried FFh, and everything else as it was (R125, R152, R153). That the STAT byte of
the response is made after the raise is the model's order (assumption 3). -/
def Obligations.FrameErrorsAnswered : Prop :=
  ∀ (s : State) (p : PortId) (bytes : List Byte) (partialByte : Bool) (k : FrameErrorKind) (result : Result),
    (s.port p).transfer = some .commandFrame →
    ((partialByte = true ∧ k = .partialByte ∧ result = .frameError) ∨
     (∃ len rest, partialByte = false ∧ bytes = len :: rest ∧
        (len.toNat < 2 ∨ 34 < len.toNat ∨ bytes.length ≠ len.toNat + 2) ∧ k = .byteCount ∧ result = .badLength) ∨
     (∃ len mid chk, partialByte = false ∧ bytes = len :: mid ++ [chk] ∧
        2 ≤ len.toNat ∧ len.toNat ≤ 34 ∧ bytes.length = len.toNat + 2 ∧ chk ≠ crc8 (len :: mid) ∧
        k = .check ∧ result = .checkFailed)) →
      ∃ t, exec (.commandFrameEnd p bytes partialByte) s = .next t ∧
        t.port p = { s.port p with
          transfer := none, rxBuffer := bytes.take 36, rxCount := bytes.length, phase := .holding
          sdo := .clocked (List.replicate bytes.length 0xFF#8)
          response := some (responseFrame (t.stat p) ⟨result, []⟩), atnLow := t.attention p } ∧
        (∀ p', p' ≠ p → t.port p' = { s.port p' with atnLow := t.attention p' }) ∧
        t = { s.raise (match p with | .a => .frameErrorA k | .b => .frameErrorB k) with portA := t.portA, portB := t.portB }

/-- RESET is always taken and leaves, whatever the state before, every value that the manual states for it (R7, R22, R49, R50, R76, R92,
R110, R112, R122, R132, R150, R151), no detail of a part event holding a value, RDY low and SDO high. RESET_END is always taken: RDY of a
port that is not WORKING is high, that of one that is WORKING low, and nothing else changes (R151). The queue of commands outlasts a reset (the model's own field,
assumption 12); a transfer in progress stays as an ignored one (R151, assumption 9). -/
def Obligations.ResetAndItsEnd : Prop :=
  (∀ s : State, ∃ t, exec .reset s = .next t ∧
      (∀ e, t.entry e = none ∧ t.generation e = 0) ∧ t.dir = [] ∧ t.freeRecords = 512 ∧ t.setIdCounter = 0 ∧
      (∀ r, t.req r = none) ∧ t.adminB = false ∧ t.divider = 16000 ∧ t.clkCount = 0 ∧
      t.notices = [] ∧ t.noticeSerial = 0 ∧
      (∀ i : Fin 7, t.eventsA[i.val] = false ∧ t.eventsB[i.val] = false ∧ t.details[i.val] = none) ∧
      t.routes.toList = [.a, .none, .a, .a, .a, .b, .a] ∧ t.poolThreshold = 16 ∧ t.poolState = .armed ∧
      t.link.enabled = false ∧ t.link.rate = .k125 ∧ t.link.pendingDisable = false ∧ t.link.pendingRate = none ∧
      t.link.bitTimePending = false ∧
      t.link.bitTime = 128 ∧ t.link.roster = [] ∧ t.link.exchange = none ∧ t.link.responseWait = [] ∧ t.link.cycleCount = 0 ∧ t.link.cyclePosition = none ∧
      t.link.lde = false ∧ t.link.ltx = .idleHigh ∧ t.decoder = [] ∧
      (∀ p, (t.port p).phase = .ready ∧ (t.port p).response = none ∧ (t.port p).readPointer = 0 ∧
        (t.port p).busyDiscard = false ∧ (t.port p).atnLow = false ∧ (t.port p).rdy t.inReset = false ∧
        (t.port p).sdo = .high ∧
        (t.port p).transfer = (s.port p).transfer.map fun _ => .ignored) ∧
      t.pending = s.pending) ∧
  (∀ s : State, exec .resetEnd s = .next { s with inReset := false } ∧
      (∀ p, (s.port p).phase ≠ .working → (s.port p).rdy false = true) ∧
      ∀ p, (s.port p).phase = .working → (s.port p).rdy s.inReset = false)

/-! ## The common refusals and answers -/

/-- The refusals that stand before a command's own tests, for every command that section 10.7 lists (R156): BAD_LENGTH for a payload
length that does not suit it; NO_RIGHT for a command of Table 6.2 whose origin holds no ADMIN; NOT_OPEN for a requester command
that names no open requester. A code that is no command, and FETCH_NOTICE from a node, is BAD_COMMAND (R116). Nothing changes but the
tenure restart of the open requester that the command names (R89). -/
def Obligations.CommonRefusals : Prop :=
  (∀ (s : State) (i : Instr) (o : Origin) (rid code : Byte) (payload : List Byte) (h : Handed),
      i.wellFormed = true → i.fields = some (o, rid, code, payload) → isCommandCode o code = true →
      s.stands o rid code payload = some h →
      (lengthSuits code payload = false →
        Answers i s (if code ∈ 0x10#8 :: requesterCodes then s.restartTenureOf o rid else s) h
          ⟨.badLength, refusalPayload code⟩) ∧
      (lengthSuits code payload = true → code ∈ adminCodes → s.admin o = false → Answers i s s h ⟨.noRight, []⟩) ∧
      (lengthSuits code payload = true → code ∈ requesterCodes → s.findReq o rid = none →
        Answers i s s h ⟨.notOpen, refusalPayload code⟩)) ∧
  (∀ (s : State) (o : Origin) (rid code : Byte) (payload : List Byte) (h : Handed),
      isCommandCode o code = false → s.stands o rid code payload = some h →
        (∀ r q, s.findReq o rid = some r → s.req r = some q →
          Answers (.unknownCommand o rid code payload) s (s.renewed r q) h ⟨.badCommand, []⟩) ∧
        (s.findReq o rid = none → Answers (.unknownCommand o rid code payload) s s h ⟨.badCommand, []⟩))

/-- A row that is not due leaves the state unchanged (the model's choice, assumption 4; R79 for the expiries, R133 for bytes outside the
reply window): a command that does not stand at the decoder (R154); an expiry whose countdown did not reach zero (R79); a SEL event that
does not fit the transfer in progress (R152); an event of the exchange outside the phase it belongs to (R141); a selection while an
exchange is under way or NLC waits, for polling to become possible or for a response (R142); and what is deferred to the end of an
exchange before that end, or when nothing of its kind is deferred, or before a removal (R134, R138, R141). -/
def Obligations.RowsNotDueChangeNothing : Prop :=
  (∀ (s : State) (i : Instr) (o : Origin) (rid code : Byte) (payload : List Byte),
    i.wellFormed = true → i.fields = some (o, rid, code, payload) → s.stands o rid code payload = none → exec i s = .next s) ∧
  (∀ (s : State) (r : ReqSlot) (e : EntrySlot),
    ((∀ en c, s.entry e = some en → en.wait r = some c → c.deadline ≠ some 0) →
      exec (.waitLimitExpiry r e) s = .next s ∧ exec (.setWaitLimitExpiry r e) s = .next s) ∧
    ((∀ en c, s.entry e = some en → en.hold r = some c → c.deadline ≠ some 0) → exec (.holdLimitExpiry r e) s = .next s) ∧
    ((∀ q, s.req r = some q → q.tenureLeft ≠ some 0) → exec (.tenureExpiry r) s = .next s)) ∧
  (∀ (s : State) (p : PortId) (bytes : List Byte) (partialByte : Bool) (n : Nat),
    ((s.port p).transfer = some .commandFrame ∨ (s.port p).transfer = some .responseRead →
      exec (.transferStart p) s = .next s) ∧
    ((s.port p).transfer = none ∨ (s.port p).transfer = some .responseRead →
      exec (.commandFrameEnd p bytes partialByte) s = .next s) ∧
    ((s.port p).transfer = none ∨ (s.port p).transfer = some .commandFrame → exec (.responseReadEnd p n) s = .next s)) ∧
  (∀ (s : State) (b : Byte),
    let window := fun (reply : List Byte) => ∃ x, s.link.exchange = some x ∧ x.phase = .window reply
    let atEnd := ∃ x, s.link.exchange = some x ∧ x.phase = .ending
    let leaving := ∃ x, s.link.exchange = some x ∧ ∃ n, s.node x.node = some n ∧ n.state = .leaving
    ((∀ x, s.link.exchange = some x → x.phase ≠ .polling) → exec .replyWindowOpen s = .next s) ∧
    ((∀ reply, ¬ window reply) → exec (.replyByteReceived b) s = .next s) ∧
    ((∀ reply, window reply → reply = [] ∨ replyProgress reply = .incomplete) → exec .exchangeEnd s = .next s) ∧
    ((∀ reply, window reply → reply ≠ []) → exec .replyWindowClose s = .next s) ∧
    ((∀ reply, window reply → reply = [] ∨ replyProgress reply ≠ .incomplete) → exec .replyIdleTimeout s = .next s) ∧
    (s.link.exchange ≠ none ∨ s.link.pollWait = true ∨ s.link.responseWait ≠ [] → exec .nodeSelection s = .next s) ∧
    (¬ (atEnd ∧ leaving) → exec .nodeRemoval s = .next s) ∧
    (¬ atEnd ∨ leaving ∨ s.link.pendingDisable = false → exec .linkDisable s = .next s) ∧
    (¬ atEnd ∨ leaving ∨ s.link.bitTimePending = false → exec .bitTimeChange s = .next s))

/-! ## Requesters and notices -/

/-- OPEN (R97, R98). A local id, priority, budget or tenure out of its range is BAD_VALUE. An open pair is first evicted with cause
REOPEN; the lowest FREE slot takes the new record, or without one the answer is REQUESTERS_FULL. -/
def Obligations.OpenTakesLowestSlot : Prop :=
  ∀ (s : State) (o : Origin) (rid p b hi lo : Byte) (h : Handed),
    let i : Instr := .openRequester o rid [p, b, hi, lo]
    let tenure := hi.toNat * 256 + lo.toNat
    let port := o = .portA ∨ o = .portB
    let valid := (rid.toNat ≤ if port then 15 else 3) ∧ p.toNat ≤ 3 ∧ 1 ≤ b.toNat ∧ b.toNat ≤ 24 ∧
      (100 ≤ tenure ∨ (tenure = 0 ∧ port))
    let record : Requester :=
      ⟨o, rid, p.toNat, b.toNat, 0, 0, tenure, if tenure = 0 then none else some tenure, false⟩
    s.stands o rid 0x10#8 [p, b, hi, lo] = some h →
    (¬ valid → Answers i s (s.restartTenureOf o rid) h ⟨.badValue, []⟩) ∧
    (valid → s.findReq o rid = none →
      (∀ r, s.req r = none → (∀ r', r' < r → s.req r' ≠ none) →
        Answers i s { s with requesters := s.requesters.set r.val (some record) } h ⟨.ok, [0x00#8]⟩) ∧
      ((∀ r, s.req r ≠ none) → Answers i s s h ⟨.requestersFull, []⟩)) ∧
    (valid → s.claimsLegal → ∀ r q, s.findReq o rid = some r → s.req r = some q →
      ∃ v r', Evicted (s.renewed r q) v r q .reopen ∧ v.req r' = none ∧ (∀ r'', r'' < r' → v.req r'' ≠ none) ∧
        Answers i s (State.reportPool { v with requesters := v.requesters.set r'.val (some record) } s.freeRecords) h
          ⟨.ok, [0x01#8]⟩)

/-- RELEASE_ALL and CLOSE (R46, R103): every record of the requester is removed, passes run on the entries it claimed, and the answer counts
its holds and waits; CLOSE also empties its notice queue and frees its slot. -/
def Obligations.ReleaseAllAndClose : Prop :=
  ∀ (s : State) (o : Origin) (rid : Byte) (h : Handed) (r : ReqSlot) (q : Requester), s.claimsLegal →
    (Asked s o rid 0x33#8 [] h r q →
      ∃ w, PassesRan .loud (s.slotsWhere fun en => en.claimed r) ((s.renewed r q).stripAll r false) w ∧ w.unclaimedBy r ∧
        Answers (.releaseAll o rid []) s (w.reportPool s.freeRecords) h
          ⟨.ok, [byteOf q.holdCount, byteOf q.waitCount]⟩) ∧
    (Asked s o rid 0x11#8 [] h r q →
      ∃ w, PassesRan .loud (s.slotsWhere fun en => en.claimed r) ((s.renewed r q).stripAll r false) w ∧ w.unclaimedBy r ∧
        Answers (.closeRequester o rid []) s
          (State.reportPool
            { w with requesters := w.requesters.set r.val none, notices := w.notices.filter fun n => n.owner ≠ r }
            s.freeRecords) h
          ⟨.ok, [byteOf q.holdCount, byteOf q.waitCount]⟩)

/-- RENEW does nothing beyond the tenure restart (R101). SET_BUDGET refuses BAD_VALUE outside 1 to 24 and BUDGET_IN_USE below the sum of
the counts, and writes the budget otherwise (R100). -/
def Obligations.RenewAndSetBudget : Prop :=
  ∀ (s : State) (o : Origin) (rid b : Byte) (h : Handed) (r : ReqSlot) (q : Requester),
    (Asked s o rid 0x12#8 [] h r q → Answers (.renew o rid []) s (s.renewed r q) h ⟨.ok, []⟩) ∧
    (Asked s o rid 0x13#8 [b] h r q →
      let i : Instr := .setBudget o rid [b]
      (b.toNat < 1 ∨ 24 < b.toNat → Answers i s (s.renewed r q) h ⟨.badValue, []⟩) ∧
      (1 ≤ b.toNat → b.toNat ≤ 24 → b.toNat < q.holdCount + q.waitCount →
        Answers i s (s.renewed r q) h ⟨.budgetInUse, []⟩) ∧
      (1 ≤ b.toNat → b.toNat ≤ 24 → q.holdCount + q.waitCount ≤ b.toNat →
        Answers i s { s with requesters := s.requesters.set r.val (some { q.renewed with budget := b.toNat }) } h ⟨.ok, []⟩))

/-- LIST_MINE (R102, R115): a cursor above 256 is BAD_VALUE. Otherwise the answer gives the overrun flag, the notices queued, the budget,
the counts, and the requester's records on the first 8 entries from the cursor slot, with the next cursor; cursor 0 clears overrun
after the answer is taken. An item is the entry's handle, the mode in bit 7, set-id-present in bit 6 and in bits 5 to 0 the position in
the queue counted from 1 at the head, or 0 for a hold, and the set id, or 0000h without one (R157). -/
def Obligations.ListMineAnswers : Prop :=
  ∀ (s : State) (o : Origin) (rid hi lo : Byte) (h : Handed) (r : ReqSlot) (q : Requester),
    Asked s o rid 0x14#8 [hi, lo] h r q →
    let i : Instr := .listMine o rid [hi, lo]
    let cursor := hi.toNat * 256 + lo.toNat
    let page := ((List.finRange 256).filter fun e =>
      cursor ≤ e.val && ((s.entry e).map fun en => en.claimed r).getD false).take 8
    let next := if page.length = 8 then ((page.getLast?).map fun e => e.val + 1).getD 256 else 256
    let item := fun (e : EntrySlot) (c : Claim) (position : Nat) =>
      [byteOf e.val, s.generation e,
        byteOf ((match c.mode with | .exclusive => 0 | .shared => 128) + (if c.setId = none then 0 else 64) + position)] ++
        bytes16 ((c.setId.map BitVec.toNat).getD 0)
    (256 < cursor → Answers i s (s.renewed r q) h ⟨.badValue, []⟩) ∧
    (cursor ≤ 256 →
      Answers i s
        (if cursor = 0 then { s with requesters := s.requesters.set r.val (some { q.renewed with overrun := false }) }
         else s.renewed r q) h
        ⟨.ok, [flagByte q.overrun, byteOf (s.noticeQueue r).length, byteOf q.budget, byteOf q.holdCount, byteOf q.waitCount,
            byteOf page.length] ++ bytes16 next ++
          page.flatMap fun e => match s.entry e with
            | none => []
            | some en =>
              match en.holders.find? (fun c => c.requester = r), en.queue.find? (fun c => c.requester = r) with
              | some c, _ => item e c 0
              | none, some c => item e c (en.queue.findIdx (fun c => c.requester = r) + 1)
              | none, none => []⟩)

/-- FETCH_NOTICE of a port (R116): the oldest notice of the requester is removed and answered with the number left and the overrun flag;
an empty queue is answered EMPTY with the flag. The notice stands in the answer by the layout of R163. -/
def Obligations.FetchNoticeTakesOldest : Prop :=
  ∀ (s : State) (p : PortId) (rid : Byte) (h : Handed) (r : ReqSlot) (q : Requester),
    Asked s p.origin rid 0x15#8 [] h r q →
    (s.noticeQueue r = [] →
      Answers (.fetchNotice p.origin rid []) s (s.renewed r q) h ⟨.empty, [flagByte q.overrun]⟩) ∧
    (∀ n rest, s.noticeQueue r = n :: rest →
      Answers (.fetchNotice p.origin rid []) s
        { s.renewed r q with notices := s.notices.eraseP fun m => m.owner = r } h
        ⟨.ok, noticeLayout n ++ [byteOf rest.length, flagByte q.overrun]⟩)

/-- The handing of an outcome to NTU for an open requester (R112, R113, R114): with fewer than 16 notices queued the notice is the
youngest of its queue, carries the serial counter's value, and the counter takes a value that no queued notice carries; with 16 it
is dropped and overrun is set. -/
def Obligations.NoticeQueuedOrDropped : Prop :=
  ∀ (s : State) (r : ReqSlot) (q : Requester) (e : EntrySlot) (body : NoticeBody), s.req r = some q →
    let t := s.queueNotice r e body
    ((s.noticeQueue r).length < 16 →
      t.noticeQueue r = s.noticeQueue r ++ [⟨r, s.noticeSerial, e, s.generation e, body⟩] ∧
      (∀ r', r' ≠ r → t.noticeQueue r' = s.noticeQueue r') ∧
      (s.notices.length < 65535 → t.noticeSerial ∉ t.notices.map Notice.serial) ∧
      t = { s with notices := t.notices, noticeSerial := t.noticeSerial }) ∧
    (16 ≤ (s.noticeQueue r).length →
      t = { s with requesters := s.requesters.set r.val (some { q with overrun := true }) })

/-! ## Entries and the directory -/

/-- DEFINE with the right (R8): BAD_VALUE for a share limit outside 1 to 8, TAG_EXISTS for a tag of a live entry, TABLE_FULL with no
UNUSED slot; otherwise the lowest UNUSED slot takes an IDLE entry under its present generation and the answer is its handle. -/
def Obligations.DefineMakesEntry : Prop :=
  ∀ (s : State) (o : Origin) (rid x y z share hi lo : Byte) (h : Handed),
    s.stands o rid 0x20#8 [x, y, z, share, hi, lo] = some h → s.admin o = true → s.dirLegal →
    let i : Instr := .define o rid [x, y, z, share, hi, lo]
    let tag := tagOf x y z
    let valid := 1 ≤ share.toNat ∧ share.toNat ≤ 8
    (¬ valid → Answers i s s h ⟨.badValue, []⟩) ∧
    (valid → (∃ e en, s.entry e = some en ∧ en.tag = tag) → Answers i s s h ⟨.tagExists, []⟩) ∧
    (valid → (∀ e en, s.entry e = some en → en.tag ≠ tag) →
      ((∀ e, s.entry e ≠ none) → Answers i s s h ⟨.tableFull, []⟩) ∧
      ∀ e, s.entry e = none → (∀ e', e' < e → s.entry e' ≠ none) →
        ∃ dir, State.dirLegal { s.setEntry e ⟨tag, .idle, share.toNat, hi.toNat * 256 + lo.toNat, [], [], [], false, 0⟩ with
            dir := dir } ∧
          Answers i s
            { s.setEntry e ⟨tag, .idle, share.toNat, hi.toNat * 256 + lo.toNat, [], [], [], false, 0⟩ with dir := dir } h
            ⟨.ok, handleBytes e (s.generation e)⟩)

/-- SET_LIMITS with the right (R9): BAD_VALUE for a share limit outside 1 to 8, whatever the handle; on a live entry LIMIT_IN_USE below
the number of holders; otherwise both limits are written, and a raised share limit runs the admission pass. WRITE_NOTE of an open
requester (R13): BAD_VALUE when the note length does not agree with the bytes, whatever the handle; on a live entry NOT_EXCLUSIVE unless
it holds the entry exclusive; otherwise the note is replaced and note stale cleared. -/
def Obligations.LimitsAndNotesWritten : Prop :=
  (∀ (s : State) (o : Origin) (rid a g share hi lo : Byte) (h : Handed),
      s.stands o rid 0x22#8 [a, g, share, hi, lo] = some h → s.admin o = true →
      let i : Instr := .setLimits o rid [a, g, share, hi, lo]
      let valid := 1 ≤ share.toNat ∧ share.toNat ≤ 8
      (¬ valid → Answers i s s h ⟨.badValue, []⟩) ∧
      ∀ en, s.entryOf (handleOf a g) = some en →
      let u := s.setEntry (slotOf a) { en with shareLimit := share.toNat, holdLimit := hi.toNat * 256 + lo.toNat }
      (valid → share.toNat < en.holders.length → Answers i s s h ⟨.limitInUse, []⟩) ∧
      (valid → en.holders.length ≤ share.toNat → share.toNat ≤ en.shareLimit → Answers i s u h ⟨.ok, []⟩) ∧
      (valid → en.holders.length ≤ share.toNat → en.shareLimit < share.toNat → s.claimsLegal →
        ∃ w, PassesRan .loud [slotOf a] u w ∧ Answers i s w h ⟨.ok, []⟩)) ∧
  (∀ (s : State) (o : Origin) (rid a g n : Byte) (bytes : List Byte) (h : Handed) (r : ReqSlot) (q : Requester),
      bytes.length ≤ 8 → Asked s o rid 0x26#8 (a :: g :: n :: bytes) h r q →
      let i : Instr := .writeNote o rid (a :: g :: n :: bytes)
      (n.toNat ≠ bytes.length → Answers i s (s.renewed r q) h ⟨.badValue, []⟩) ∧
      ∀ en, s.entryOf (handleOf a g) = some en →
      (n.toNat = bytes.length → en.holdsExclusive r = true →
        Answers i s ((s.renewed r q).setEntry (slotOf a) { en with note := bytes, noteStale := false }) h ⟨.ok, []⟩) ∧
      (n.toNat = bytes.length → en.holdsExclusive r = false → Answers i s (s.renewed r q) h ⟨.notExclusive, []⟩))

/-- The commands that read and change nothing (R10, R11, R12, R131, R139): LOOKUP answers the live entry of a tag, FIND the first 8 live
entries from the cursor that agree with the value under the mask, READ_ENTRY the fields of Table 1.3, READ_PART_STATUS those of
Table 8.2, all from the one state (the model's order, assumption 10), and READ_NODE those of a node record, an exchange at its end
being in flight no longer (assumption 6). -/
def Obligations.ReadsAnswer : Prop :=
  ∀ (s : State) (o : Origin) (rid : Byte) (h : Handed), s.dirLegal →
    (∀ x y z, s.stands o rid 0x23#8 [x, y, z] = some h →
      (∀ e en, s.entry e = some en → en.tag = tagOf x y z →
        Answers (.lookup o rid [x, y, z]) s s h ⟨.ok, handleBytes e (s.generation e) ++ [en.state.code]⟩) ∧
      ((∀ e en, s.entry e = some en → en.tag ≠ tagOf x y z) →
        Answers (.lookup o rid [x, y, z]) s s h ⟨.noSuchTag, []⟩)) ∧
    (∀ v2 v1 v0 m2 m1 m0 hi lo, s.stands o rid 0x24#8 [v2, v1, v0, m2, m1, m0, hi, lo] = some h →
      let cursor := hi.toNat * 256 + lo.toNat
      let page := ((List.finRange 256).filter fun e => cursor ≤ e.val &&
        ((s.entry e).map fun en => en.tag &&& tagOf m2 m1 m0 == tagOf v2 v1 v0 &&& tagOf m2 m1 m0).getD false).take 8
      let next := if page.length = 8 then ((page.getLast?).map fun e => e.val + 1).getD 256 else 256
      (256 < cursor → Answers (.find o rid [v2, v1, v0, m2, m1, m0, hi, lo]) s s h ⟨.badValue, []⟩) ∧
      (cursor ≤ 256 → Answers (.find o rid [v2, v1, v0, m2, m1, m0, hi, lo]) s s h
        ⟨.ok, [byteOf page.length] ++ bytes16 next ++ page.flatMap fun e =>
          handleBytes e (s.generation e) ++ [flagByte (((s.entry e).map fun en => en.state == .retiring).getD false)]⟩)) ∧
    (∀ a g en, s.stands o rid 0x25#8 [a, g] = some h → s.entryOf (handleOf a g) = some en →
      Answers (.readEntry o rid [a, g]) s s h
        ⟨.ok, [en.state.code] ++ tagBytes en.tag ++ [byteOf en.shareLimit] ++ bytes16 en.holdLimit ++
          bytes16 en.grantCount.toNat ++ [byteOf en.queue.length, noteByte en.noteStale en.note.length] ++ en.note ++
          [byteOf en.holders.length] ++ en.holders.flatMap fun c =>
            match s.req c.requester with
            | some q => [originCode q.origin, q.localId, c.mode.code]
            | none => []⟩) ∧
    (s.stands o rid 0x47#8 [] = some h →
      let count := fun st => byteOf (s.link.roster.filter fun n => n.state = st).length
      Answers (.readPartStatus o rid []) s s h
        ⟨.ok, bytes16 s.freeRecords ++ bytes16 ((List.finRange 256).filter fun e => (s.entry e).isSome).length ++
          [byteOf ((List.finRange 48).filter fun r => (s.req r).isSome).length, byteOf s.poolThreshold, s.poolState.code] ++
          s.routes.toList.map Route.code ++
          [flagByte s.adminB, flagByte s.link.enabled, s.link.rate.code, byteOf s.link.roster.length,
            count .joining, count .active, count .silent, count .leaving]⟩) ∧
    (∀ b, s.stands o rid 0x52#8 [b] = some h →
      (b.toNat < 1 ∨ 30 < b.toNat → Answers (.readNode o rid [b]) s s h ⟨.badValue, []⟩) ∧
      (1 ≤ b.toNat → b.toNat ≤ 30 → s.node b.toNat = none → Answers (.readNode o rid [b]) s s h ⟨.noSuchNode, []⟩) ∧
      (∀ n, 1 ≤ b.toNat → b.toNat ≤ 30 → s.node b.toNat = some n →
        Answers (.readNode o rid [b]) s s h
          ⟨.ok, [n.state.code, byteOf n.missed, byteOf n.errorCount, (n.lastSequence.map byteOf).getD 0xFF#8,
            byteOf ((if n.stored.isSome then 128 else 0) + (if n.acknowledged then 64 else 0) +
              (n.stored.map Stored.sequence).getD 0),
            (n.stored.map fun x => x.result.code).getD 0x00#8,
            byteOf ((if n.noticeInFlight.isSome then 1 else 0) + (if s.inExchange n.address then 2 else 0))] ++
            bytes16 ((n.noticeInFlight.map BitVec.toNat).getD 0) ++
            [byteOf s.link.cycleCount, byteOf (s.reqsOf (.node n.address)).length]⟩))

/-- A handle that names no live entry is refused STALE_HANDLE by every command that carries one, once the tests before it pass
(R6). -/
def Obligations.StaleHandlesRefused : Prop :=
  ∀ (s : State) (i : Instr) (o : Origin) (rid code a g : Byte) (rest : List Byte) (h : Handed),
    i.wellFormed = true → i.fields = some (o, rid, code, a :: g :: rest) →
    s.stands o rid code (a :: g :: rest) = some h → s.entryOf (handleOf a g) = none →
    ((code = 0x25#8 ∧ rest = []) → Answers i s s h ⟨.staleHandle, []⟩) ∧
    (s.admin o = true →
      ((code = 0x21#8 ∧ (rest = [0x00#8] ∨ rest = [0x01#8])) ∨
       (code = 0x22#8 ∧ ∃ share hi lo, rest = [share, hi, lo] ∧ 1 ≤ share.toNat ∧ share.toNat ≤ 8)) →
      Answers i s s h ⟨.staleHandle, []⟩) ∧
    (∀ r q, s.findReq o rid = some r → s.req r = some q →
      ((code ∈ [0x32#8, 0x34#8, 0x35#8, 0x36#8] ∧ rest = []) ∨
       (code = 0x26#8 ∧ ∃ n bytes, rest = n :: bytes ∧ n.toNat = bytes.length ∧ bytes.length ≤ 8) ∨
       (code = 0x30#8 ∧ ∃ m hi lo, rest = [m, hi, lo] ∧ m.toNat ≤ 1)) →
      Answers i s (s.renewed r q) h ⟨.staleHandle, []⟩)

/-- RETIRE with the right (R15 to R19). A mode byte above 1 is BAD_VALUE, whatever the handle. On a live entry: an IDLE entry is freed.
DRAIN of a RETIRING entry changes nothing. DRAIN of a held entry removes its waits, whole sets with them, and leaves it RETIRING with its
holders. Every other retire removes the waits, revokes the holds and frees the slot. The other members of the removed sets are
recomputed and passes run on them alone; the removed records return to the pool and the counts of every requester follow. Each removed
wait, in queue order, and then each revoked hold, in slot order, is told by its notice unless the queue is full, a set for its first
member. The answer is RETIRED or DRAINING. -/
def Obligations.RetireEndsEntry : Prop :=
  ∀ (s : State) (o : Origin) (rid a g m : Byte) (h : Handed),
    s.stands o rid 0x21#8 [a, g, m] = some h → s.admin o = true →
    let i : Instr := .retire o rid [a, g, m]
    let e := slotOf a
    (1 < m.toNat → Answers i s s h ⟨.badValue, []⟩) ∧
    ∀ en, s.entryOf (handleOf a g) = some en →
    let held := en.state = .exclusive ∨ en.state = .shared
    (m.toNat ≤ 1 → en.state = .idle → Answers i s (s.freeSlot e) h ⟨.ok, [0x00#8]⟩) ∧
    (m = 0x00#8 → en.state = .retiring → Answers i s s h ⟨.ok, [0x01#8]⟩) ∧
    (m.toNat ≤ 1 → s.claimsLegal → en.state = .reserved ∨ held ∨ (en.state = .retiring ∧ m = 0x01#8) →
      let draining := m = 0x00#8 ∧ held
      let removed := fun (c : Claim) => en.queue.any fun d => d.setId.isSome && c.setId = d.setId
      ∃ u w list new, PassesRan .loud list u w ∧ list.Nodup ∧
        (∀ e', e' ∈ list ↔ e' ≠ e ∧ ∃ x, s.entry e' = some x ∧ ∃ c ∈ x.queue, removed c = true) ∧
        (draining → u.entry e = some { en with state := .retiring, queue := [] } ∧ u.generation e = s.generation e ∧
          u.dir = s.dir) ∧
        (¬ draining → u.entry e = none ∧ u.generation e = s.generation e + 1 ∧ u.dir = s.dir.filter fun p => p.2 ≠ e) ∧
        (∀ e', e' ≠ e → u.generation e' = s.generation e' ∧ u.entry e' = (s.entry e').map fun x =>
          let x' := { x with queue := x.queue.filter fun c => !removed c }
          { x' with state := if x.state = .retiring then .retiring else x'.derivedState }) ∧
        u.freeRecords + u.recordsInUse = s.freeRecords + s.recordsInUse ∧
        (∀ r, ∃ overrun, (overrun = true → 16 ≤ (u.noticeQueue r).length) ∧ u.req r = (s.req r).map fun q =>
          { q with holdCount := u.holdsOf r, waitCount := u.waitsOf r, overrun := q.overrun || overrun }) ∧
        u.notices = s.notices ++ new ∧
        (new.map fun n => (n.owner, n.body)).Sublist
          (en.queue.map (fun c => (c.requester, NoticeBody.waitCancelled c.setId)) ++
            if draining then [] else en.holders.map fun c => (c.requester, NoticeBody.revoked .retired)) ∧
        u = { s with
          slots := u.slots, dir := u.dir, freeRecords := u.freeRecords, requesters := u.requesters
          notices := u.notices, noticeSerial := u.noticeSerial } ∧
        Answers i s (w.reportPool s.freeRecords) h ⟨.ok, [if draining then 0x01#8 else 0x00#8]⟩ ∧
        (draining → w.entry e = some { en with state := .retiring, queue := [] } ∧ w.generation e = s.generation e) ∧
        (¬ draining → w.entry e = none ∧ w.generation e = s.generation e + 1) ∧
        (∀ c ∈ en.queue, c.setId = none → Told s w c.requester e (s.generation e) (.waitCancelled none)) ∧
        (∀ c ∈ en.queue, ∀ id, c.setId = some id →
          (∀ x ∈ w.waitRecords, x.2.setId ≠ some id) ∧
          ∀ x ∈ s.waitRecords, x.2.setId = some id → x.2.firstMember = true →
            Told s w c.requester x.1 (s.generation x.1) (.waitCancelled (some id))) ∧
        (¬ draining → ∀ c ∈ en.holders, Told s w c.requester e (s.generation e) (.revoked .retired)))

/-! ## Claims -/

/-- The refusals of an ACQUIRE before it is granted or placed, in the order of R26: BAD_VALUE, then for a live entry RETIRING,
ALREADY_CLAIMED, BUDGET and POOL_EMPTY; none changes anything. -/
def Obligations.AcquireRefused : Prop :=
  ∀ (s : State) (o : Origin) (rid a g m hi lo : Byte) (h : Handed) (r : ReqSlot) (q : Requester),
    Asked s o rid 0x30#8 [a, g, m, hi, lo] h r q →
    let refused := fun result => Answers (.acquire o rid [a, g, m, hi, lo]) s (s.renewed r q) h ⟨result, []⟩
    (1 < m.toNat → refused .badValue) ∧
    ∀ en, m.toNat ≤ 1 → s.entryOf (handleOf a g) = some en →
      (en.state = .retiring → refused .retiring) ∧
      (en.state ≠ .retiring → en.claimed r = true → refused .alreadyClaimed) ∧
      (en.state ≠ .retiring → en.claimed r = false → q.holdCount + q.waitCount = q.budget → refused .budget) ∧
      (en.state ≠ .retiring → en.claimed r = false → q.holdCount + q.waitCount ≠ q.budget → s.freeRecords = 0 →
        refused .poolEmpty)

/-- An ACQUIRE with wait limit 0 that is not granted at once is refused BUSY: it places no record, arms no countdown and changes no
count (R29). -/
def Obligations.AcquireBusy : Prop :=
  ∀ (s : State) (o : Origin) (rid a g : Byte) (m : Mode) (h : Handed) (r : ReqSlot) (q : Requester) (en : Entry),
    Asked s o rid 0x30#8 [a, g, m.code, 0x00#8, 0x00#8] h r q → s.entryOf (handleOf a g) = some en →
    ClaimAllowed s r q en → ¬ AtOnce en m →
      Answers (.acquire o rid [a, g, m.code, 0x00#8, 0x00#8]) s (s.renewed r q) h ⟨.busy, []⟩

/-- An ACQUIRE that passes its tests on an IDLE entry, or a shared one beside shared holders with room and no waiter, is granted at once
(R27, R28): one record leaves the pool and holds the entry with the hold limit's countdown, the hold count and the grant count rise
by one, the entry is EXCLUSIVE or SHARED, and the answer reports the grant count and the note. -/
def Obligations.AcquireGrantedAtOnce : Prop :=
  ∀ (s : State) (o : Origin) (rid a g hi lo : Byte) (m : Mode) (h : Handed) (r : ReqSlot) (q : Requester) (en : Entry),
    Asked s o rid 0x30#8 [a, g, m.code, hi, lo] h r q → s.entryOf (handleOf a g) = some en → en.legal →
    ClaimAllowed s r q en → AtOnce en m →
      Answers (.acquire o rid [a, g, m.code, hi, lo]) s
        (State.reportPool
          { s.setEntry (slotOf a) (en.granted r m none) with
            freeRecords := s.freeRecords - 1
            requesters := s.requesters.set r.val (some { q.renewed with holdCount := q.holdCount + 1 }) }
          s.freeRecords) h
        ⟨.granted, bytes16 (en.grantCount + 1).toNat ++ [noteByte en.noteStale en.note.length]⟩

/-- An ACQUIRE with a wait limit that is not granted at once (R30, R31, R32, R66 to R72): when the relation with the new record in its
place has the requester waiting for itself it is refused WOULD_DEADLOCK and nothing is placed. Otherwise one record leaves the pool
and waits in priority order with the wait limit's countdown; behind another it is answered QUEUED with its position and the queue
length; at the head the admission pass runs and the answer is GRANTED when the pass grants it. -/
def Obligations.AcquirePlaced : Prop :=
  ∀ (s : State) (o : Origin) (rid a g hi lo : Byte) (m : Mode) (h : Handed) (r : ReqSlot) (q : Requester) (en : Entry),
    Asked s o rid 0x30#8 [a, g, m.code, hi, lo] h r q → s.entryOf (handleOf a g) = some en → s.claimsLegal →
    ClaimAllowed s r q en → ¬ AtOnce en m → hi.toNat * 256 + lo.toNat ≠ 0 →
    let i : Instr := .acquire o rid [a, g, m.code, hi, lo]
    let limit := hi.toNat * 256 + lo.toNat
    let c : Claim := ⟨r, m, none, false, if limit = 65535 then none else some limit⟩
    let en' := en.placed s.priority c
    let u : State :=
      { s.setEntry (slotOf a) en' with
        freeRecords := s.freeRecords - 1
        requesters := s.requesters.set r.val (some { q.renewed with waitCount := q.waitCount + 1 }) }
    let cycle := Relation.TransGen (fun x y => (x, y) ∈ u.waitEdges) r r
    (cycle → Answers i s (s.renewed r q) h ⟨.wouldDeadlock, []⟩) ∧
    (¬ cycle → en'.queue.head? ≠ some c →
      Answers i s (u.reportPool s.freeRecords) h ⟨.queued, [byteOf (en'.position r), byteOf en'.queue.length]⟩) ∧
    (¬ cycle → en'.queue.head? = some c →
      ∃ w ew, PassesRan (.single r (slotOf a)) [slotOf a] u w ∧ w.entry (slotOf a) = some ew ∧
        Answers i s (w.reportPool s.freeRecords) h
          (if (ew.hold r).isSome then ⟨.granted, bytes16 ew.grantCount.toNat ++ [noteByte ew.noteStale ew.note.length]⟩
           else ⟨.queued, [0x01#8, byteOf en'.queue.length]⟩))

/-- A new waiting record enters a queue in priority order after every record of a priority as high as its own or higher and before every
record of a lower one, and no other record moves (R31). -/
def Obligations.WaiterTakesPlace : Prop :=
  ∀ (priority : ReqSlot → Nat) (c : Claim) (queue : List Claim),
    queue.Pairwise (fun x y => priority y.requester ≤ priority x.requester) →
      ∃ ahead behind, queue = ahead ++ behind ∧ insertWaiter priority c queue = ahead ++ c :: behind ∧
        (∀ d ∈ ahead, priority c.requester ≤ priority d.requester) ∧
        (∀ d ∈ behind, priority d.requester < priority c.requester)

/-- The refusals of an ACQUIRE_SET before it is granted or placed (R51, R52): BAD_VALUE with member 0 for a mode that is none, a member
count outside 2 to 4 or one entry named twice; then the first member that is stale, RETIRING or already claimed, with its number;
then BUDGET, POOL_EMPTY and, with wait limit 0 and a member that is not granted at once, BUSY, with member 0. None changes
anything. -/
def Obligations.AcquireSetRefused : Prop :=
  ∀ (s : State) (o : Origin) (rid hi lo : Byte) (members : List Member) (h : Handed) (r : ReqSlot) (q : Requester),
    members.length ≤ 9 → Asked s o rid 0x31#8 (setBytes members hi lo) h r q →
    let refused := fun result member =>
      Answers (.acquireSet o rid (setBytes members hi lo)) s (s.renewed r q) h ⟨result, [byteOf member]⟩
    let valid := (∀ m ∈ members, m.mode.toNat ≤ 1) ∧ 2 ≤ members.length ∧ members.length ≤ 4 ∧
      (members.map fun m => m.handle.slot).Nodup
    let passes := fun (m : Member) => ∃ en, s.entryOf m.handle = some en ∧ en.state ≠ .retiring ∧ en.claimed r = false
    (¬ valid → refused .badValue 0) ∧
    (valid → ∀ before m after, members = before ++ m :: after → (∀ x ∈ before, passes x) →
      (s.entryOf m.handle = none → refused .staleHandle (before.length + 1)) ∧
      ∀ en, s.entryOf m.handle = some en →
        (en.state = .retiring → refused .retiring (before.length + 1)) ∧
        (en.state ≠ .retiring → en.claimed r = true → refused .alreadyClaimed (before.length + 1))) ∧
    (valid → (∀ x ∈ members, passes x) →
      (q.budget < q.holdCount + q.waitCount + members.length → refused .budget 0) ∧
      (q.holdCount + q.waitCount + members.length ≤ q.budget → s.freeRecords < members.length → refused .poolEmpty 0) ∧
      (q.holdCount + q.waitCount + members.length ≤ q.budget → members.length ≤ s.freeRecords →
        hi.toNat * 256 + lo.toNat = 0 →
        (∃ m ∈ members, ∃ en mode, s.entryOf m.handle = some en ∧ m.mode = Mode.code mode ∧ ¬ AtOnce en mode) →
        refused .busy 0))

/-- An ACQUIRE_SET that passes its tests and whose every member is granted at once (R50, R53): every member entry gains the hold, marked
with a set id that no waiting set carries; the hold count rises and the pool falls by the member count; the answer gives the set
id and each member's grant report. -/
def Obligations.AcquireSetGrantedAtOnce : Prop :=
  ∀ (s : State) (o : Origin) (rid hi lo : Byte) (members : List (Handle × Mode)) (h : Handed) (r : ReqSlot) (q : Requester),
    let named := members.map fun p => (⟨p.1, p.2.code⟩ : Member)
    2 ≤ members.length → members.length ≤ 4 → (members.map fun p => p.1.slot).Nodup →
    Asked s o rid 0x31#8 (setBytes named hi lo) h r q → s.claimsLegal →
    (∀ p ∈ members, ∃ en, s.entryOf p.1 = some en ∧ en.claimed r = false ∧ AtOnce en p.2) →
    q.holdCount + q.waitCount + members.length ≤ q.budget → members.length ≤ s.freeRecords →
    let id := nextUnused s.waitingSetIds s.setIdCounter
    let u : State :=
      { s with
        slots := s.mapEntries fun e en =>
          match members.find? fun p => p.1.slot = e with
          | some p => en.granted r p.2 (some id)
          | none => en
        setIdCounter := id
        freeRecords := s.freeRecords - members.length
        requesters := s.requesters.set r.val (some { q.renewed with holdCount := q.holdCount + members.length }) }
    (∀ x ∈ s.waitRecords, x.2.setId ≠ some id) ∧
    Answers (.acquireSet o rid (setBytes named hi lo)) s (u.reportPool s.freeRecords) h
      ⟨.granted, bytes16 id.toNat ++ members.flatMap fun p =>
        match s.entryOf p.1 with
        | some en => bytes16 (en.grantCount + 1).toNat ++ [noteByte en.noteStale en.note.length]
        | none => []⟩

/-- An ACQUIRE_SET with a wait limit that passes its tests and is not granted at once (R54, R55, R68): it is refused WOULD_DEADLOCK with
member 0 when the relation with all its records in place has the requester waiting for itself. Otherwise a record waits at every
member, under a new set id, the first one with the countdown; passes run on the members where it stands at the head; the answer is
GRANTED when they grant the set, else QUEUED with each member's position and queue length after placement. -/
def Obligations.AcquireSetPlaced : Prop :=
  ∀ (s : State) (o : Origin) (rid hi lo : Byte) (members : List (Handle × Mode)) (h : Handed) (r : ReqSlot) (q : Requester),
    let named := members.map fun p => (⟨p.1, p.2.code⟩ : Member)
    let limit := hi.toNat * 256 + lo.toNat
    2 ≤ members.length → members.length ≤ 4 → (members.map fun p => p.1.slot).Nodup →
    Asked s o rid 0x31#8 (setBytes named hi lo) h r q → s.claimsLegal →
    (∀ p ∈ members, ∃ en, s.entryOf p.1 = some en ∧ en.state ≠ .retiring ∧ en.claimed r = false) →
    (∃ p ∈ members, ∃ en, s.entryOf p.1 = some en ∧ ¬ AtOnce en p.2) →
    q.holdCount + q.waitCount + members.length ≤ q.budget → members.length ≤ s.freeRecords → limit ≠ 0 →
    let i : Instr := .acquireSet o rid (setBytes named hi lo)
    let id := nextUnused s.waitingSetIds s.setIdCounter
    let record := fun (p : Handle × Mode) =>
      let first := decide ((members.head?.map fun x => x.1.slot) = some p.1.slot)
      (⟨r, p.2, some id, first, if first = true ∧ limit ≠ 65535 then some limit else none⟩ : Claim)
    let u : State :=
      { s with
        slots := s.mapEntries fun e en =>
          match members.find? fun p => p.1.slot = e with
          | some p => en.placed s.priority (record p)
          | none => en
        setIdCounter := id
        freeRecords := s.freeRecords - members.length
        requesters := s.requesters.set r.val (some { q.renewed with waitCount := q.waitCount + members.length }) }
    let cycle := Relation.TransGen (fun x y => (x, y) ∈ u.waitEdges) r r
    (cycle → Answers i s (s.renewed r q) h ⟨.wouldDeadlock, [0x00#8]⟩) ∧
    (¬ cycle →
      ∃ w, PassesRan (.set r id) (u.slotsWhere fun en => (en.queue.head?.map fun c => c.inSet r id).getD false) u w ∧
        ((∀ p ∈ members, Granted u w p.1.slot (record p)) →
          Answers i s (w.reportPool s.freeRecords) h
            ⟨.granted, bytes16 id.toNat ++ members.flatMap fun p =>
              match w.entry p.1.slot with
              | some en => bytes16 en.grantCount.toNat ++ [noteByte en.noteStale en.note.length]
              | none => []⟩) ∧
        ((∀ p ∈ members, ¬ Granted u w p.1.slot (record p)) →
          Answers i s (w.reportPool s.freeRecords) h
            ⟨.queued, bytes16 id.toNat ++ members.flatMap fun p =>
              match u.entry p.1.slot with
              | some en => [byteOf (en.position r), byteOf en.queue.length]
              | none => []⟩))

/-- How claims leave their entries, each with the recomputation that follows (R3, R14, R20, R39, R41, R46, R62, R86, R104): a hold, with note
stale set when it is exclusive and that is asked; a single wait; a whole waiting set; all records of a requester. The records return
to the pool, the requester's counts fall by their number, an entry that was RETIRING under this holder alone is freed, and nothing
else changes. -/
def Obligations.RecordsRemoved : Prop :=
  (∀ (s : State) (r : ReqSlot) (q : Requester) (e : EntrySlot) (en : Entry), s.claimsLegal → s.req r = some q →
      s.entry e = some en →
      (∀ stale, (en.hold r).isSome →
        let en' := { en with
          holders := en.holders.filter fun c => c.requester ≠ r
          noteStale := en.noteStale || (stale && en.holdsExclusive r) }
        let counted : State := { s with
          freeRecords := s.freeRecords + 1
          requesters := s.requesters.set r.val (some { q with holdCount := q.holdCount - 1 }) }
        (s.dropHold r e stale).recompute e =
          if en.state = .retiring then
            if en'.holders = [] then counted.freeSlot e else counted.setEntry e en'
          else counted.setEntry e { en' with state := en'.derivedState }) ∧
      ((en.wait r).isSome →
        let en' := { en with queue := en.queue.filter fun c => c.requester ≠ r }
        (s.dropWait r e).recompute e =
          State.setEntry { s with
            freeRecords := s.freeRecords + 1
            requesters := s.requesters.set r.val (some { q with waitCount := q.waitCount - 1 }) } e
            { en' with state := en'.derivedState }) ∧
      (∀ c id, en.wait r = some c → c.setId = some id →
        let members := (List.finRange 256).filter fun e =>
          ((s.entry e).map fun en => en.queue.any fun c => c.setId = some id).getD false
        (s.dropSet r id).recomputeAll (s.setMembers r id) =
          { s with
            slots := s.mapEntries fun _ en =>
              let en' := { en with queue := en.queue.filter fun c => c.setId ≠ some id }
              { en' with state := if en.state = .retiring then .retiring else en'.derivedState }
            freeRecords := s.freeRecords + members.length
            requesters := s.requesters.set r.val (some { q with waitCount := q.waitCount - members.length }) } ∧
        s.setMembers r id = members)) ∧
  (∀ (s : State) (r : ReqSlot) (q : Requester) (stale : Bool), s.claimsLegal → s.req r = some q →
      let t := s.stripAll r stale
      (∀ e, s.entry e = none → t.entry e = none ∧ t.generation e = s.generation e) ∧
      (∀ e en, s.entry e = some en → en.claimed r = false →
        t.entry e = some en ∧ t.generation e = s.generation e) ∧
      (∀ e en, s.entry e = some en → en.claimed r = true →
        let en' := { en with
          holders := en.holders.filter fun c => c.requester ≠ r
          queue := en.queue.filter fun c => c.requester ≠ r
          noteStale := en.noteStale || (stale && en.holdsExclusive r) }
        (en.state = .retiring ∧ en'.holders = [] → t.entry e = none ∧ t.generation e = s.generation e + 1) ∧
        (en.state = .retiring ∧ en'.holders ≠ [] → t.entry e = some en' ∧ t.generation e = s.generation e) ∧
        (en.state ≠ .retiring →
          t.entry e = some { en' with state := en'.derivedState } ∧ t.generation e = s.generation e)) ∧
      t.dir = s.dir.filter (fun p => (t.entry p.2).isSome || (s.entry p.2).isNone) ∧
      t = { s with
        slots := t.slots, dir := t.dir
        freeRecords := s.freeRecords + q.holdCount + q.waitCount
        requesters := s.requesters.set r.val (some { q with holdCount := 0, waitCount := 0 }) })

/-- RELEASE and CANCEL on a live entry (R39, R41, R62). Without a hold RELEASE is NOT_HELD; the hold is removed, note stale staying as it is,
and the admission pass runs. Without a wait CANCEL is NOT_WAITING; a single wait is removed and the admission pass runs; a set's wait
is removed with the whole set and the passes run on every member. -/
def Obligations.ReleaseAndCancel : Prop :=
  (∀ (s : State) (o : Origin) (rid a g : Byte) (h : Handed) (r : ReqSlot) (q : Requester) (en : Entry),
      Asked s o rid 0x32#8 [a, g] h r q → s.entryOf (handleOf a g) = some en →
      let i : Instr := .release o rid [a, g]
      let e := slotOf a
      (en.hold r = none → Answers i s (s.renewed r q) h ⟨.notHeld, []⟩) ∧
      ((en.hold r).isSome → s.claimsLegal →
        ∃ w, PassesRan .loud [e] (((s.renewed r q).dropHold r e false).recompute e) w ∧
          (∀ ew, w.entry e = some ew → ew.claimed r = false) ∧
          Answers i s (w.reportPool s.freeRecords) h ⟨.ok, []⟩)) ∧
  (∀ (s : State) (o : Origin) (rid a g : Byte) (h : Handed) (r : ReqSlot) (q : Requester) (en : Entry),
      Asked s o rid 0x34#8 [a, g] h r q → s.entryOf (handleOf a g) = some en →
      let i : Instr := .cancel o rid [a, g]
      let e := slotOf a
      (en.wait r = none → Answers i s (s.renewed r q) h ⟨.notWaiting, []⟩) ∧
      (∀ c, en.wait r = some c → c.setId = none → s.claimsLegal →
        ∃ w, PassesRan .loud [e] (((s.renewed r q).dropWait r e).recompute e) w ∧
          (∀ ew, w.entry e = some ew → ew.claimed r = false) ∧
          Answers i s (w.reportPool s.freeRecords) h ⟨.ok, []⟩) ∧
      (∀ c id, en.wait r = some c → c.setId = some id → s.claimsLegal →
        ∃ w, PassesRan .loud (s.setMembers r id) (((s.renewed r q).dropSet r id).recomputeAll (s.setMembers r id)) w ∧
          (∀ x ∈ w.waitRecords, x.2.setId ≠ some id) ∧
          Answers i s (w.reportPool s.freeRecords) h ⟨.ok, []⟩))

/-- UPGRADE on a live entry (R43): NOT_HELD without a hold; an exclusive hold stays as it is; NOT_SOLE for a shared hold beside another
holder; a sole shared hold becomes exclusive, and the entry EXCLUSIVE unless it is RETIRING. DOWNGRADE (R44): NOT_EXCLUSIVE unless the
requester holds the entry exclusive; otherwise the hold becomes shared, the entry SHARED unless it is RETIRING, and the admission pass
runs. -/
def Obligations.UpgradeAndDowngrade : Prop :=
  (∀ (s : State) (o : Origin) (rid a g : Byte) (h : Handed) (r : ReqSlot) (q : Requester) (en : Entry),
      Asked s o rid 0x35#8 [a, g] h r q → s.entryOf (handleOf a g) = some en → en.legal →
      let i : Instr := .upgrade o rid [a, g]
      (en.hold r = none → Answers i s (s.renewed r q) h ⟨.notHeld, []⟩) ∧
      (∀ c, en.hold r = some c → c.mode = .exclusive → Answers i s (s.renewed r q) h ⟨.ok, []⟩) ∧
      (∀ c, en.hold r = some c → c.mode = .shared → en.holders.length ≠ 1 →
        Answers i s (s.renewed r q) h ⟨.notSole, []⟩) ∧
      (∀ c, en.hold r = some c → c.mode = .shared → en.holders.length = 1 →
        Answers i s
          ((s.renewed r q).setEntry (slotOf a)
            { en with
              holders := [{ c with mode := .exclusive }]
              state := if en.state = .retiring then .retiring else .exclusive }) h ⟨.ok, []⟩)) ∧
  (∀ (s : State) (o : Origin) (rid a g : Byte) (h : Handed) (r : ReqSlot) (q : Requester) (en : Entry),
      Asked s o rid 0x36#8 [a, g] h r q → s.entryOf (handleOf a g) = some en → s.claimsLegal →
      let i : Instr := .downgrade o rid [a, g]
      (en.holdsExclusive r = false → Answers i s (s.renewed r q) h ⟨.notExclusive, []⟩) ∧
      (∀ c, en.hold r = some c → c.mode = .exclusive →
        ∃ w, PassesRan .loud [slotOf a]
            ((s.renewed r q).setEntry (slotOf a)
              { en with
                holders := [{ c with mode := .shared }]
                state := if en.state = .retiring then .retiring else .shared }) w ∧
          Answers i s w h ⟨.ok, []⟩))

/-- The admission passes of an event do what PassesRan says, from every consistent claim table and for every pass list (R34 to R38, R58
to R61): each queue loses records from its head alone, the table stays consistent, so that every grant fits, sets are granted whole, the
counts and notices follow, and no head that could be granted is left. -/
def Obligations.PassesDoWhatTheyMay : Prop :=
  ∀ (s : State) (quiet : Quiet) (list : List EntrySlot), s.claimsLegal → PassesRan quiet list s (s.runPasses quiet list)

/-! ## Time limits and evictions -/

/-- The tick (R76, R78): the cycle count starts again and every armed countdown, of holds, waits and tenures, loses one period, one
that reached zero staying there until its expiry is taken (the model's reading of R78 and R79, assumption 19); nothing else changes.
During reset the time base stands still. -/
def Obligations.TickLowersCountdowns : Prop :=
  ∀ s : State,
    let lower := fun (d : Option Nat) => d.map fun n => n - 1
    (s.inReset = true → exec .tick s = .next s) ∧
    (s.inReset = false → exec .tick s = .next
      { s with
        clkCount := 0
        slots := s.mapEntries fun _ en =>
          { en with
            holders := en.holders.map fun c => { c with deadline := lower c.deadline }
            queue := en.queue.map fun c => { c with deadline := lower c.deadline } }
        requesters := Vector.ofFn fun r : ReqSlot => (s.req r).map fun q => { q with tenureLeft := lower q.tenureLeft } })

/-- The expiry of a wait limit (R63, R82): the single wait, or the whole set of which it is the first member's, is removed, a WAIT_EXPIRED
notice for that entry is queued, and the admission passes run. The expiry of a hold limit (R86): the hold is revoked, note stale is set
when it was exclusive, a REVOKED notice of reason HOLD_LIMIT is queued, and on a live entry the admission pass runs. That the passes may
grant a wait whose own countdown stands at zero, its expiry not yet taken, is the model's choice (assumption 21): R83 has two waits that
expire on one entry gone in either order. -/
def Obligations.LimitsExpire : Prop :=
  (∀ (s : State) (r : ReqSlot) (e : EntrySlot) (en : Entry) (c : Claim), s.claimsLegal →
      s.entry e = some en → en.wait r = some c → c.deadline = some 0 →
      (c.setId = none →
        ∃ w t, PassesRan .loud [e] (((s.dropWait r e).queueNotice r e (.waitExpired none)).recompute e) w ∧
          (∀ ew, w.entry e = some ew → ew.claimed r = false) ∧
          exec (.waitLimitExpiry r e) s = .next t ∧ Unasked s t ∧ SameBut (w.reportPool s.freeRecords) t) ∧
      (∀ id, c.setId = some id → c.firstMember = true →
        ∃ w t, PassesRan .loud (s.setMembers r id)
            (((s.dropSet r id).queueNotice r e (.waitExpired (some id))).recomputeAll (s.setMembers r id)) w ∧
          (∀ x ∈ w.waitRecords, x.2.setId ≠ some id) ∧
          exec (.setWaitLimitExpiry r e) s = .next t ∧ Unasked s t ∧ SameBut (w.reportPool s.freeRecords) t)) ∧
  (∀ (s : State) (r : ReqSlot) (e : EntrySlot) (en : Entry) (c : Claim), s.claimsLegal →
      s.entry e = some en → en.hold r = some c → c.deadline = some 0 →
        ∃ w t, PassesRan .loud [e] (((s.dropHold r e true).queueNotice r e (.revoked .holdLimit)).recompute e) w ∧
          (∀ ew, w.entry e = some ew → ew.claimed r = false) ∧
          (∀ ew, w.entry e = some ew → ew.noteStale = (en.noteStale || c.mode = .exclusive)) ∧
          Told s w r e (s.generation e) (.revoked .holdLimit) ∧
          exec (.holdLimitExpiry r e) s = .next t ∧ Unasked s t ∧ SameBut (w.reportPool s.freeRecords) t)

/-- The expiry of a tenure (R90) evicts the requester with cause TENURE, and EVICT (R105) the requester that its payload names with cause
EVICT; EVICT is BAD_VALUE for an origin or local id that is none and NOT_OPEN for a pair that is not open. -/
def Obligations.TenureAndEvict : Prop :=
  ∀ s : State,
    (∀ r q, s.claimsLegal → s.req r = some q → q.tenureLeft = some 0 →
      ∃ v t, Evicted s v r q .tenure ∧ v.unclaimedBy r ∧
        exec (.tenureExpiry r) s = .next t ∧ Unasked s t ∧ SameBut (v.reportPool s.freeRecords) t) ∧
    ∀ (o : Origin) (rid a l : Byte) (h : Handed), s.stands o rid 0x40#8 [a, l] = some h → s.admin o = true →
      let i : Instr := .evict o rid [a, l]
      (originOf a = none → Answers i s s h ⟨.badValue, []⟩) ∧
      ∀ o', originOf a = some o' →
        let inRange := l.toNat ≤ if o' = .portA ∨ o' = .portB then 15 else 3
        (¬ inRange → Answers i s s h ⟨.badValue, []⟩) ∧
        (inRange → s.findReq o' l = none → Answers i s s h ⟨.notOpen, []⟩) ∧
        (inRange → s.claimsLegal → ∀ r q, s.findReq o' l = some r → s.req r = some q →
          ∃ v, Evicted s v r q .evict ∧ v.unclaimedBy r ∧ Answers i s (v.reportPool s.freeRecords) h ⟨.ok, []⟩)

/-- PURGE_ORIGIN with the right (R106): BAD_VALUE for a byte that is no origin; otherwise every open requester of the origin is evicted
with cause PURGE in ascending slot order, and the answer is their number. -/
def Obligations.PurgeEvictsOrigin : Prop :=
  ∀ (s : State) (o : Origin) (rid b : Byte) (h : Handed), s.stands o rid 0x41#8 [b] = some h → s.admin o = true →
    let i : Instr := .purgeOrigin o rid [b]
    (originOf b = none → Answers i s s h ⟨.badValue, []⟩) ∧
    ∀ o', originOf b = some o' → s.claimsLegal →
      let named := (List.finRange 48).filter fun r => ((s.req r).map fun q => q.origin == o').getD false
      ∃ v, EvictedInTurn .purge s named v ∧ (∀ r ∈ named, v.req r = none ∧ v.unclaimedBy r) ∧
        Answers i s (v.reportPool s.freeRecords) h ⟨.ok, [byteOf named.length]⟩

/-! ## Administration and part events -/

/-- SET_PORT_RIGHTS (R96): any other origin than port A is refused NO_RIGHT, port B holding ADMIN too; a byte above 1 is BAD_VALUE; GRANT
sets ADMIN_B, WITHDRAW clears it. -/
def Obligations.PortRightsSetByPortA : Prop :=
  ∀ (s : State) (o : Origin) (rid b : Byte) (h : Handed), s.stands o rid 0x42#8 [b] = some h →
    let i : Instr := .setPortRights o rid [b]
    (o ≠ .portA → Answers i s s h ⟨.noRight, []⟩) ∧
    (o = .portA → 1 < b.toNat → Answers i s s h ⟨.badValue, []⟩) ∧
    (o = .portA → b.toNat ≤ 1 → Answers i s { s with adminB := decide (b = 0x01#8) } h ⟨.ok, []⟩)

/-- SET_TIMEBASE with the right (R77, R133): BAD_VALUE outside 4000 to 40000; otherwise the divider value is replaced, the cycle count
restarts, and the bit time follows at once, or at the end of the exchange in flight, one at its end with deferred claims outstanding
being still in flight here (assumption 6). The bit time is the divider value divided by the
bit rate, rounded to the nearest whole number, within half a cycle of the quotient; which of two equally near numbers it is stays open
(assumption 2). -/
def Obligations.TimebaseAndBitTime : Prop :=
  (∀ (s : State) (o : Origin) (rid hi lo : Byte) (h : Handed), s.stands o rid 0x43#8 [hi, lo] = some h → s.admin o = true →
      let i : Instr := .setTimebase o rid [hi, lo]
      let n := hi.toNat * 256 + lo.toNat
      (n < 4000 ∨ 40000 < n → Answers i s s h ⟨.badValue, []⟩) ∧
      (4000 ≤ n → n ≤ 40000 →
        Answers i s
          { s with
            divider := n
            clkCount := 0
            link :=
              if s.link.exchange = none then { s.link with bitTime := bitTimeOf n s.link.rate }
              else { s.link with bitTimePending := true } } h ⟨.ok, []⟩)) ∧
  (∀ (divider : Nat) (rate : LinkRate),
      2 * divider ≤ (2 * bitTimeOf divider rate + 1) * rate.kbits ∧ 2 * bitTimeOf divider rate * rate.kbits ≤ 2 * divider + rate.kbits)

/-- ROUTE_EVENT (R126): NO_RIGHT without ADMIN, BAD_VALUE for an event code or route that is none; otherwise the event's route is replaced, no
pending set changes, and the previous route is answered. -/
def Obligations.RouteReplaced : Prop :=
  ∀ (s : State) (o : Origin) (rid a b : Byte) (h : Handed), s.stands o rid 0x44#8 [a, b] = some h →
    let i : Instr := .routeEvent o rid [a, b]
    (s.admin o = false → Answers i s s h ⟨.noRight, []⟩) ∧
    (s.admin o = true → 6 < a.toNat ∨ 3 < b.toNat → Answers i s s h ⟨.badValue, []⟩) ∧
    ∀ (n : Fin 7) (route : Route), s.admin o = true → a.toNat = n.val → b = route.code →
      Answers i s { s with routes := s.routes.set n.val route } h ⟨.ok, [(s.routes[n.val]).code]⟩

/-- The raise of a part event (R124): its detail is replaced, it is set pending at each port that its route names and at no other, and no
other event changes. POOL_LOW at the end of an event that changed the free record count (R129): raised with the count when the count
is below the threshold and POOL_LOW is armed, which fires it; armed again when the count reaches the threshold; an unchanged count
changes nothing. -/
def Obligations.EventsRaised : Prop :=
  (∀ (s : State) (d : Detail),
      let t := s.raise d
      (∀ n : Fin 7, t.details[n.val] = if n = d.event.index then some d else s.details[n.val]) ∧
      (∀ n : Fin 7, t.eventsA[n.val] =
        (s.eventsA[n.val] || (decide (n = d.event.index) && (s.routes[n.val] = .a || s.routes[n.val] = .both)))) ∧
      (∀ n : Fin 7, t.eventsB[n.val] =
        (s.eventsB[n.val] || (decide (n = d.event.index) && (s.routes[n.val] = .b || s.routes[n.val] = .both)))) ∧
      t = { s with details := t.details, eventsA := t.eventsA, eventsB := t.eventsB }) ∧
  (∀ (s : State) (before : Nat),
      (s.freeRecords = before → s.reportPool before = s) ∧
      (s.freeRecords ≠ before → s.freeRecords < s.poolThreshold → s.poolState = .armed →
        s.reportPool before = { s.raise (.poolLow s.freeRecords) with poolState := .fired }) ∧
      (s.freeRecords ≠ before → s.freeRecords < s.poolThreshold → s.poolState = .fired → s.reportPool before = s) ∧
      (s.freeRecords ≠ before → s.poolThreshold ≤ s.freeRecords → s.reportPool before = { s with poolState := .armed }))

/-- READ_EVENTS (R127): a port is answered its pending set and the details of the pending events in code order, and the set is emptied;
a node is answered that no event is pending. -/
def Obligations.EventsReadAndCleared : Prop :=
  ∀ (s : State) (o : Origin) (rid : Byte) (h : Handed), s.stands o rid 0x45#8 [] = some h →
    let emptied := Vector.replicate 7 false
    let answer := fun (set : Vector Bool 7) =>
      [byteOf (((List.finRange 7).map fun n => if set[n.val] then 2 ^ n.val else 0).sum)] ++
        (List.finRange 7).flatMap fun n => if set[n.val] then ((s.details[n.val]).map Detail.bytes).getD [] else []
    (o = .portA → Answers (.readEvents o rid []) s { s with eventsA := emptied } h ⟨.ok, answer s.eventsA⟩) ∧
    (o = .portB → Answers (.readEvents o rid []) s { s with eventsB := emptied } h ⟨.ok, answer s.eventsB⟩) ∧
    (∀ n, o = .node n → Answers (.readEvents o rid []) s s h ⟨.ok, [0x00#8]⟩)

/-- SET_POOL_THRESHOLD (R130): NO_RIGHT without ADMIN, BAD_VALUE above 64; otherwise the threshold is written and the re-arming state follows from
the present count of free records, with no event raised. -/
def Obligations.PoolThresholdSet : Prop :=
  ∀ (s : State) (o : Origin) (rid b : Byte) (h : Handed), s.stands o rid 0x46#8 [b] = some h →
    let i : Instr := .setPoolThreshold o rid [b]
    (s.admin o = false → Answers i s s h ⟨.noRight, []⟩) ∧
    (s.admin o = true → 64 < b.toNat → Answers i s s h ⟨.badValue, []⟩) ∧
    (s.admin o = true → b.toNat ≤ 64 → s.freeRecords < b.toNat →
      Answers i s { s with poolThreshold := b.toNat, poolState := .fired } h ⟨.ok, []⟩) ∧
    (s.admin o = true → b.toNat ≤ 64 → b.toNat ≤ s.freeRecords →
      Answers i s { s with poolThreshold := b.toNat, poolState := .armed } h ⟨.ok, []⟩)

/-! ## The node link -/

/-- ROSTER_ADD with the right (R137, R142): BAD_VALUE outside 1 to 30, NODE_EXISTS, ROSTER_FULL; otherwise a JOINING record without history
enters the roster, and a controller that waits on an enabled link starts a new cycle. -/
def Obligations.NodeAdded : Prop :=
  ∀ (s : State) (o : Origin) (rid b : Byte) (h : Handed), s.stands o rid 0x50#8 [b] = some h → s.admin o = true →
    let i : Instr := .rosterAdd o rid [b]
    let valid := 1 ≤ b.toNat ∧ b.toNat ≤ 30
    (¬ valid → Answers i s s h ⟨.badValue, []⟩) ∧
    (valid → (∃ n ∈ s.link.roster, n.address = b.toNat) → Answers i s s h ⟨.nodeExists, []⟩) ∧
    (valid → (∀ n ∈ s.link.roster, n.address ≠ b.toNat) → 30 ≤ s.link.roster.length → Answers i s s h ⟨.rosterFull, []⟩) ∧
    (valid → (∀ n ∈ s.link.roster, n.address ≠ b.toNat) → s.link.roster.length < 30 → s.rosterLegal →
      ∃ below above, s.link.roster = below ++ above ∧
        (∀ n ∈ below, n.address < b.toNat) ∧ (∀ n ∈ above, b.toNat < n.address) ∧
        let resumes := s.link.pollWait ∧ s.link.enabled = true
        Answers i s
          { s with link := { s.link with
              roster := below ++ ⟨b.toNat, .joining, 0, 0, none, none, false, none⟩ :: above
              pollWait := if resumes then false else s.link.pollWait
              cyclePosition := if resumes then none else s.link.cyclePosition } } h ⟨.ok, []⟩)

/-- ROSTER_REMOVE with the right (R107, R138, R149): BAD_VALUE outside 1 to 30, NO_SUCH_NODE; a node already LEAVING stays so; one with an
exchange in flight becomes LEAVING; any other is deleted with its record, its requesters are evicted with cause ROSTER, and the
responses still to be made for it are discarded, NLC waiting for them no longer (the model's choice, assumption 20). An exchange at its end is not in flight here, and a request still at the decoder is
taken (assumptions 6 and 5). -/
def Obligations.NodeRemovedOrLeaving : Prop :=
  ∀ (s : State) (o : Origin) (rid b : Byte) (h : Handed), s.stands o rid 0x51#8 [b] = some h → s.admin o = true →
    let i : Instr := .rosterRemove o rid [b]
    let inFlight := ∃ x, s.link.exchange = some x ∧ x.node = b.toNat ∧ x.phase ≠ .ending
    let deleted : State := { s with
      link := { s.link with
        roster := s.link.roster.filter fun n => n.address ≠ b.toNat
        responseWait := s.link.responseWait.filter fun a => a ≠ b.toNat }
      decoder := s.decoder.map fun x => if x.origin = .node b.toNat then { x with discard := true } else x }
    (b.toNat < 1 ∨ 30 < b.toNat → Answers i s s h ⟨.badValue, []⟩) ∧
    (1 ≤ b.toNat → b.toNat ≤ 30 → s.node b.toNat = none → Answers i s s h ⟨.noSuchNode, []⟩) ∧
    ∀ n, 1 ≤ b.toNat → b.toNat ≤ 30 → s.node b.toNat = some n →
      (n.state = .leaving → Answers i s s h ⟨.ok, []⟩) ∧
      (n.state ≠ .leaving → inFlight →
        Answers i s
          { s with link := { s.link with roster := s.link.roster.map fun x =>
              if x.address = b.toNat then { x with state := .leaving } else x } } h ⟨.ok, []⟩) ∧
      (n.state ≠ .leaving → ¬ inFlight → s.claimsLegal →
        ∃ v, EvictedInTurn .roster deleted (s.reqsOf (.node b.toNat)) v ∧ s.reqsOf (.node b.toNat) = deleted.reqsOf (.node b.toNat) ∧
          v.reqsOf (.node b.toNat) = [] ∧ Answers i s (v.reportPool s.freeRecords) h ⟨.ok, []⟩)

/-- LINK_CONFIG with the right (R134, R135, R142): BAD_VALUE for a rate or enable that is none. With an exchange in flight on an enabled
link the rate and the disable wait for its end; otherwise the rate and its bit time apply at once, a disable makes every node
JOINING and ends the cycle, and an enable starts polling on a roster that is not empty. The answer gives the enable and rate that
were in force. An exchange at its end with deferred claims outstanding is still in flight on an enabled link and leaves flight at once on
a disabled one (assumption 6); the cycle position that a disable leaves is the model's choice (assumption 7). -/
def Obligations.LinkConfigured : Prop :=
  ∀ (s : State) (o : Origin) (rid a b : Byte) (h : Handed), s.stands o rid 0x53#8 [a, b] = some h → s.admin o = true →
    let i : Instr := .linkConfig o rid [a, b]
    let answer : Answer := ⟨.ok, [flagByte s.link.enabled, s.link.rate.code]⟩
    (3 < a.toNat ∨ 1 < b.toNat → Answers i s s h ⟨.badValue, []⟩) ∧
    ∀ rate : LinkRate, a = rate.code → b.toNat ≤ 1 →
      let rated := { s.link with
        rate := rate, pendingRate := none, bitTime := bitTimeOf s.divider rate, bitTimePending := false }
      (s.link.enabled = true → s.link.exchange ≠ none →
        Answers i s
          { s with link := { s.link with
              pendingRate := some rate, bitTimePending := true, pendingDisable := decide (b = 0x00#8) } } h answer) ∧
      (s.link.enabled = true → s.link.exchange = none → b = 0x01#8 → Answers i s { s with link := rated } h answer) ∧
      (s.link.enabled = true → s.link.exchange = none → b = 0x00#8 →
        Answers i s
          { s with link := { rated with
              enabled := false
              pendingDisable := false
              roster := s.link.roster.map fun n => { n with state := .joining, missed := 0, noticeInFlight := none }
              cyclePosition := none
              pollWait := true
              responseWait := [] } } h answer) ∧
      (s.link.enabled = false → s.rosterLegal → s.linkLegal → b = 0x00#8 →
        Answers i s { s with link := { rated with exchange := none } } h answer) ∧
      (s.link.enabled = false → s.rosterLegal → s.linkLegal → b = 0x01#8 →
        Answers i s
          { s with link := { rated with
              exchange := none
              enabled := true
              cyclePosition := none
              pollWait := decide (s.link.roster = []) } } h answer)

/-- The selection of the next node (R142, R143) by a controller with no exchange in flight that does not wait, the poll built by the layout
of R164: on a link that is disabled or has no node it begins to wait. Otherwise the lowest due node above the cycle position is polled:
the poll carries its stored response unless that is acknowledged, and the oldest notice of its requesters, recorded as in flight. With
none due, an awaited response of a node above the position holds the cycle open; without one the cycle ends, its count rises by one, and
the selection is made again from the lowest node. A controller that waits for a response keeps the nodes whose response it waits for; the first one
written ends the wait (the model's choice for several nodes, assumption 20), and until then no selection is taken (assumption 4). -/
def Obligations.SelectionPollsLowestDue : Prop :=
  ∀ s : State, s.rosterLegal → s.link.exchange = none → s.link.pollWait = false → s.link.responseWait = [] →
    (s.link.enabled = false ∨ s.link.roster = [] →
      exec .nodeSelection s = .next { s with link := { s.link with pollWait := true } }) ∧
    (s.link.enabled = true → s.link.roster ≠ [] →
      let above := s.link.roster.filter fun n => match s.link.cyclePosition with | some p => p < n.address | none => true
      let awaited := fun (n : NodeRecord) => ∃ x ∈ s.decoder, x.origin = .node n.address ∧ x.discard = false
      let due := fun (n : NodeRecord) => ¬ awaited n ∧
        (n.state = .joining ∨ n.state = .active ∨ (n.state = .silent ∧ s.link.cycleCount % 8 = 0))
      (∀ n ∈ above, due n → (∀ m ∈ above, m.address < n.address → ¬ due m) →
        let notice := s.notices.find? fun x => ((s.req x.owner).map fun q => q.origin == .node n.address).getD false
        exec .nodeSelection s = .next { s with link := { s.link with
          roster := s.link.roster.map fun m =>
            if m.address = n.address then { m with noticeInFlight := notice.map Notice.serial } else m
          exchange := some ⟨n.address, .polling⟩
          cyclePosition := some n.address
          lde := true
          ltx := .sending (pollLayout n.address (if n.acknowledged then none else n.stored) notice) } }) ∧
      ((∀ n ∈ above, ¬ due n) → (∃ n ∈ above, awaited n) → ∃ t, exec .nodeSelection s = .next t ∧
        t = { s with link := { s.link with responseWait := t.link.responseWait } } ∧
        t.link.responseWait.Sublist (above.map NodeRecord.address) ∧
        (∀ n ∈ above, n.address ∈ t.link.responseWait ↔ awaited n) ∧ exec .nodeSelection t = .next t ∧
        ∀ (h : Handed) (a : Answer) (m : Nat), h.origin = .node m → h.discard = false → m ∈ t.link.responseWait →
          (t.respond h a).link.responseWait = []) ∧
      ((∀ n ∈ above, ¬ due n ∧ ¬ awaited n) →
        exec .nodeSelection s = exec .nodeSelection { s with link := { s.link with
          cycleCount := (s.link.cycleCount + 1) % 256, cyclePosition := none } } ∧
        ∃ t, exec .nodeSelection s = .next t))

/-- The reply window (R133, R141): it opens when the poll's last stop bit ends, with LDE low and LTX idle; a reply begins with the sync 3Ah,
bytes before it being no part of it, and takes each further byte until it is complete or bad by length; outside the window a byte
changes nothing, as without an exchange at all (R133, assumption 4). -/
def Obligations.ReplyWindowReceives : Prop :=
  ∀ (s : State) (b : Byte), (s.link.exchange = none → exec (.replyByteReceived b) s = .next s) ∧
   ∀ x : Exchange, s.link.exchange = some x →
    let received := fun reply => { s with link := { s.link with exchange := some ⟨x.node, .window reply⟩ } }
    (x.phase = .polling →
      exec .replyWindowOpen s = .next { s with link := { s.link with
        exchange := some ⟨x.node, .window []⟩, lde := false, ltx := .idleHigh } } ∧
      exec (.replyByteReceived b) s = .next s) ∧
    (x.phase = .window [] → exec (.replyByteReceived b) s = .next (received (if b = 0x3A#8 then [b] else []))) ∧
    (∀ reply, x.phase = .window reply → reply ≠ [] →
      (replyProgress reply = .incomplete → exec (.replyByteReceived b) s = .next (received (reply ++ [b]))) ∧
      (replyProgress reply ≠ .incomplete → exec (.replyByteReceived b) s = .next s)) ∧
    (x.phase = .ending → exec (.replyByteReceived b) s = .next s)

/-- A failed exchange (R140, R141, R144, Table 9.2): a window that closes on no reply is a miss; a reply that stops short, or is complete
but does not agree with its declared blocks or its CRC, is bad; a complete reply of another node is a miss. missed rises by one and
stays at 4, at which an ACTIVE node becomes SILENT; a bad reply also adds to the error count and raises LINK_ERROR, before NODE_SILENT.
The exchange leaves flight unless a disable or a bit time waits for its end. The outcome for a LEAVING node is not taken: the exchange
is at its end, and the removal of its node follows (R138). A complete reply is bad when a control bit above 2, a RESP_ACK or a request
sequence above 15 or a payload length above 32 is declared, or its CRC-16 does not agree with the bytes from the source on (R144, R165);
otherwise it is a miss from another node and a good reply from the node polled. That what is deferred follows as rows of its own is assumption 6. -/
def Obligations.FailedExchangeCounted : Prop :=
  (∀ (s : State) (x : Exchange) (reply : List Byte) (n : NodeRecord) (i : Instr),
      s.link.exchange = some x → x.phase = .window reply → s.node x.node = some n → n.state ≠ .leaving →
      ((i = .replyWindowClose ∧ reply = []) ∨
       (i = .replyIdleTimeout ∧ reply ≠ [] ∧ replyProgress reply = .incomplete) ∨
       (i = .exchangeEnd ∧ reply ≠ [] ∧ replyProgress reply ≠ .incomplete)) →
      let missed := if 4 ≤ n.missed then 4 else n.missed + 1
      let silent := n.state = .active ∧ missed = 4
      let failed := fun (bad : Bool) =>
        let events := if bad then s.raise (.linkError x.node) else s
        let events := if silent then events.raise (.nodeSilent x.node) else events
        let u : State := { events with link := { s.link with
          roster := s.link.roster.map fun m =>
            if m.address = x.node then
              { m with
                state := if m.state = .active ∧ (if 4 ≤ m.missed then 4 else m.missed + 1) = 4 then .silent else m.state
                missed := if 4 ≤ m.missed then 4 else m.missed + 1
                errorCount := if bad then (if 255 ≤ m.errorCount then 255 else m.errorCount + 1) else m.errorCount }
            else m
          exchange := if s.link.pendingDisable || s.link.bitTimePending then some ⟨x.node, .ending⟩ else none } }
        exec i s = .next { u with
          portA := { s.portA with atnLow := u.attention .a }
          portB := { s.portB with atnLow := u.attention .b } }
      (reply = [] → failed false) ∧
      (reply ≠ [] → replyProgress reply ≠ .complete → failed true) ∧
      (classify x.node reply = .bad → failed true) ∧
      (classify x.node reply = .miss → failed false)) ∧
  (∀ (s : State) (x : Exchange) (reply : List Byte) (n : NodeRecord) (i : Instr),
      s.link.exchange = some x → x.phase = .window reply → s.node x.node = some n → n.state = .leaving →
      ((i = .replyWindowClose ∧ reply = []) ∨
       (i = .replyIdleTimeout ∧ reply ≠ [] ∧ replyProgress reply = .incomplete) ∨
       (i = .exchangeEnd ∧ reply ≠ [] ∧ replyProgress reply ≠ .incomplete)) →
      exec i s = .next { s with
        link := { s.link with exchange := some ⟨x.node, .ending⟩ }
        portA := { s.portA with atnLow := s.attention .a }
        portB := { s.portB with atnLow := s.attention .b } }) ∧
  (∀ (node : Nat) (source control : Byte) (blocks crc : List Byte), crc.length = 2 →
      let reply := 0x3A#8 :: source :: control :: (blocks ++ crc)
      replyProgress reply = .complete →
      let request := (if control.getLsbD 0 then 1 else 0) + (if control.getLsbD 1 then 2 else 0)
      let above := fun (place bound : Nat) => ∃ b, blocks[place]? = some b ∧ bound < b.toNat
      let malformed := 8 ≤ control.toNat ∨ (control.getLsbD 0 = true ∧ above 0 15) ∨
        (control.getLsbD 2 = true ∧ (above request 15 ∨ above (request + 3) 32))
      let agrees := crc = bytes16 (crc16 (source :: control :: blocks)).toNat
      (malformed ∨ ¬ agrees → classify node reply = .bad) ∧
      (¬ malformed → agrees → source.toNat ≠ node → classify node reply = .miss) ∧
      (¬ malformed → agrees → source.toNat = node → ∃ good, classify node reply = .good good))

/-- A good reply (R119, R140, R145, R146, R147, Table 9.2): the node becomes ACTIVE with missed 0, NODE_JOINED being raised unless it was
ACTIVE; an acknowledgement of the stored response's sequence marks it; a notice acknowledgement of a head notice removes it; a request
of a new sequence goes to the decoder, and a duplicate clears response acknowledged and restarts the tenure it names. The exchange stays
at its end while a claim deferred to it waits (assumption 6). -/
def Obligations.GoodReplyTaken : Prop :=
  ∀ (s : State) (x : Exchange) (reply : List Byte) (n : NodeRecord) (good : Reply), s.rosterLegal → s.noticesLegal →
    s.link.exchange = some x → x.phase = .window reply → s.node x.node = some n → n.state ≠ .leaving →
    replyProgress reply = .complete → classify x.node reply = .good good →
    let duplicate := ∃ request, good.request = some request ∧ n.lastSequence = some request.sequence
    let acked := n.acknowledged = true ∨ (good.respAck ≠ none ∧ good.respAck = n.lastSequence)
    ∃ t, exec .exchangeEnd s = .next t ∧
      t.link = { s.link with
        roster := s.link.roster.map fun m =>
          if m.address = x.node then
            { n with state := .active, missed := 0, acknowledged := t.link.roster.any fun y => y.address = x.node && y.acknowledged }
          else m
        exchange := if s.link.pendingDisable || s.link.bitTimePending then some ⟨x.node, .ending⟩ else none } ∧
      ((∃ y ∈ t.link.roster, y.address = x.node ∧ y.acknowledged = true) ↔ acked ∧ ¬ duplicate) ∧
      (∀ request, good.request = some request → ¬ duplicate →
        t.decoder = s.decoder ++
          [⟨.node x.node, request.localId, request.code, request.payload, request.sequence, false⟩]) ∧
      (good.request = none ∨ duplicate → t.decoder = s.decoder) ∧
      (∀ request, good.request = some request → duplicate →
        codeNamesRequester (.node x.node) request.code = true →
        t.requesters = (s.restartTenureOf (.node x.node) request.localId).requesters) ∧
      ((∀ request, good.request = some request → duplicate →
        codeNamesRequester (.node x.node) request.code = false) → t.requesters = s.requesters) ∧
      (∀ serial r q head, good.noticeAck = some serial → s.req r = some q → q.origin = .node x.node →
        (s.noticeQueue r).head? = some head → head.serial = serial → t.notices = s.notices.erase head) ∧
      ((∀ serial r q head, good.noticeAck = some serial → s.req r = some q → q.origin = .node x.node →
        (s.noticeQueue r).head? = some head → head.serial ≠ serial) → t.notices = s.notices) ∧
      (let joined := if n.state = .active then s else s.raise (.nodeJoined x.node)
       t = { joined with
         link := t.link, decoder := t.decoder, requesters := t.requesters, notices := t.notices
         portA := { s.portA with atnLow := t.attention .a }
         portB := { s.portB with atnLow := t.attention .b } })

/-- What waited for the end of an exchange (R107, R133, R134, R135, R138): a LEAVING node is deleted first, with its requesters evicted; then
the disable and the rate or bit time take effect, in either order; and the exchange leaves flight with the last of them: rows of their
own, by assumption 6, the cycle position none by assumption 7. A request of the deleted node still at the decoder is taken and its
response discarded (assumption 5), which NLC waits for no longer (assumption 20). -/
def Obligations.DeferredClaimsTaken : Prop :=
  ∀ (s : State) (x : Exchange), s.rosterLegal → s.link.exchange = some x → x.phase = .ending →
    let leaving := ∃ n ∈ s.link.roster, n.address = x.node ∧ n.state = .leaving
    let deleted : State := { s with
      link := { s.link with
        roster := s.link.roster.filter fun n => n.address ≠ x.node
        responseWait := s.link.responseWait.filter fun a => a ≠ x.node }
      decoder := s.decoder.map fun y => if y.origin = .node x.node then { y with discard := true } else y }
    (leaving → s.claimsLegal →
      ∃ v t, EvictedInTurn .roster deleted (s.reqsOf (.node x.node)) v ∧ v.reqsOf (.node x.node) = [] ∧
        exec .nodeRemoval s = .next t ∧
        t = { State.reportPool
            { v with link := { v.link with
                exchange := if s.link.pendingDisable || s.link.bitTimePending then some x else none } } s.freeRecords with
          portA := { s.portA with atnLow := t.attention .a }
          portB := { s.portB with atnLow := t.attention .b } } ∧
        exec .linkDisable s = .next s ∧ exec .bitTimeChange s = .next s) ∧
    (¬ leaving → s.link.pendingDisable = true →
      exec .linkDisable s = .next { s with link := { s.link with
        enabled := false
        pendingDisable := false
        roster := s.link.roster.map fun n => { n with state := .joining, missed := 0, noticeInFlight := none }
        cyclePosition := none
        pollWait := true
        responseWait := []
        exchange := if s.link.bitTimePending then some x else none } }) ∧
    (¬ leaving → s.link.bitTimePending = true →
      let rate := s.link.pendingRate.getD s.link.rate
      exec .bitTimeChange s = .next { s with link := { s.link with
        rate := rate
        pendingRate := none
        bitTime := bitTimeOf s.divider rate
        bitTimePending := false
        exchange := if s.link.pendingDisable then some x else none } })

/-! ## Invariants that every step keeps -/

/-- The state of the part right after reset meets every invariant below (R7, R49, R92, R110, R122, R132, R150, R151). -/
def Obligations.ResetIsLegal : Prop :=
  State.reset.dirLegal ∧ State.reset.claimsLegal ∧ State.reset.registersLegal ∧ State.reset.noticesLegal ∧
  State.reset.portsLegal ∧ State.reset.rosterLegal ∧ State.reset.linkLegal ∧ Acyclic State.reset.waitEdges ∧
  ∀ e, State.reset.blocked e

/-- Every step keeps DIR agreeing with the live entries, no two of which have one tag (R5). -/
def Obligations.DirectoryKept : Prop :=
  ∀ s t : State, s.dirLegal → step s = .next t → t.dirLegal

/-- Mutual exclusion: every step keeps each live entry with one exclusive holder or at most its share limit of shared ones, one record for
a requester, and the state that Table 1.2 gives (R3, R24, R27, R35). -/
def Obligations.EntriesKept : Prop :=
  ∀ s t : State, s.entriesLegal → step s = .next t → t.entriesLegal

/-- Every step keeps the claim table consistent: records of open requesters in priority order, coherent sets, a pool of 512 records, counts
that agree with the records and stay within the budget (R22, R23, R25, R31, R50, R99). -/
def Obligations.ClaimTableKept : Prop :=
  ∀ s t : State, s.claimsLegal → step s = .next t → t.claimsLegal

/-- Every step keeps the requester table and the settings in range, one open requester for an origin and local id, and POOL_LOW armed
exactly while the free records reach the threshold (R77, R93, R97, R100, R129, R130). -/
def Obligations.RegistersKept : Prop :=
  ∀ s t : State, s.registersLegal → step s = .next t → t.registersLegal

/-- Every step keeps the notice queues: at most 16 notices each, owned by open requesters, no two with one serial (R112, R113, R121). -/
def Obligations.NoticesKept : Prop :=
  ∀ s t : State, s.noticesLegal → step s = .next t → t.noticesLegal

/-- Every step keeps the ports: a response in a HOLDING port alone, one command at the decoder for a WORKING port alone, SDO carrying the
response in a response read and high in every other transfer and in reset, and each ATN line at the level of its attention condition
(R123, R151, R152, R154). -/
def Obligations.PortsKept : Prop :=
  ∀ s t : State, s.portsLegal → step s = .next t → t.portsLegal

/-- Every step keeps the roster and the exchange: records in address order and in range, a LEAVING node only as the node of the exchange,
every node of a disabled link JOINING, claims deferred only to an exchange's end, LDE high only for a poll, the bit time of the rate in
force unless a new one waits, and a wait for responses only between exchanges and on an enabled link (R131, R133, R134, R136, R138, R142).
Two parts are the model's choice. An exchange is kept at its end, in a phase of its own, until what is deferred to that end is taken, so
that it may stand with a LEAVING node or on a disabled link after its outcome was taken (assumption 6). A wait for responses is only of
nodes that stand in the roster and whose response is still awaited: a node whose record is deleted leaves the wait (assumption 20). -/
def Obligations.LinkKept : Prop :=
  ∀ s t : State, s.rosterLegal → s.linkLegal → step s = .next t → t.rosterLegal ∧ t.linkLegal

/-- No deadlock: from a consistent claim table whose waiting relation has no cycle, no step makes one (R72). -/
def Obligations.WaitingStaysAcyclic : Prop :=
  ∀ s t : State, s.claimsLegal → Acyclic s.waitEdges → step s = .next t → Acyclic t.waitEdges

/-- No lost grant: when no head of a queue can be granted before a step, none can after it: every change that could let a waiter in runs
the admission pass that does so (R34, R35, R59, R61). -/
def Obligations.NothingGrantableLeft : Prop :=
  ∀ s t : State, s.claimsLegal → (∀ e, s.blocked e) → step s = .next t → ∀ e, t.blocked e
end

