-- ==== Sys2Proof/Laws/State.lean ====
section
/-! SUPPORT. What the named updates of the state leave alone: one lemma for each field and each update, and the reading of slots,
requesters and ports after a write of one. -/

namespace Sys2Proof.Machine

/-! ### setEntry -/

@[simp] theorem State.setEntry_dir (s : State) (e : EntrySlot) (en : Entry) : (s.setEntry e en).dir = s.dir := rfl

@[simp] theorem State.setEntry_freeRecords (s : State) (e : EntrySlot) (en : Entry) : (s.setEntry e en).freeRecords = s.freeRecords := rfl

@[simp] theorem State.setEntry_setIdCounter (s : State) (e : EntrySlot) (en : Entry) : (s.setEntry e en).setIdCounter = s.setIdCounter := rfl

@[simp] theorem State.setEntry_requesters (s : State) (e : EntrySlot) (en : Entry) : (s.setEntry e en).requesters = s.requesters := rfl

@[simp] theorem State.setEntry_adminB (s : State) (e : EntrySlot) (en : Entry) : (s.setEntry e en).adminB = s.adminB := rfl

@[simp] theorem State.setEntry_divider (s : State) (e : EntrySlot) (en : Entry) : (s.setEntry e en).divider = s.divider := rfl

@[simp] theorem State.setEntry_clkCount (s : State) (e : EntrySlot) (en : Entry) : (s.setEntry e en).clkCount = s.clkCount := rfl

@[simp] theorem State.setEntry_notices (s : State) (e : EntrySlot) (en : Entry) : (s.setEntry e en).notices = s.notices := rfl

@[simp] theorem State.setEntry_noticeSerial (s : State) (e : EntrySlot) (en : Entry) : (s.setEntry e en).noticeSerial = s.noticeSerial := rfl

@[simp] theorem State.setEntry_eventsA (s : State) (e : EntrySlot) (en : Entry) : (s.setEntry e en).eventsA = s.eventsA := rfl

@[simp] theorem State.setEntry_eventsB (s : State) (e : EntrySlot) (en : Entry) : (s.setEntry e en).eventsB = s.eventsB := rfl

@[simp] theorem State.setEntry_routes (s : State) (e : EntrySlot) (en : Entry) : (s.setEntry e en).routes = s.routes := rfl

@[simp] theorem State.setEntry_details (s : State) (e : EntrySlot) (en : Entry) : (s.setEntry e en).details = s.details := rfl

@[simp] theorem State.setEntry_poolThreshold (s : State) (e : EntrySlot) (en : Entry) : (s.setEntry e en).poolThreshold = s.poolThreshold := rfl

@[simp] theorem State.setEntry_poolState (s : State) (e : EntrySlot) (en : Entry) : (s.setEntry e en).poolState = s.poolState := rfl

@[simp] theorem State.setEntry_link (s : State) (e : EntrySlot) (en : Entry) : (s.setEntry e en).link = s.link := rfl

@[simp] theorem State.setEntry_portA (s : State) (e : EntrySlot) (en : Entry) : (s.setEntry e en).portA = s.portA := rfl

@[simp] theorem State.setEntry_portB (s : State) (e : EntrySlot) (en : Entry) : (s.setEntry e en).portB = s.portB := rfl

@[simp] theorem State.setEntry_decoder (s : State) (e : EntrySlot) (en : Entry) : (s.setEntry e en).decoder = s.decoder := rfl

@[simp] theorem State.setEntry_inReset (s : State) (e : EntrySlot) (en : Entry) : (s.setEntry e en).inReset = s.inReset := rfl

@[simp] theorem State.setEntry_pending (s : State) (e : EntrySlot) (en : Entry) : (s.setEntry e en).pending = s.pending := rfl

/-! ### freeSlot -/

@[simp] theorem State.freeSlot_freeRecords (s : State) (e : EntrySlot) : (s.freeSlot e).freeRecords = s.freeRecords := rfl

@[simp] theorem State.freeSlot_setIdCounter (s : State) (e : EntrySlot) : (s.freeSlot e).setIdCounter = s.setIdCounter := rfl

@[simp] theorem State.freeSlot_requesters (s : State) (e : EntrySlot) : (s.freeSlot e).requesters = s.requesters := rfl

@[simp] theorem State.freeSlot_adminB (s : State) (e : EntrySlot) : (s.freeSlot e).adminB = s.adminB := rfl

@[simp] theorem State.freeSlot_divider (s : State) (e : EntrySlot) : (s.freeSlot e).divider = s.divider := rfl

@[simp] theorem State.freeSlot_clkCount (s : State) (e : EntrySlot) : (s.freeSlot e).clkCount = s.clkCount := rfl

@[simp] theorem State.freeSlot_notices (s : State) (e : EntrySlot) : (s.freeSlot e).notices = s.notices := rfl

@[simp] theorem State.freeSlot_noticeSerial (s : State) (e : EntrySlot) : (s.freeSlot e).noticeSerial = s.noticeSerial := rfl

@[simp] theorem State.freeSlot_eventsA (s : State) (e : EntrySlot) : (s.freeSlot e).eventsA = s.eventsA := rfl

@[simp] theorem State.freeSlot_eventsB (s : State) (e : EntrySlot) : (s.freeSlot e).eventsB = s.eventsB := rfl

@[simp] theorem State.freeSlot_routes (s : State) (e : EntrySlot) : (s.freeSlot e).routes = s.routes := rfl

@[simp] theorem State.freeSlot_details (s : State) (e : EntrySlot) : (s.freeSlot e).details = s.details := rfl

@[simp] theorem State.freeSlot_poolThreshold (s : State) (e : EntrySlot) : (s.freeSlot e).poolThreshold = s.poolThreshold := rfl

@[simp] theorem State.freeSlot_poolState (s : State) (e : EntrySlot) : (s.freeSlot e).poolState = s.poolState := rfl

@[simp] theorem State.freeSlot_link (s : State) (e : EntrySlot) : (s.freeSlot e).link = s.link := rfl

@[simp] theorem State.freeSlot_portA (s : State) (e : EntrySlot) : (s.freeSlot e).portA = s.portA := rfl

@[simp] theorem State.freeSlot_portB (s : State) (e : EntrySlot) : (s.freeSlot e).portB = s.portB := rfl

@[simp] theorem State.freeSlot_decoder (s : State) (e : EntrySlot) : (s.freeSlot e).decoder = s.decoder := rfl

@[simp] theorem State.freeSlot_inReset (s : State) (e : EntrySlot) : (s.freeSlot e).inReset = s.inReset := rfl

@[simp] theorem State.freeSlot_pending (s : State) (e : EntrySlot) : (s.freeSlot e).pending = s.pending := rfl

/-! ### setReq -/

@[simp] theorem State.setReq_slots (s : State) (r : ReqSlot) (q : Option Requester) : (s.setReq r q).slots = s.slots := rfl

@[simp] theorem State.setReq_dir (s : State) (r : ReqSlot) (q : Option Requester) : (s.setReq r q).dir = s.dir := rfl

@[simp] theorem State.setReq_freeRecords (s : State) (r : ReqSlot) (q : Option Requester) : (s.setReq r q).freeRecords = s.freeRecords := rfl

@[simp] theorem State.setReq_setIdCounter (s : State) (r : ReqSlot) (q : Option Requester) : (s.setReq r q).setIdCounter = s.setIdCounter := rfl

@[simp] theorem State.setReq_adminB (s : State) (r : ReqSlot) (q : Option Requester) : (s.setReq r q).adminB = s.adminB := rfl

@[simp] theorem State.setReq_divider (s : State) (r : ReqSlot) (q : Option Requester) : (s.setReq r q).divider = s.divider := rfl

@[simp] theorem State.setReq_clkCount (s : State) (r : ReqSlot) (q : Option Requester) : (s.setReq r q).clkCount = s.clkCount := rfl

@[simp] theorem State.setReq_notices (s : State) (r : ReqSlot) (q : Option Requester) : (s.setReq r q).notices = s.notices := rfl

@[simp] theorem State.setReq_noticeSerial (s : State) (r : ReqSlot) (q : Option Requester) : (s.setReq r q).noticeSerial = s.noticeSerial := rfl

@[simp] theorem State.setReq_eventsA (s : State) (r : ReqSlot) (q : Option Requester) : (s.setReq r q).eventsA = s.eventsA := rfl

@[simp] theorem State.setReq_eventsB (s : State) (r : ReqSlot) (q : Option Requester) : (s.setReq r q).eventsB = s.eventsB := rfl

@[simp] theorem State.setReq_routes (s : State) (r : ReqSlot) (q : Option Requester) : (s.setReq r q).routes = s.routes := rfl

@[simp] theorem State.setReq_details (s : State) (r : ReqSlot) (q : Option Requester) : (s.setReq r q).details = s.details := rfl

@[simp] theorem State.setReq_poolThreshold (s : State) (r : ReqSlot) (q : Option Requester) : (s.setReq r q).poolThreshold = s.poolThreshold := rfl

@[simp] theorem State.setReq_poolState (s : State) (r : ReqSlot) (q : Option Requester) : (s.setReq r q).poolState = s.poolState := rfl

@[simp] theorem State.setReq_link (s : State) (r : ReqSlot) (q : Option Requester) : (s.setReq r q).link = s.link := rfl

@[simp] theorem State.setReq_portA (s : State) (r : ReqSlot) (q : Option Requester) : (s.setReq r q).portA = s.portA := rfl

@[simp] theorem State.setReq_portB (s : State) (r : ReqSlot) (q : Option Requester) : (s.setReq r q).portB = s.portB := rfl

@[simp] theorem State.setReq_decoder (s : State) (r : ReqSlot) (q : Option Requester) : (s.setReq r q).decoder = s.decoder := rfl

@[simp] theorem State.setReq_inReset (s : State) (r : ReqSlot) (q : Option Requester) : (s.setReq r q).inReset = s.inReset := rfl

@[simp] theorem State.setReq_pending (s : State) (r : ReqSlot) (q : Option Requester) : (s.setReq r q).pending = s.pending := rfl

/-! ### raise -/

@[simp] theorem State.raise_slots (s : State) (d : Detail) : (s.raise d).slots = s.slots := rfl

@[simp] theorem State.raise_dir (s : State) (d : Detail) : (s.raise d).dir = s.dir := rfl

@[simp] theorem State.raise_freeRecords (s : State) (d : Detail) : (s.raise d).freeRecords = s.freeRecords := rfl

@[simp] theorem State.raise_setIdCounter (s : State) (d : Detail) : (s.raise d).setIdCounter = s.setIdCounter := rfl

@[simp] theorem State.raise_requesters (s : State) (d : Detail) : (s.raise d).requesters = s.requesters := rfl

@[simp] theorem State.raise_adminB (s : State) (d : Detail) : (s.raise d).adminB = s.adminB := rfl

@[simp] theorem State.raise_divider (s : State) (d : Detail) : (s.raise d).divider = s.divider := rfl

@[simp] theorem State.raise_clkCount (s : State) (d : Detail) : (s.raise d).clkCount = s.clkCount := rfl

@[simp] theorem State.raise_notices (s : State) (d : Detail) : (s.raise d).notices = s.notices := rfl

@[simp] theorem State.raise_noticeSerial (s : State) (d : Detail) : (s.raise d).noticeSerial = s.noticeSerial := rfl

@[simp] theorem State.raise_routes (s : State) (d : Detail) : (s.raise d).routes = s.routes := rfl

@[simp] theorem State.raise_poolThreshold (s : State) (d : Detail) : (s.raise d).poolThreshold = s.poolThreshold := rfl

@[simp] theorem State.raise_poolState (s : State) (d : Detail) : (s.raise d).poolState = s.poolState := rfl

@[simp] theorem State.raise_link (s : State) (d : Detail) : (s.raise d).link = s.link := rfl

@[simp] theorem State.raise_portA (s : State) (d : Detail) : (s.raise d).portA = s.portA := rfl

@[simp] theorem State.raise_portB (s : State) (d : Detail) : (s.raise d).portB = s.portB := rfl

@[simp] theorem State.raise_decoder (s : State) (d : Detail) : (s.raise d).decoder = s.decoder := rfl

@[simp] theorem State.raise_inReset (s : State) (d : Detail) : (s.raise d).inReset = s.inReset := rfl

@[simp] theorem State.raise_pending (s : State) (d : Detail) : (s.raise d).pending = s.pending := rfl

/-! ### takeSetId -/

@[simp] theorem State.takeSetId_slots (s : State) : (s.takeSetId).slots = s.slots := rfl

@[simp] theorem State.takeSetId_dir (s : State) : (s.takeSetId).dir = s.dir := rfl

@[simp] theorem State.takeSetId_freeRecords (s : State) : (s.takeSetId).freeRecords = s.freeRecords := rfl

@[simp] theorem State.takeSetId_requesters (s : State) : (s.takeSetId).requesters = s.requesters := rfl

@[simp] theorem State.takeSetId_adminB (s : State) : (s.takeSetId).adminB = s.adminB := rfl

@[simp] theorem State.takeSetId_divider (s : State) : (s.takeSetId).divider = s.divider := rfl

@[simp] theorem State.takeSetId_clkCount (s : State) : (s.takeSetId).clkCount = s.clkCount := rfl

@[simp] theorem State.takeSetId_notices (s : State) : (s.takeSetId).notices = s.notices := rfl

@[simp] theorem State.takeSetId_noticeSerial (s : State) : (s.takeSetId).noticeSerial = s.noticeSerial := rfl

@[simp] theorem State.takeSetId_eventsA (s : State) : (s.takeSetId).eventsA = s.eventsA := rfl

@[simp] theorem State.takeSetId_eventsB (s : State) : (s.takeSetId).eventsB = s.eventsB := rfl

@[simp] theorem State.takeSetId_routes (s : State) : (s.takeSetId).routes = s.routes := rfl

@[simp] theorem State.takeSetId_details (s : State) : (s.takeSetId).details = s.details := rfl

@[simp] theorem State.takeSetId_poolThreshold (s : State) : (s.takeSetId).poolThreshold = s.poolThreshold := rfl

@[simp] theorem State.takeSetId_poolState (s : State) : (s.takeSetId).poolState = s.poolState := rfl

@[simp] theorem State.takeSetId_link (s : State) : (s.takeSetId).link = s.link := rfl

@[simp] theorem State.takeSetId_portA (s : State) : (s.takeSetId).portA = s.portA := rfl

@[simp] theorem State.takeSetId_portB (s : State) : (s.takeSetId).portB = s.portB := rfl

@[simp] theorem State.takeSetId_decoder (s : State) : (s.takeSetId).decoder = s.decoder := rfl

@[simp] theorem State.takeSetId_inReset (s : State) : (s.takeSetId).inReset = s.inReset := rfl

@[simp] theorem State.takeSetId_pending (s : State) : (s.takeSetId).pending = s.pending := rfl

/-! ### dropHanded -/

@[simp] theorem State.dropHanded_slots (s : State) (o : Origin) : (s.dropHanded o).slots = s.slots := rfl

@[simp] theorem State.dropHanded_dir (s : State) (o : Origin) : (s.dropHanded o).dir = s.dir := rfl

@[simp] theorem State.dropHanded_freeRecords (s : State) (o : Origin) : (s.dropHanded o).freeRecords = s.freeRecords := rfl

@[simp] theorem State.dropHanded_setIdCounter (s : State) (o : Origin) : (s.dropHanded o).setIdCounter = s.setIdCounter := rfl

@[simp] theorem State.dropHanded_requesters (s : State) (o : Origin) : (s.dropHanded o).requesters = s.requesters := rfl

@[simp] theorem State.dropHanded_adminB (s : State) (o : Origin) : (s.dropHanded o).adminB = s.adminB := rfl

@[simp] theorem State.dropHanded_divider (s : State) (o : Origin) : (s.dropHanded o).divider = s.divider := rfl

@[simp] theorem State.dropHanded_clkCount (s : State) (o : Origin) : (s.dropHanded o).clkCount = s.clkCount := rfl

@[simp] theorem State.dropHanded_notices (s : State) (o : Origin) : (s.dropHanded o).notices = s.notices := rfl

@[simp] theorem State.dropHanded_noticeSerial (s : State) (o : Origin) : (s.dropHanded o).noticeSerial = s.noticeSerial := rfl

@[simp] theorem State.dropHanded_eventsA (s : State) (o : Origin) : (s.dropHanded o).eventsA = s.eventsA := rfl

@[simp] theorem State.dropHanded_eventsB (s : State) (o : Origin) : (s.dropHanded o).eventsB = s.eventsB := rfl

@[simp] theorem State.dropHanded_routes (s : State) (o : Origin) : (s.dropHanded o).routes = s.routes := rfl

@[simp] theorem State.dropHanded_details (s : State) (o : Origin) : (s.dropHanded o).details = s.details := rfl

@[simp] theorem State.dropHanded_poolThreshold (s : State) (o : Origin) : (s.dropHanded o).poolThreshold = s.poolThreshold := rfl

@[simp] theorem State.dropHanded_poolState (s : State) (o : Origin) : (s.dropHanded o).poolState = s.poolState := rfl

@[simp] theorem State.dropHanded_link (s : State) (o : Origin) : (s.dropHanded o).link = s.link := rfl

@[simp] theorem State.dropHanded_portA (s : State) (o : Origin) : (s.dropHanded o).portA = s.portA := rfl

@[simp] theorem State.dropHanded_portB (s : State) (o : Origin) : (s.dropHanded o).portB = s.portB := rfl

@[simp] theorem State.dropHanded_inReset (s : State) (o : Origin) : (s.dropHanded o).inReset = s.inReset := rfl

@[simp] theorem State.dropHanded_pending (s : State) (o : Origin) : (s.dropHanded o).pending = s.pending := rfl

/-! ### dropHeadNotice -/

@[simp] theorem State.dropHeadNotice_slots (s : State) (r : ReqSlot) : (s.dropHeadNotice r).slots = s.slots := rfl

@[simp] theorem State.dropHeadNotice_dir (s : State) (r : ReqSlot) : (s.dropHeadNotice r).dir = s.dir := rfl

@[simp] theorem State.dropHeadNotice_freeRecords (s : State) (r : ReqSlot) : (s.dropHeadNotice r).freeRecords = s.freeRecords := rfl

@[simp] theorem State.dropHeadNotice_setIdCounter (s : State) (r : ReqSlot) : (s.dropHeadNotice r).setIdCounter = s.setIdCounter := rfl

@[simp] theorem State.dropHeadNotice_requesters (s : State) (r : ReqSlot) : (s.dropHeadNotice r).requesters = s.requesters := rfl

@[simp] theorem State.dropHeadNotice_adminB (s : State) (r : ReqSlot) : (s.dropHeadNotice r).adminB = s.adminB := rfl

@[simp] theorem State.dropHeadNotice_divider (s : State) (r : ReqSlot) : (s.dropHeadNotice r).divider = s.divider := rfl

@[simp] theorem State.dropHeadNotice_clkCount (s : State) (r : ReqSlot) : (s.dropHeadNotice r).clkCount = s.clkCount := rfl

@[simp] theorem State.dropHeadNotice_noticeSerial (s : State) (r : ReqSlot) : (s.dropHeadNotice r).noticeSerial = s.noticeSerial := rfl

@[simp] theorem State.dropHeadNotice_eventsA (s : State) (r : ReqSlot) : (s.dropHeadNotice r).eventsA = s.eventsA := rfl

@[simp] theorem State.dropHeadNotice_eventsB (s : State) (r : ReqSlot) : (s.dropHeadNotice r).eventsB = s.eventsB := rfl

@[simp] theorem State.dropHeadNotice_routes (s : State) (r : ReqSlot) : (s.dropHeadNotice r).routes = s.routes := rfl

@[simp] theorem State.dropHeadNotice_details (s : State) (r : ReqSlot) : (s.dropHeadNotice r).details = s.details := rfl

@[simp] theorem State.dropHeadNotice_poolThreshold (s : State) (r : ReqSlot) : (s.dropHeadNotice r).poolThreshold = s.poolThreshold := rfl

@[simp] theorem State.dropHeadNotice_poolState (s : State) (r : ReqSlot) : (s.dropHeadNotice r).poolState = s.poolState := rfl

@[simp] theorem State.dropHeadNotice_link (s : State) (r : ReqSlot) : (s.dropHeadNotice r).link = s.link := rfl

@[simp] theorem State.dropHeadNotice_portA (s : State) (r : ReqSlot) : (s.dropHeadNotice r).portA = s.portA := rfl

@[simp] theorem State.dropHeadNotice_portB (s : State) (r : ReqSlot) : (s.dropHeadNotice r).portB = s.portB := rfl

@[simp] theorem State.dropHeadNotice_decoder (s : State) (r : ReqSlot) : (s.dropHeadNotice r).decoder = s.decoder := rfl

@[simp] theorem State.dropHeadNotice_inReset (s : State) (r : ReqSlot) : (s.dropHeadNotice r).inReset = s.inReset := rfl

@[simp] theorem State.dropHeadNotice_pending (s : State) (r : ReqSlot) : (s.dropHeadNotice r).pending = s.pending := rfl

/-! ### modifyNode -/

@[simp] theorem State.modifyNode_slots (s : State) (a : Nat) (f : NodeRecord → NodeRecord) : (s.modifyNode a f).slots = s.slots := rfl

@[simp] theorem State.modifyNode_dir (s : State) (a : Nat) (f : NodeRecord → NodeRecord) : (s.modifyNode a f).dir = s.dir := rfl

@[simp] theorem State.modifyNode_freeRecords (s : State) (a : Nat) (f : NodeRecord → NodeRecord) : (s.modifyNode a f).freeRecords = s.freeRecords := rfl

@[simp] theorem State.modifyNode_setIdCounter (s : State) (a : Nat) (f : NodeRecord → NodeRecord) : (s.modifyNode a f).setIdCounter = s.setIdCounter := rfl

@[simp] theorem State.modifyNode_requesters (s : State) (a : Nat) (f : NodeRecord → NodeRecord) : (s.modifyNode a f).requesters = s.requesters := rfl

@[simp] theorem State.modifyNode_adminB (s : State) (a : Nat) (f : NodeRecord → NodeRecord) : (s.modifyNode a f).adminB = s.adminB := rfl

@[simp] theorem State.modifyNode_divider (s : State) (a : Nat) (f : NodeRecord → NodeRecord) : (s.modifyNode a f).divider = s.divider := rfl

@[simp] theorem State.modifyNode_clkCount (s : State) (a : Nat) (f : NodeRecord → NodeRecord) : (s.modifyNode a f).clkCount = s.clkCount := rfl

@[simp] theorem State.modifyNode_notices (s : State) (a : Nat) (f : NodeRecord → NodeRecord) : (s.modifyNode a f).notices = s.notices := rfl

@[simp] theorem State.modifyNode_noticeSerial (s : State) (a : Nat) (f : NodeRecord → NodeRecord) : (s.modifyNode a f).noticeSerial = s.noticeSerial := rfl

@[simp] theorem State.modifyNode_eventsA (s : State) (a : Nat) (f : NodeRecord → NodeRecord) : (s.modifyNode a f).eventsA = s.eventsA := rfl

@[simp] theorem State.modifyNode_eventsB (s : State) (a : Nat) (f : NodeRecord → NodeRecord) : (s.modifyNode a f).eventsB = s.eventsB := rfl

@[simp] theorem State.modifyNode_routes (s : State) (a : Nat) (f : NodeRecord → NodeRecord) : (s.modifyNode a f).routes = s.routes := rfl

@[simp] theorem State.modifyNode_details (s : State) (a : Nat) (f : NodeRecord → NodeRecord) : (s.modifyNode a f).details = s.details := rfl

@[simp] theorem State.modifyNode_poolThreshold (s : State) (a : Nat) (f : NodeRecord → NodeRecord) : (s.modifyNode a f).poolThreshold = s.poolThreshold := rfl

@[simp] theorem State.modifyNode_poolState (s : State) (a : Nat) (f : NodeRecord → NodeRecord) : (s.modifyNode a f).poolState = s.poolState := rfl

@[simp] theorem State.modifyNode_portA (s : State) (a : Nat) (f : NodeRecord → NodeRecord) : (s.modifyNode a f).portA = s.portA := rfl

@[simp] theorem State.modifyNode_portB (s : State) (a : Nat) (f : NodeRecord → NodeRecord) : (s.modifyNode a f).portB = s.portB := rfl

@[simp] theorem State.modifyNode_decoder (s : State) (a : Nat) (f : NodeRecord → NodeRecord) : (s.modifyNode a f).decoder = s.decoder := rfl

@[simp] theorem State.modifyNode_inReset (s : State) (a : Nat) (f : NodeRecord → NodeRecord) : (s.modifyNode a f).inReset = s.inReset := rfl

@[simp] theorem State.modifyNode_pending (s : State) (a : Nat) (f : NodeRecord → NodeRecord) : (s.modifyNode a f).pending = s.pending := rfl

/-! ### setPhase -/

@[simp] theorem State.setPhase_slots (s : State) (x : Exchange) (p : ExchangePhase) : (s.setPhase x p).slots = s.slots := rfl

@[simp] theorem State.setPhase_dir (s : State) (x : Exchange) (p : ExchangePhase) : (s.setPhase x p).dir = s.dir := rfl

@[simp] theorem State.setPhase_freeRecords (s : State) (x : Exchange) (p : ExchangePhase) : (s.setPhase x p).freeRecords = s.freeRecords := rfl

@[simp] theorem State.setPhase_setIdCounter (s : State) (x : Exchange) (p : ExchangePhase) : (s.setPhase x p).setIdCounter = s.setIdCounter := rfl

@[simp] theorem State.setPhase_requesters (s : State) (x : Exchange) (p : ExchangePhase) : (s.setPhase x p).requesters = s.requesters := rfl

@[simp] theorem State.setPhase_adminB (s : State) (x : Exchange) (p : ExchangePhase) : (s.setPhase x p).adminB = s.adminB := rfl

@[simp] theorem State.setPhase_divider (s : State) (x : Exchange) (p : ExchangePhase) : (s.setPhase x p).divider = s.divider := rfl

@[simp] theorem State.setPhase_clkCount (s : State) (x : Exchange) (p : ExchangePhase) : (s.setPhase x p).clkCount = s.clkCount := rfl

@[simp] theorem State.setPhase_notices (s : State) (x : Exchange) (p : ExchangePhase) : (s.setPhase x p).notices = s.notices := rfl

@[simp] theorem State.setPhase_noticeSerial (s : State) (x : Exchange) (p : ExchangePhase) : (s.setPhase x p).noticeSerial = s.noticeSerial := rfl

@[simp] theorem State.setPhase_eventsA (s : State) (x : Exchange) (p : ExchangePhase) : (s.setPhase x p).eventsA = s.eventsA := rfl

@[simp] theorem State.setPhase_eventsB (s : State) (x : Exchange) (p : ExchangePhase) : (s.setPhase x p).eventsB = s.eventsB := rfl

@[simp] theorem State.setPhase_routes (s : State) (x : Exchange) (p : ExchangePhase) : (s.setPhase x p).routes = s.routes := rfl

@[simp] theorem State.setPhase_details (s : State) (x : Exchange) (p : ExchangePhase) : (s.setPhase x p).details = s.details := rfl

@[simp] theorem State.setPhase_poolThreshold (s : State) (x : Exchange) (p : ExchangePhase) : (s.setPhase x p).poolThreshold = s.poolThreshold := rfl

@[simp] theorem State.setPhase_poolState (s : State) (x : Exchange) (p : ExchangePhase) : (s.setPhase x p).poolState = s.poolState := rfl

@[simp] theorem State.setPhase_portA (s : State) (x : Exchange) (p : ExchangePhase) : (s.setPhase x p).portA = s.portA := rfl

@[simp] theorem State.setPhase_portB (s : State) (x : Exchange) (p : ExchangePhase) : (s.setPhase x p).portB = s.portB := rfl

@[simp] theorem State.setPhase_decoder (s : State) (x : Exchange) (p : ExchangePhase) : (s.setPhase x p).decoder = s.decoder := rfl

@[simp] theorem State.setPhase_inReset (s : State) (x : Exchange) (p : ExchangePhase) : (s.setPhase x p).inReset = s.inReset := rfl

@[simp] theorem State.setPhase_pending (s : State) (x : Exchange) (p : ExchangePhase) : (s.setPhase x p).pending = s.pending := rfl

/-! ### settleAttention -/

@[simp] theorem State.settleAttention_slots (s : State) : (s.settleAttention).slots = s.slots := rfl

@[simp] theorem State.settleAttention_dir (s : State) : (s.settleAttention).dir = s.dir := rfl

@[simp] theorem State.settleAttention_freeRecords (s : State) : (s.settleAttention).freeRecords = s.freeRecords := rfl

@[simp] theorem State.settleAttention_setIdCounter (s : State) : (s.settleAttention).setIdCounter = s.setIdCounter := rfl

@[simp] theorem State.settleAttention_requesters (s : State) : (s.settleAttention).requesters = s.requesters := rfl

@[simp] theorem State.settleAttention_adminB (s : State) : (s.settleAttention).adminB = s.adminB := rfl

@[simp] theorem State.settleAttention_divider (s : State) : (s.settleAttention).divider = s.divider := rfl

@[simp] theorem State.settleAttention_clkCount (s : State) : (s.settleAttention).clkCount = s.clkCount := rfl

@[simp] theorem State.settleAttention_notices (s : State) : (s.settleAttention).notices = s.notices := rfl

@[simp] theorem State.settleAttention_noticeSerial (s : State) : (s.settleAttention).noticeSerial = s.noticeSerial := rfl

@[simp] theorem State.settleAttention_eventsA (s : State) : (s.settleAttention).eventsA = s.eventsA := rfl

@[simp] theorem State.settleAttention_eventsB (s : State) : (s.settleAttention).eventsB = s.eventsB := rfl

@[simp] theorem State.settleAttention_routes (s : State) : (s.settleAttention).routes = s.routes := rfl

@[simp] theorem State.settleAttention_details (s : State) : (s.settleAttention).details = s.details := rfl

@[simp] theorem State.settleAttention_poolThreshold (s : State) : (s.settleAttention).poolThreshold = s.poolThreshold := rfl

@[simp] theorem State.settleAttention_poolState (s : State) : (s.settleAttention).poolState = s.poolState := rfl

@[simp] theorem State.settleAttention_link (s : State) : (s.settleAttention).link = s.link := rfl

@[simp] theorem State.settleAttention_decoder (s : State) : (s.settleAttention).decoder = s.decoder := rfl

@[simp] theorem State.settleAttention_inReset (s : State) : (s.settleAttention).inReset = s.inReset := rfl

@[simp] theorem State.settleAttention_pending (s : State) : (s.settleAttention).pending = s.pending := rfl

/-! ### lowerAll -/

@[simp] theorem State.lowerAll_dir (s : State) : (s.lowerAll).dir = s.dir := rfl

@[simp] theorem State.lowerAll_freeRecords (s : State) : (s.lowerAll).freeRecords = s.freeRecords := rfl

@[simp] theorem State.lowerAll_setIdCounter (s : State) : (s.lowerAll).setIdCounter = s.setIdCounter := rfl

@[simp] theorem State.lowerAll_adminB (s : State) : (s.lowerAll).adminB = s.adminB := rfl

@[simp] theorem State.lowerAll_divider (s : State) : (s.lowerAll).divider = s.divider := rfl

@[simp] theorem State.lowerAll_notices (s : State) : (s.lowerAll).notices = s.notices := rfl

@[simp] theorem State.lowerAll_noticeSerial (s : State) : (s.lowerAll).noticeSerial = s.noticeSerial := rfl

@[simp] theorem State.lowerAll_eventsA (s : State) : (s.lowerAll).eventsA = s.eventsA := rfl

@[simp] theorem State.lowerAll_eventsB (s : State) : (s.lowerAll).eventsB = s.eventsB := rfl

@[simp] theorem State.lowerAll_routes (s : State) : (s.lowerAll).routes = s.routes := rfl

@[simp] theorem State.lowerAll_details (s : State) : (s.lowerAll).details = s.details := rfl

@[simp] theorem State.lowerAll_poolThreshold (s : State) : (s.lowerAll).poolThreshold = s.poolThreshold := rfl

@[simp] theorem State.lowerAll_poolState (s : State) : (s.lowerAll).poolState = s.poolState := rfl

@[simp] theorem State.lowerAll_link (s : State) : (s.lowerAll).link = s.link := rfl

@[simp] theorem State.lowerAll_portA (s : State) : (s.lowerAll).portA = s.portA := rfl

@[simp] theorem State.lowerAll_portB (s : State) : (s.lowerAll).portB = s.portB := rfl

@[simp] theorem State.lowerAll_decoder (s : State) : (s.lowerAll).decoder = s.decoder := rfl

@[simp] theorem State.lowerAll_inReset (s : State) : (s.lowerAll).inReset = s.inReset := rfl

@[simp] theorem State.lowerAll_pending (s : State) : (s.lowerAll).pending = s.pending := rfl

/-! ### modifyEntry -/

@[simp] theorem State.modifyEntry_dir (s : State) (e : EntrySlot) (f : Entry → Entry) : (s.modifyEntry e f).dir = s.dir := by
  unfold State.modifyEntry; split <;> rfl

@[simp] theorem State.modifyEntry_freeRecords (s : State) (e : EntrySlot) (f : Entry → Entry) : (s.modifyEntry e f).freeRecords = s.freeRecords := by
  unfold State.modifyEntry; split <;> rfl

@[simp] theorem State.modifyEntry_setIdCounter (s : State) (e : EntrySlot) (f : Entry → Entry) : (s.modifyEntry e f).setIdCounter = s.setIdCounter := by
  unfold State.modifyEntry; split <;> rfl

@[simp] theorem State.modifyEntry_requesters (s : State) (e : EntrySlot) (f : Entry → Entry) : (s.modifyEntry e f).requesters = s.requesters := by
  unfold State.modifyEntry; split <;> rfl

@[simp] theorem State.modifyEntry_adminB (s : State) (e : EntrySlot) (f : Entry → Entry) : (s.modifyEntry e f).adminB = s.adminB := by
  unfold State.modifyEntry; split <;> rfl

@[simp] theorem State.modifyEntry_divider (s : State) (e : EntrySlot) (f : Entry → Entry) : (s.modifyEntry e f).divider = s.divider := by
  unfold State.modifyEntry; split <;> rfl

@[simp] theorem State.modifyEntry_clkCount (s : State) (e : EntrySlot) (f : Entry → Entry) : (s.modifyEntry e f).clkCount = s.clkCount := by
  unfold State.modifyEntry; split <;> rfl

@[simp] theorem State.modifyEntry_notices (s : State) (e : EntrySlot) (f : Entry → Entry) : (s.modifyEntry e f).notices = s.notices := by
  unfold State.modifyEntry; split <;> rfl

@[simp] theorem State.modifyEntry_noticeSerial (s : State) (e : EntrySlot) (f : Entry → Entry) : (s.modifyEntry e f).noticeSerial = s.noticeSerial := by
  unfold State.modifyEntry; split <;> rfl

@[simp] theorem State.modifyEntry_eventsA (s : State) (e : EntrySlot) (f : Entry → Entry) : (s.modifyEntry e f).eventsA = s.eventsA := by
  unfold State.modifyEntry; split <;> rfl

@[simp] theorem State.modifyEntry_eventsB (s : State) (e : EntrySlot) (f : Entry → Entry) : (s.modifyEntry e f).eventsB = s.eventsB := by
  unfold State.modifyEntry; split <;> rfl

@[simp] theorem State.modifyEntry_routes (s : State) (e : EntrySlot) (f : Entry → Entry) : (s.modifyEntry e f).routes = s.routes := by
  unfold State.modifyEntry; split <;> rfl

@[simp] theorem State.modifyEntry_details (s : State) (e : EntrySlot) (f : Entry → Entry) : (s.modifyEntry e f).details = s.details := by
  unfold State.modifyEntry; split <;> rfl

@[simp] theorem State.modifyEntry_poolThreshold (s : State) (e : EntrySlot) (f : Entry → Entry) : (s.modifyEntry e f).poolThreshold = s.poolThreshold := by
  unfold State.modifyEntry; split <;> rfl

@[simp] theorem State.modifyEntry_poolState (s : State) (e : EntrySlot) (f : Entry → Entry) : (s.modifyEntry e f).poolState = s.poolState := by
  unfold State.modifyEntry; split <;> rfl

@[simp] theorem State.modifyEntry_link (s : State) (e : EntrySlot) (f : Entry → Entry) : (s.modifyEntry e f).link = s.link := by
  unfold State.modifyEntry; split <;> rfl

@[simp] theorem State.modifyEntry_portA (s : State) (e : EntrySlot) (f : Entry → Entry) : (s.modifyEntry e f).portA = s.portA := by
  unfold State.modifyEntry; split <;> rfl

@[simp] theorem State.modifyEntry_portB (s : State) (e : EntrySlot) (f : Entry → Entry) : (s.modifyEntry e f).portB = s.portB := by
  unfold State.modifyEntry; split <;> rfl

@[simp] theorem State.modifyEntry_decoder (s : State) (e : EntrySlot) (f : Entry → Entry) : (s.modifyEntry e f).decoder = s.decoder := by
  unfold State.modifyEntry; split <;> rfl

@[simp] theorem State.modifyEntry_inReset (s : State) (e : EntrySlot) (f : Entry → Entry) : (s.modifyEntry e f).inReset = s.inReset := by
  unfold State.modifyEntry; split <;> rfl

@[simp] theorem State.modifyEntry_pending (s : State) (e : EntrySlot) (f : Entry → Entry) : (s.modifyEntry e f).pending = s.pending := by
  unfold State.modifyEntry; split <;> rfl

/-! ### modifyReq -/

@[simp] theorem State.modifyReq_slots (s : State) (r : ReqSlot) (f : Requester → Requester) : (s.modifyReq r f).slots = s.slots := by
  unfold State.modifyReq; split <;> rfl

@[simp] theorem State.modifyReq_dir (s : State) (r : ReqSlot) (f : Requester → Requester) : (s.modifyReq r f).dir = s.dir := by
  unfold State.modifyReq; split <;> rfl

@[simp] theorem State.modifyReq_freeRecords (s : State) (r : ReqSlot) (f : Requester → Requester) : (s.modifyReq r f).freeRecords = s.freeRecords := by
  unfold State.modifyReq; split <;> rfl

@[simp] theorem State.modifyReq_setIdCounter (s : State) (r : ReqSlot) (f : Requester → Requester) : (s.modifyReq r f).setIdCounter = s.setIdCounter := by
  unfold State.modifyReq; split <;> rfl

@[simp] theorem State.modifyReq_adminB (s : State) (r : ReqSlot) (f : Requester → Requester) : (s.modifyReq r f).adminB = s.adminB := by
  unfold State.modifyReq; split <;> rfl

@[simp] theorem State.modifyReq_divider (s : State) (r : ReqSlot) (f : Requester → Requester) : (s.modifyReq r f).divider = s.divider := by
  unfold State.modifyReq; split <;> rfl

@[simp] theorem State.modifyReq_clkCount (s : State) (r : ReqSlot) (f : Requester → Requester) : (s.modifyReq r f).clkCount = s.clkCount := by
  unfold State.modifyReq; split <;> rfl

@[simp] theorem State.modifyReq_notices (s : State) (r : ReqSlot) (f : Requester → Requester) : (s.modifyReq r f).notices = s.notices := by
  unfold State.modifyReq; split <;> rfl

@[simp] theorem State.modifyReq_noticeSerial (s : State) (r : ReqSlot) (f : Requester → Requester) : (s.modifyReq r f).noticeSerial = s.noticeSerial := by
  unfold State.modifyReq; split <;> rfl

@[simp] theorem State.modifyReq_eventsA (s : State) (r : ReqSlot) (f : Requester → Requester) : (s.modifyReq r f).eventsA = s.eventsA := by
  unfold State.modifyReq; split <;> rfl

@[simp] theorem State.modifyReq_eventsB (s : State) (r : ReqSlot) (f : Requester → Requester) : (s.modifyReq r f).eventsB = s.eventsB := by
  unfold State.modifyReq; split <;> rfl

@[simp] theorem State.modifyReq_routes (s : State) (r : ReqSlot) (f : Requester → Requester) : (s.modifyReq r f).routes = s.routes := by
  unfold State.modifyReq; split <;> rfl

@[simp] theorem State.modifyReq_details (s : State) (r : ReqSlot) (f : Requester → Requester) : (s.modifyReq r f).details = s.details := by
  unfold State.modifyReq; split <;> rfl

@[simp] theorem State.modifyReq_poolThreshold (s : State) (r : ReqSlot) (f : Requester → Requester) : (s.modifyReq r f).poolThreshold = s.poolThreshold := by
  unfold State.modifyReq; split <;> rfl

@[simp] theorem State.modifyReq_poolState (s : State) (r : ReqSlot) (f : Requester → Requester) : (s.modifyReq r f).poolState = s.poolState := by
  unfold State.modifyReq; split <;> rfl

@[simp] theorem State.modifyReq_link (s : State) (r : ReqSlot) (f : Requester → Requester) : (s.modifyReq r f).link = s.link := by
  unfold State.modifyReq; split <;> rfl

@[simp] theorem State.modifyReq_portA (s : State) (r : ReqSlot) (f : Requester → Requester) : (s.modifyReq r f).portA = s.portA := by
  unfold State.modifyReq; split <;> rfl

@[simp] theorem State.modifyReq_portB (s : State) (r : ReqSlot) (f : Requester → Requester) : (s.modifyReq r f).portB = s.portB := by
  unfold State.modifyReq; split <;> rfl

@[simp] theorem State.modifyReq_decoder (s : State) (r : ReqSlot) (f : Requester → Requester) : (s.modifyReq r f).decoder = s.decoder := by
  unfold State.modifyReq; split <;> rfl

@[simp] theorem State.modifyReq_inReset (s : State) (r : ReqSlot) (f : Requester → Requester) : (s.modifyReq r f).inReset = s.inReset := by
  unfold State.modifyReq; split <;> rfl

@[simp] theorem State.modifyReq_pending (s : State) (r : ReqSlot) (f : Requester → Requester) : (s.modifyReq r f).pending = s.pending := by
  unfold State.modifyReq; split <;> rfl

/-! ### setPort -/

@[simp] theorem State.setPort_slots (s : State) (p : PortId) (q : Port) : (s.setPort p q).slots = s.slots := by
  cases p <;> rfl

@[simp] theorem State.setPort_dir (s : State) (p : PortId) (q : Port) : (s.setPort p q).dir = s.dir := by
  cases p <;> rfl

@[simp] theorem State.setPort_freeRecords (s : State) (p : PortId) (q : Port) : (s.setPort p q).freeRecords = s.freeRecords := by
  cases p <;> rfl

@[simp] theorem State.setPort_setIdCounter (s : State) (p : PortId) (q : Port) : (s.setPort p q).setIdCounter = s.setIdCounter := by
  cases p <;> rfl

@[simp] theorem State.setPort_requesters (s : State) (p : PortId) (q : Port) : (s.setPort p q).requesters = s.requesters := by
  cases p <;> rfl

@[simp] theorem State.setPort_adminB (s : State) (p : PortId) (q : Port) : (s.setPort p q).adminB = s.adminB := by
  cases p <;> rfl

@[simp] theorem State.setPort_divider (s : State) (p : PortId) (q : Port) : (s.setPort p q).divider = s.divider := by
  cases p <;> rfl

@[simp] theorem State.setPort_clkCount (s : State) (p : PortId) (q : Port) : (s.setPort p q).clkCount = s.clkCount := by
  cases p <;> rfl

@[simp] theorem State.setPort_notices (s : State) (p : PortId) (q : Port) : (s.setPort p q).notices = s.notices := by
  cases p <;> rfl

@[simp] theorem State.setPort_noticeSerial (s : State) (p : PortId) (q : Port) : (s.setPort p q).noticeSerial = s.noticeSerial := by
  cases p <;> rfl

@[simp] theorem State.setPort_eventsA (s : State) (p : PortId) (q : Port) : (s.setPort p q).eventsA = s.eventsA := by
  cases p <;> rfl

@[simp] theorem State.setPort_eventsB (s : State) (p : PortId) (q : Port) : (s.setPort p q).eventsB = s.eventsB := by
  cases p <;> rfl

@[simp] theorem State.setPort_routes (s : State) (p : PortId) (q : Port) : (s.setPort p q).routes = s.routes := by
  cases p <;> rfl

@[simp] theorem State.setPort_details (s : State) (p : PortId) (q : Port) : (s.setPort p q).details = s.details := by
  cases p <;> rfl

@[simp] theorem State.setPort_poolThreshold (s : State) (p : PortId) (q : Port) : (s.setPort p q).poolThreshold = s.poolThreshold := by
  cases p <;> rfl

@[simp] theorem State.setPort_poolState (s : State) (p : PortId) (q : Port) : (s.setPort p q).poolState = s.poolState := by
  cases p <;> rfl

@[simp] theorem State.setPort_link (s : State) (p : PortId) (q : Port) : (s.setPort p q).link = s.link := by
  cases p <;> rfl

@[simp] theorem State.setPort_decoder (s : State) (p : PortId) (q : Port) : (s.setPort p q).decoder = s.decoder := by
  cases p <;> rfl

@[simp] theorem State.setPort_inReset (s : State) (p : PortId) (q : Port) : (s.setPort p q).inReset = s.inReset := by
  cases p <;> rfl

@[simp] theorem State.setPort_pending (s : State) (p : PortId) (q : Port) : (s.setPort p q).pending = s.pending := by
  cases p <;> rfl

/-! ### clearEvents -/

@[simp] theorem State.clearEvents_slots (s : State) (p : PortId) : (s.clearEvents p).slots = s.slots := by
  cases p <;> rfl

@[simp] theorem State.clearEvents_dir (s : State) (p : PortId) : (s.clearEvents p).dir = s.dir := by
  cases p <;> rfl

@[simp] theorem State.clearEvents_freeRecords (s : State) (p : PortId) : (s.clearEvents p).freeRecords = s.freeRecords := by
  cases p <;> rfl

@[simp] theorem State.clearEvents_setIdCounter (s : State) (p : PortId) : (s.clearEvents p).setIdCounter = s.setIdCounter := by
  cases p <;> rfl

@[simp] theorem State.clearEvents_requesters (s : State) (p : PortId) : (s.clearEvents p).requesters = s.requesters := by
  cases p <;> rfl

@[simp] theorem State.clearEvents_adminB (s : State) (p : PortId) : (s.clearEvents p).adminB = s.adminB := by
  cases p <;> rfl

@[simp] theorem State.clearEvents_divider (s : State) (p : PortId) : (s.clearEvents p).divider = s.divider := by
  cases p <;> rfl

@[simp] theorem State.clearEvents_clkCount (s : State) (p : PortId) : (s.clearEvents p).clkCount = s.clkCount := by
  cases p <;> rfl

@[simp] theorem State.clearEvents_notices (s : State) (p : PortId) : (s.clearEvents p).notices = s.notices := by
  cases p <;> rfl

@[simp] theorem State.clearEvents_noticeSerial (s : State) (p : PortId) : (s.clearEvents p).noticeSerial = s.noticeSerial := by
  cases p <;> rfl

@[simp] theorem State.clearEvents_routes (s : State) (p : PortId) : (s.clearEvents p).routes = s.routes := by
  cases p <;> rfl

@[simp] theorem State.clearEvents_details (s : State) (p : PortId) : (s.clearEvents p).details = s.details := by
  cases p <;> rfl

@[simp] theorem State.clearEvents_poolThreshold (s : State) (p : PortId) : (s.clearEvents p).poolThreshold = s.poolThreshold := by
  cases p <;> rfl

@[simp] theorem State.clearEvents_poolState (s : State) (p : PortId) : (s.clearEvents p).poolState = s.poolState := by
  cases p <;> rfl

@[simp] theorem State.clearEvents_link (s : State) (p : PortId) : (s.clearEvents p).link = s.link := by
  cases p <;> rfl

@[simp] theorem State.clearEvents_portA (s : State) (p : PortId) : (s.clearEvents p).portA = s.portA := by
  cases p <;> rfl

@[simp] theorem State.clearEvents_portB (s : State) (p : PortId) : (s.clearEvents p).portB = s.portB := by
  cases p <;> rfl

@[simp] theorem State.clearEvents_decoder (s : State) (p : PortId) : (s.clearEvents p).decoder = s.decoder := by
  cases p <;> rfl

@[simp] theorem State.clearEvents_inReset (s : State) (p : PortId) : (s.clearEvents p).inReset = s.inReset := by
  cases p <;> rfl

@[simp] theorem State.clearEvents_pending (s : State) (p : PortId) : (s.clearEvents p).pending = s.pending := by
  cases p <;> rfl

/-! ### Reading after writing -/

@[simp] theorem State.entry_setEntry (s : State) (e : EntrySlot) (en : Entry) (e' : EntrySlot) :
    (s.setEntry e en).entry e' = if e = e' then some en else s.entry e' := by
  simp only [State.entry, State.setEntry, Vector.getElem_set, Fin.val_inj]
  split <;> rfl

@[simp] theorem State.generation_setEntry (s : State) (e : EntrySlot) (en : Entry) (e' : EntrySlot) :
    (s.setEntry e en).generation e' = s.generation e' := by
  simp only [State.generation, State.setEntry, Vector.getElem_set, Fin.val_inj]
  split
  · next h => subst h; rfl
  · rfl

@[simp] theorem State.entry_freeSlot (s : State) (e e' : EntrySlot) :
    (s.freeSlot e).entry e' = if e = e' then none else s.entry e' := by
  simp only [State.entry, State.freeSlot, Vector.getElem_set, Fin.val_inj]
  split <;> rfl

@[simp] theorem State.generation_freeSlot (s : State) (e e' : EntrySlot) :
    (s.freeSlot e).generation e' = if e = e' then s.generation e + 1 else s.generation e' := by
  simp only [State.generation, State.freeSlot, Vector.getElem_set, Fin.val_inj]
  split <;> rfl

@[simp] theorem State.entry_modifyEntry (s : State) (e : EntrySlot) (f : Entry → Entry) (e' : EntrySlot) :
    (s.modifyEntry e f).entry e' = if e = e' then (s.entry e).map f else s.entry e' := by
  unfold State.modifyEntry
  split
  · next en h => simp [h]
  · next h => by_cases he : e = e' <;> simp_all

@[simp] theorem State.generation_modifyEntry (s : State) (e : EntrySlot) (f : Entry → Entry) (e' : EntrySlot) :
    (s.modifyEntry e f).generation e' = s.generation e' := by
  unfold State.modifyEntry; split <;> simp

@[simp] theorem State.req_setReq (s : State) (r : ReqSlot) (q : Option Requester) (r' : ReqSlot) :
    (s.setReq r q).req r' = if r = r' then q else s.req r' := by
  simp only [State.req, State.setReq, Vector.getElem_set, Fin.val_inj]

@[simp] theorem State.req_modifyReq (s : State) (r : ReqSlot) (f : Requester → Requester) (r' : ReqSlot) :
    (s.modifyReq r f).req r' = if r = r' then (s.req r).map f else s.req r' := by
  unfold State.modifyReq
  split
  · next q h => simp [h]
  · next h => by_cases hr : r = r' <;> simp_all

@[simp] theorem State.port_setPort (s : State) (p : PortId) (q : Port) (p' : PortId) :
    (s.setPort p q).port p' = if p = p' then q else s.port p' := by
  cases p <;> cases p' <;> rfl

/-! ### Reading of one part after a write of another -/

@[simp] theorem State.req_setEntry (s : State) (e : EntrySlot) (en : Entry) (i : ReqSlot) : (s.setEntry e en).req i = s.req i := by
  simp [State.req]

@[simp] theorem State.noticeQueue_setEntry (s : State) (e : EntrySlot) (en : Entry) (i : ReqSlot) : (s.setEntry e en).noticeQueue i = s.noticeQueue i := by
  simp [State.noticeQueue]

@[simp] theorem State.req_freeSlot (s : State) (e : EntrySlot) (i : ReqSlot) : (s.freeSlot e).req i = s.req i := by
  simp [State.req]

@[simp] theorem State.noticeQueue_freeSlot (s : State) (e : EntrySlot) (i : ReqSlot) : (s.freeSlot e).noticeQueue i = s.noticeQueue i := by
  simp [State.noticeQueue]

@[simp] theorem State.entry_setReq (s : State) (r : ReqSlot) (q : Option Requester) (i : EntrySlot) : (s.setReq r q).entry i = s.entry i := by
  simp [State.entry]

@[simp] theorem State.generation_setReq (s : State) (r : ReqSlot) (q : Option Requester) (i : EntrySlot) : (s.setReq r q).generation i = s.generation i := by
  simp [State.generation]

@[simp] theorem State.noticeQueue_setReq (s : State) (r : ReqSlot) (q : Option Requester) (i : ReqSlot) : (s.setReq r q).noticeQueue i = s.noticeQueue i := by
  simp [State.noticeQueue]

@[simp] theorem State.entry_raise (s : State) (d : Detail) (i : EntrySlot) : (s.raise d).entry i = s.entry i := by
  simp [State.entry]

@[simp] theorem State.generation_raise (s : State) (d : Detail) (i : EntrySlot) : (s.raise d).generation i = s.generation i := by
  simp [State.generation]

@[simp] theorem State.req_raise (s : State) (d : Detail) (i : ReqSlot) : (s.raise d).req i = s.req i := by
  simp [State.req]

@[simp] theorem State.noticeQueue_raise (s : State) (d : Detail) (i : ReqSlot) : (s.raise d).noticeQueue i = s.noticeQueue i := by
  simp [State.noticeQueue]

@[simp] theorem State.entry_takeSetId (s : State) (i : EntrySlot) : (s.takeSetId).entry i = s.entry i := by
  simp [State.entry]

@[simp] theorem State.generation_takeSetId (s : State) (i : EntrySlot) : (s.takeSetId).generation i = s.generation i := by
  simp [State.generation]

@[simp] theorem State.req_takeSetId (s : State) (i : ReqSlot) : (s.takeSetId).req i = s.req i := by
  simp [State.req]

@[simp] theorem State.noticeQueue_takeSetId (s : State) (i : ReqSlot) : (s.takeSetId).noticeQueue i = s.noticeQueue i := by
  simp [State.noticeQueue]

@[simp] theorem State.entry_dropHanded (s : State) (o : Origin) (i : EntrySlot) : (s.dropHanded o).entry i = s.entry i := by
  simp [State.entry]

@[simp] theorem State.generation_dropHanded (s : State) (o : Origin) (i : EntrySlot) : (s.dropHanded o).generation i = s.generation i := by
  simp [State.generation]

@[simp] theorem State.req_dropHanded (s : State) (o : Origin) (i : ReqSlot) : (s.dropHanded o).req i = s.req i := by
  simp [State.req]

@[simp] theorem State.noticeQueue_dropHanded (s : State) (o : Origin) (i : ReqSlot) : (s.dropHanded o).noticeQueue i = s.noticeQueue i := by
  simp [State.noticeQueue]

@[simp] theorem State.entry_dropHeadNotice (s : State) (r : ReqSlot) (i : EntrySlot) : (s.dropHeadNotice r).entry i = s.entry i := by
  simp [State.entry]

@[simp] theorem State.generation_dropHeadNotice (s : State) (r : ReqSlot) (i : EntrySlot) : (s.dropHeadNotice r).generation i = s.generation i := by
  simp [State.generation]

@[simp] theorem State.req_dropHeadNotice (s : State) (r : ReqSlot) (i : ReqSlot) : (s.dropHeadNotice r).req i = s.req i := by
  simp [State.req]

@[simp] theorem State.entry_modifyNode (s : State) (a : Nat) (f : NodeRecord → NodeRecord) (i : EntrySlot) : (s.modifyNode a f).entry i = s.entry i := by
  simp [State.entry]

@[simp] theorem State.generation_modifyNode (s : State) (a : Nat) (f : NodeRecord → NodeRecord) (i : EntrySlot) : (s.modifyNode a f).generation i = s.generation i := by
  simp [State.generation]

@[simp] theorem State.req_modifyNode (s : State) (a : Nat) (f : NodeRecord → NodeRecord) (i : ReqSlot) : (s.modifyNode a f).req i = s.req i := by
  simp [State.req]

@[simp] theorem State.noticeQueue_modifyNode (s : State) (a : Nat) (f : NodeRecord → NodeRecord) (i : ReqSlot) : (s.modifyNode a f).noticeQueue i = s.noticeQueue i := by
  simp [State.noticeQueue]

@[simp] theorem State.entry_setPhase (s : State) (x : Exchange) (p : ExchangePhase) (i : EntrySlot) : (s.setPhase x p).entry i = s.entry i := by
  simp [State.entry]

@[simp] theorem State.generation_setPhase (s : State) (x : Exchange) (p : ExchangePhase) (i : EntrySlot) : (s.setPhase x p).generation i = s.generation i := by
  simp [State.generation]

@[simp] theorem State.req_setPhase (s : State) (x : Exchange) (p : ExchangePhase) (i : ReqSlot) : (s.setPhase x p).req i = s.req i := by
  simp [State.req]

@[simp] theorem State.noticeQueue_setPhase (s : State) (x : Exchange) (p : ExchangePhase) (i : ReqSlot) : (s.setPhase x p).noticeQueue i = s.noticeQueue i := by
  simp [State.noticeQueue]

@[simp] theorem State.entry_settleAttention (s : State) (i : EntrySlot) : (s.settleAttention).entry i = s.entry i := by
  simp [State.entry]

@[simp] theorem State.generation_settleAttention (s : State) (i : EntrySlot) : (s.settleAttention).generation i = s.generation i := by
  simp [State.generation]

@[simp] theorem State.req_settleAttention (s : State) (i : ReqSlot) : (s.settleAttention).req i = s.req i := by
  simp [State.req]

@[simp] theorem State.noticeQueue_settleAttention (s : State) (i : ReqSlot) : (s.settleAttention).noticeQueue i = s.noticeQueue i := by
  simp [State.noticeQueue]

@[simp] theorem State.noticeQueue_lowerAll (s : State) (i : ReqSlot) : (s.lowerAll).noticeQueue i = s.noticeQueue i := by
  simp [State.noticeQueue]

@[simp] theorem State.req_modifyEntry (s : State) (e : EntrySlot) (f : Entry → Entry) (i : ReqSlot) : (s.modifyEntry e f).req i = s.req i := by
  simp [State.req]

@[simp] theorem State.noticeQueue_modifyEntry (s : State) (e : EntrySlot) (f : Entry → Entry) (i : ReqSlot) : (s.modifyEntry e f).noticeQueue i = s.noticeQueue i := by
  simp [State.noticeQueue]

@[simp] theorem State.entry_modifyReq (s : State) (r : ReqSlot) (f : Requester → Requester) (i : EntrySlot) : (s.modifyReq r f).entry i = s.entry i := by
  simp [State.entry]

@[simp] theorem State.generation_modifyReq (s : State) (r : ReqSlot) (f : Requester → Requester) (i : EntrySlot) : (s.modifyReq r f).generation i = s.generation i := by
  simp [State.generation]

@[simp] theorem State.noticeQueue_modifyReq (s : State) (r : ReqSlot) (f : Requester → Requester) (i : ReqSlot) : (s.modifyReq r f).noticeQueue i = s.noticeQueue i := by
  simp [State.noticeQueue]

@[simp] theorem State.entry_setPort (s : State) (p : PortId) (q : Port) (i : EntrySlot) : (s.setPort p q).entry i = s.entry i := by
  simp [State.entry]

@[simp] theorem State.generation_setPort (s : State) (p : PortId) (q : Port) (i : EntrySlot) : (s.setPort p q).generation i = s.generation i := by
  simp [State.generation]

@[simp] theorem State.req_setPort (s : State) (p : PortId) (q : Port) (i : ReqSlot) : (s.setPort p q).req i = s.req i := by
  simp [State.req]

@[simp] theorem State.noticeQueue_setPort (s : State) (p : PortId) (q : Port) (i : ReqSlot) : (s.setPort p q).noticeQueue i = s.noticeQueue i := by
  simp [State.noticeQueue]

@[simp] theorem State.entry_clearEvents (s : State) (p : PortId) (i : EntrySlot) : (s.clearEvents p).entry i = s.entry i := by
  simp [State.entry]

@[simp] theorem State.generation_clearEvents (s : State) (p : PortId) (i : EntrySlot) : (s.clearEvents p).generation i = s.generation i := by
  simp [State.generation]

@[simp] theorem State.req_clearEvents (s : State) (p : PortId) (i : ReqSlot) : (s.clearEvents p).req i = s.req i := by
  simp [State.req]

@[simp] theorem State.noticeQueue_clearEvents (s : State) (p : PortId) (i : ReqSlot) : (s.clearEvents p).noticeQueue i = s.noticeQueue i := by
  simp [State.noticeQueue]

/-! ### The SEL falls and rises of a port -/

@[simp] theorem Port.startTransfer_phase (q : Port) (b : Bool) : (q.startTransfer b).phase = q.phase := by
  unfold Port.startTransfer; split <;> [rfl; split <;> rfl]
@[simp] theorem Port.startTransfer_response (q : Port) (b : Bool) : (q.startTransfer b).response = q.response := by
  unfold Port.startTransfer; split <;> [rfl; split <;> rfl]
@[simp] theorem Port.startTransfer_atnLow (q : Port) (b : Bool) : (q.startTransfer b).atnLow = q.atnLow := by
  unfold Port.startTransfer; split <;> [rfl; split <;> rfl]
@[simp] theorem Port.startTransfer_reset_sdo (q : Port) : (q.startTransfer true).sdo = .high := rfl

@[simp] theorem Port.endIgnored_transfer (q : Port) (b : Bool) (n : Nat) : (q.endIgnored b n).transfer = none := rfl
@[simp] theorem Port.endIgnored_phase (q : Port) (b : Bool) (n : Nat) : (q.endIgnored b n).phase = q.phase := rfl
@[simp] theorem Port.endIgnored_response (q : Port) (b : Bool) (n : Nat) : (q.endIgnored b n).response = q.response := rfl
@[simp] theorem Port.endIgnored_busyDiscard (q : Port) (b : Bool) (n : Nat) :
    (q.endIgnored b n).busyDiscard = q.busyDiscard := rfl
@[simp] theorem Port.endIgnored_atnLow (q : Port) (b : Bool) (n : Nat) : (q.endIgnored b n).atnLow = q.atnLow := rfl
@[simp] theorem Port.endIgnored_reset_sdo (q : Port) (n : Nat) : (q.endIgnored true n).sdo = .high := rfl

@[simp] theorem Port.receive_transfer (q : Port) (bytes : List Byte) : (q.receive bytes).transfer = none := rfl
@[simp] theorem Port.receive_phase (q : Port) (bytes : List Byte) : (q.receive bytes).phase = q.phase := rfl
@[simp] theorem Port.receive_response (q : Port) (bytes : List Byte) : (q.receive bytes).response = q.response := rfl
@[simp] theorem Port.receive_busyDiscard (q : Port) (bytes : List Byte) :
    (q.receive bytes).busyDiscard = q.busyDiscard := rfl
@[simp] theorem Port.receive_atnLow (q : Port) (bytes : List Byte) : (q.receive bytes).atnLow = q.atnLow := rfl

/-! ### The wait for an awaited response -/

@[simp] theorem Link.responseWritten_responseWait (l : Link) (a : Nat) :
    (l.responseWritten a).responseWait = if a ∈ l.responseWait then [] else l.responseWait := rfl
@[simp] theorem Link.responseWritten_roster (l : Link) (a : Nat) : (l.responseWritten a).roster = l.roster := rfl
@[simp] theorem Link.responseWritten_exchange (l : Link) (a : Nat) : (l.responseWritten a).exchange = l.exchange := rfl
@[simp] theorem Link.responseWritten_enabled (l : Link) (a : Nat) : (l.responseWritten a).enabled = l.enabled := rfl
@[simp] theorem Link.responseWritten_pollWait (l : Link) (a : Nat) : (l.responseWritten a).pollWait = l.pollWait := rfl
@[simp] theorem Link.responseWritten_cycleCount (l : Link) (a : Nat) : (l.responseWritten a).cycleCount = l.cycleCount := rfl
@[simp] theorem Link.responseWritten_cyclePosition (l : Link) (a : Nat) :
    (l.responseWritten a).cyclePosition = l.cyclePosition := rfl

@[simp] theorem State.waitForResponse_cycleCount (s : State) (c : Nat) (p : Option Nat) :
    (s.waitForResponse c p).link.cycleCount = c := rfl
@[simp] theorem State.waitForResponse_cyclePosition (s : State) (c : Nat) (p : Option Nat) :
    (s.waitForResponse c p).link.cyclePosition = p := rfl
@[simp] theorem State.waitForResponse_roster (s : State) (c : Nat) (p : Option Nat) :
    (s.waitForResponse c p).link.roster = s.link.roster := rfl
@[simp] theorem State.waitForResponse_exchange (s : State) (c : Nat) (p : Option Nat) :
    (s.waitForResponse c p).link.exchange = s.link.exchange := rfl
@[simp] theorem State.waitForResponse_decoder (s : State) (c : Nat) (p : Option Nat) :
    (s.waitForResponse c p).decoder = s.decoder := rfl
@[simp] theorem State.waitForResponse_requesters (s : State) (c : Nat) (p : Option Nat) :
    (s.waitForResponse c p).requesters = s.requesters := rfl
@[simp] theorem State.waitForResponse_notices (s : State) (c : Nat) (p : Option Nat) :
    (s.waitForResponse c p).notices = s.notices := rfl

/-- A wait for a response is kept for the nodes above the position, and for those of them alone whose response is awaited (R142). -/
theorem State.mem_responseWait_waitForResponse (s : State) (c : Nat) (p : Option Nat) (a : Nat) :
    a ∈ (s.waitForResponse c p).link.responseWait ↔
      (∃ n ∈ nodesAbove s.link.roster p, n.address = a) ∧ s.awaitsResponse a = true := by
  constructor
  · intro h
    obtain ⟨n, hn, rfl⟩ := List.mem_map.1 h
    exact ⟨⟨n, (List.mem_filter.1 hn).1, rfl⟩, (List.mem_filter.1 hn).2⟩
  · rintro ⟨⟨n, hn, rfl⟩, ha⟩
    exact List.mem_map.2 ⟨n, List.mem_filter.2 ⟨hn, ha⟩, rfl⟩

end Sys2Proof.Machine
end

