-- ==== Sys2Proof/Laws/Claims.lean ====
section
/-! SUPPORT. What the shared operations on claim records can change, said once: each of them keeps ClaimFrame, so a frame over a command
made of them follows without unfolding one. -/

namespace Sys2Proof.Machine

/-- The fields of an entry that no operation on claim records writes. -/
def Entry.fixed (en : Entry) : Tag × Nat × Nat × List Byte := (en.tag, en.shareLimit, en.holdLimit, en.note)

/-- The fields of a requester record that no operation on claim records writes. -/
def Requester.fixed (q : Requester) : (Origin × Byte × Nat) × Nat × Nat × Option Nat :=
  ((q.origin, q.localId, q.priority), q.budget, q.tenure, q.tenureLeft)

/-- The state without what operations on claim records write. -/
def State.outside (s : State) : State :=
  { s with
    slots := State.reset.slots, dir := [], freeRecords := 0, requesters := State.reset.requesters, notices := []
    noticeSerial := 0 }

/-- From s to t nothing happened but grants, placements, removals, notices and freed slots: what is outside the claim table, the
requester records and the notice queues is the same; an entry live in t was live in s under its generation with the same tag,
limits and note bytes; the same requesters are open with the same fixed fields; notices were only appended. -/
structure ClaimFrame (s t : State) : Prop where
  outside : t.outside = s.outside
  entries : ∀ e en', t.entry e = some en' → t.generation e = s.generation e ∧
    ∃ en, s.entry e = some en ∧ en'.fixed = en.fixed
  requesters : ∀ r, (t.req r).map Requester.fixed = (s.req r).map Requester.fixed
  notices : ∃ new, t.notices = s.notices ++ new

theorem ClaimFrame.refl (s : State) : ClaimFrame s s :=
  ⟨rfl, fun _ en h => ⟨rfl, en, h, rfl⟩, fun _ => rfl, [], by simp⟩

theorem ClaimFrame.trans {s t u : State} (h : ClaimFrame s t) (g : ClaimFrame t u) : ClaimFrame s u := by
  refine ⟨g.outside.trans h.outside, ?_, fun r => (g.requesters r).trans (h.requesters r), ?_⟩
  · intro e en'' hu
    obtain ⟨hg, en', ht, hf⟩ := g.entries e en'' hu
    obtain ⟨hg', en, hs, hf'⟩ := h.entries e en' ht
    exact ⟨hg.trans hg', en, hs, hf.trans hf'⟩
  · obtain ⟨n, hn⟩ := h.notices
    obtain ⟨m, hm⟩ := g.notices
    exact ⟨n ++ m, by rw [hm, hn, List.append_assoc]⟩

/-- What a frame leaves of the fields outside. -/
theorem ClaimFrame.link {s t : State} (h : ClaimFrame s t) : t.link = s.link := by
  have := congrArg State.link h.outside
  exact this

theorem ClaimFrame.portA {s t : State} (h : ClaimFrame s t) : t.portA = s.portA := by
  have := congrArg State.portA h.outside
  exact this

theorem ClaimFrame.portB {s t : State} (h : ClaimFrame s t) : t.portB = s.portB := by
  have := congrArg State.portB h.outside
  exact this

theorem ClaimFrame.decoder {s t : State} (h : ClaimFrame s t) : t.decoder = s.decoder := by
  have := congrArg State.decoder h.outside
  exact this

theorem ClaimFrame.details {s t : State} (h : ClaimFrame s t) : t.details = s.details := by
  have := congrArg State.details h.outside
  exact this

theorem ClaimFrame.routes {s t : State} (h : ClaimFrame s t) : t.routes = s.routes := by
  have := congrArg State.routes h.outside
  exact this

theorem ClaimFrame.eventsA {s t : State} (h : ClaimFrame s t) : t.eventsA = s.eventsA := by
  have := congrArg State.eventsA h.outside
  exact this

theorem ClaimFrame.eventsB {s t : State} (h : ClaimFrame s t) : t.eventsB = s.eventsB := by
  have := congrArg State.eventsB h.outside
  exact this

theorem ClaimFrame.poolThreshold {s t : State} (h : ClaimFrame s t) : t.poolThreshold = s.poolThreshold := by
  have := congrArg State.poolThreshold h.outside
  exact this

theorem ClaimFrame.poolState {s t : State} (h : ClaimFrame s t) : t.poolState = s.poolState := by
  have := congrArg State.poolState h.outside
  exact this

/-! ### The single operations -/

theorem ClaimFrame.modifyEntry (s : State) (e : EntrySlot) (f : Entry → Entry) (hf : ∀ en, (f en).fixed = en.fixed) :
    ClaimFrame s (s.modifyEntry e f) := by
  refine ⟨?_, ?_, fun r => by simp, [], by simp⟩
  · unfold State.modifyEntry; split <;> rfl
  · intro e' en' h
    refine ⟨by simp, ?_⟩
    rw [State.entry_modifyEntry] at h
    split at h
    · next he =>
      subst he
      cases hs : s.entry e with
      | none => simp [hs] at h
      | some en => exact ⟨en, rfl, by simp [hs] at h; rw [← h, hf]⟩
    · exact ⟨en', h, rfl⟩

theorem ClaimFrame.modifyReq (s : State) (r : ReqSlot) (f : Requester → Requester) (hf : ∀ q, (f q).fixed = q.fixed) :
    ClaimFrame s (s.modifyReq r f) := by
  refine ⟨?_, fun e en' h => ⟨by simp, en', by simpa using h, rfl⟩, ?_, [], by simp⟩
  · unfold State.modifyReq; split <;> rfl
  · intro r'
    rw [State.req_modifyReq]
    split
    · next hr => subst hr; cases s.req r <;> simp [hf]
    · rfl

theorem ClaimFrame.addCounts (s : State) (r : ReqSlot) (h w : Nat) : ClaimFrame s (s.addCounts r h w) :=
  .modifyReq s r _ fun _ => rfl

theorem ClaimFrame.subCounts (s : State) (r : ReqSlot) (h w : Nat) : ClaimFrame s (s.subCounts r h w) :=
  .modifyReq s r _ fun _ => rfl

theorem ClaimFrame.freeRecords (s : State) (n : Nat) : ClaimFrame s { s with freeRecords := n } :=
  ⟨rfl, fun _ en h => ⟨rfl, en, h, rfl⟩, fun _ => rfl, [], by simp⟩

theorem ClaimFrame.freeSlot (s : State) (e : EntrySlot) : ClaimFrame s (s.freeSlot e) := by
  refine ⟨rfl, ?_, fun r => by simp, [], by simp⟩
  intro e' en' h
  rw [State.entry_freeSlot] at h
  split at h
  · cases h
  · next he => exact ⟨by simp [he], en', h, rfl⟩

theorem ClaimFrame.queueNotice (s : State) (r : ReqSlot) (e : EntrySlot) (body : NoticeBody) :
    ClaimFrame s (s.queueNotice r e body) := by
  unfold State.queueNotice
  split
  · exact .refl s
  · next q hq =>
    split
    · exact ⟨rfl, fun _ en h => ⟨rfl, en, h, rfl⟩, fun _ => rfl, _, rfl⟩
    · refine ⟨rfl, fun e en h => ⟨by simp, en, by simpa using h, rfl⟩, ?_, [], by simp⟩
      intro r'
      rw [State.req_setReq]
      split
      · next hr => subst hr; rw [hq]; rfl
      · rfl

theorem ClaimFrame.noticeUnless (s : State) (quiet : Bool) (r : ReqSlot) (e : EntrySlot) (body : NoticeBody) :
    ClaimFrame s (s.noticeUnless quiet r e body) := by
  unfold State.noticeUnless
  split
  · exact .refl s
  · exact .queueNotice s r e body

theorem ClaimFrame.recompute (s : State) (e : EntrySlot) : ClaimFrame s (s.recompute e) := by
  unfold State.recompute
  split
  · exact .refl s
  · next en he =>
    split
    · split
      · exact .freeSlot s e
      · exact .refl s
    · have : s.setEntry e { en with state := en.derivedState } =
          s.modifyEntry e fun en => { en with state := en.derivedState } := by
        simp [State.modifyEntry, he]
      rw [this]
      exact .modifyEntry s e _ fun _ => rfl

/-- A frame is kept along a list of operations that each keep it. -/
theorem ClaimFrame.foldl {α : Type} (f : State → α → State) (h : ∀ s a, ClaimFrame s (f s a)) (l : List α) (s : State) :
    ClaimFrame s (l.foldl f s) := by
  induction l generalizing s with
  | nil => exact .refl s
  | cons a l ih => exact (h s a).trans (ih (f s a))

theorem ClaimFrame.recomputeAll (s : State) (es : List EntrySlot) : ClaimFrame s (s.recomputeAll es) :=
  .foldl _ .recompute es s

/-! ### Taking, granting and removing claim records -/

theorem ClaimFrame.grantNow (s : State) (r : ReqSlot) (e : EntrySlot) (m : Mode) (id : Option Word16) :
    ClaimFrame s (s.grantNow r e m id) := by
  unfold State.grantNow
  refine .trans ?_ (.recompute _ _)
  refine .trans ?_ (.addCounts _ _ _ _)
  refine .trans ?_ (.freeRecords _ _)
  exact .modifyEntry s e _ fun _ => rfl

theorem ClaimFrame.enqueue (s : State) (e : EntrySlot) (c : Claim) : ClaimFrame s (s.enqueue e c) :=
  .modifyEntry s e _ fun _ => rfl

theorem ClaimFrame.place (s : State) (e : EntrySlot) (c : Claim) : ClaimFrame s (s.place e c) := by
  unfold State.place
  refine .trans ?_ (.recompute _ _)
  refine .trans ?_ (.addCounts _ _ _ _)
  refine .trans ?_ (.freeRecords _ _)
  exact .enqueue s e c

theorem ClaimFrame.dropHold (s : State) (r : ReqSlot) (e : EntrySlot) (stale : Bool) : ClaimFrame s (s.dropHold r e stale) := by
  unfold State.dropHold
  refine .trans ?_ (.subCounts _ _ _ _)
  refine .trans ?_ (.freeRecords _ _)
  exact .modifyEntry s e _ fun _ => rfl

theorem ClaimFrame.dropWait (s : State) (r : ReqSlot) (e : EntrySlot) : ClaimFrame s (s.dropWait r e) := by
  unfold State.dropWait
  refine .trans ?_ (.subCounts _ _ _ _)
  refine .trans ?_ (.freeRecords _ _)
  exact .modifyEntry s e _ fun _ => rfl

theorem ClaimFrame.dropSet (s : State) (r : ReqSlot) (id : Word16) : ClaimFrame s (s.dropSet r id) := by
  unfold State.dropSet
  refine .trans ?_ (.subCounts _ _ _ _)
  refine .trans ?_ (.freeRecords _ _)
  refine .foldl _ (fun s e => ?_) _ s
  exact .modifyEntry s e _ fun _ => rfl

theorem ClaimFrame.strip (s : State) (r : ReqSlot) (stale : Bool) (e : EntrySlot) : ClaimFrame s (s.strip r stale e) :=
  .modifyEntry s e _ fun _ => rfl

theorem ClaimFrame.stripAll (s : State) (r : ReqSlot) (stale : Bool) : ClaimFrame s (s.stripAll r stale) := by
  unfold State.stripAll
  refine .trans ?_ (.recomputeAll _ _)
  refine .trans ?_ (.subCounts _ _ _ _)
  refine .trans ?_ (.freeRecords _ _)
  exact .foldl _ (fun s e => .strip s r stale e) _ s

/-! ### Admission passes -/

theorem ClaimFrame.grantHead (s : State) (q : Quiet) (e : EntrySlot) (c : Claim) : ClaimFrame s (s.grantHead q e c) := by
  unfold State.grantHead
  refine .trans ?_ (.noticeUnless _ _ _ _ _)
  refine .trans ?_ (.addCounts _ _ _ _)
  refine .trans ?_ (.subCounts _ _ _ _)
  exact .modifyEntry s e _ fun _ => rfl

theorem ClaimFrame.grantMember (s : State) (r : ReqSlot) (id : Word16) (e : EntrySlot) : ClaimFrame s (s.grantMember r id e) := by
  refine .modifyEntry s e _ fun en => ?_
  split <;> rfl

theorem ClaimFrame.grantSet (s : State) (q : Quiet) (r : ReqSlot) (id : Word16) : ClaimFrame s (s.grantSet q r id) := by
  have h := (((ClaimFrame.foldl _ (fun s e => .grantMember s r id e) (s.setMembers r id) s).trans
    (.subCounts _ r 0 (s.setMembers r id).length)).trans
    (.addCounts _ r (s.setMembers r id).length 0)).trans (.recomputeAll _ (s.setMembers r id))
  unfold State.grantSet
  dsimp only
  split
  · exact h.trans (.noticeUnless _ _ _ _ _)
  · exact h

theorem ClaimFrame.passTurns (q : Quiet) (e : EntrySlot) (n : Nat) (s : State) (list : List EntrySlot) :
    ClaimFrame s (passTurns q e n s list).1 := by
  induction n generalizing s list with
  | zero => exact .refl s
  | succ n ih =>
    unfold Machine.passTurns
    split
    · exact .refl s
    · split
      · exact .refl s
      · split
        · split
          · dsimp only
            split
            · exact .grantHead s q e _
            · exact (ClaimFrame.grantHead s q e _).trans (ih _ _)
          · exact .refl s
        · split
          · dsimp only
            split
            · exact .grantSet s q _ _
            · exact (ClaimFrame.grantSet s q _ _).trans (ih _ _)
          · exact .refl s

theorem ClaimFrame.pass (s : State) (q : Quiet) (e : EntrySlot) (list : List EntrySlot) : ClaimFrame s (s.pass q e list).1 :=
  (ClaimFrame.passTurns q e _ s list).trans (.recompute _ e)

theorem ClaimFrame.runPassList (q : Quiet) (n : Nat) (s : State) (list : List EntrySlot) :
    ClaimFrame s (runPassList q n s list) := by
  induction n generalizing s list with
  | zero => exact .refl s
  | succ n ih =>
    cases list with
    | nil => exact .refl s
    | cons e rest =>
      unfold Machine.runPassList
      split
      · exact ih _ _
      · exact (ClaimFrame.pass s q e rest).trans (ih _ _)

/-- The admission passes of an event keep the frame (R34 to R38, R58 to R61). -/
theorem ClaimFrame.runPasses (s : State) (q : Quiet) (list : List EntrySlot) : ClaimFrame s (s.runPasses q list) :=
  .runPassList q _ s list

theorem ClaimFrame.reclaim (s : State) (r : ReqSlot) (stale : Bool) : ClaimFrame s (s.reclaim r stale) :=
  (ClaimFrame.stripAll s r stale).trans (.runPasses _ _ _)

theorem ClaimFrame.endSet (s : State) (r : ReqSlot) (id : Word16) (notify : State → State)
    (hn : ∀ s, ClaimFrame s (notify s)) : ClaimFrame s (s.endSet r id notify) := by
  unfold State.endSet
  refine .trans ?_ (.runPasses _ _ _)
  refine .trans ?_ (.recomputeAll _ _)
  exact (ClaimFrame.dropSet s r id).trans (hn _)

/-! ### Retiring an entry -/

theorem ClaimFrame.cancelWait (e : EntrySlot) (acc : State × List EntrySlot) (c : Claim) :
    ClaimFrame acc.1 (cancelWait e acc c).1 := by
  unfold Machine.cancelWait
  dsimp only
  split
  · exact (ClaimFrame.dropWait _ _ _).trans (.queueNotice _ _ _ _)
  · exact ((ClaimFrame.dropSet _ _ _).trans (.queueNotice _ _ _ _)).trans (.recomputeAll _ _)

theorem ClaimFrame.cancelWaits (s : State) (e : EntrySlot) (en : Entry) : ClaimFrame s (s.cancelWaits e en).1 := by
  have : ∀ (l : List Claim) (acc : State × List EntrySlot), ClaimFrame acc.1 (l.foldl (Machine.cancelWait e) acc).1 := by
    intro l
    induction l with
    | nil => exact fun acc => .refl acc.1
    | cons c l ih => exact fun acc => (ClaimFrame.cancelWait e acc c).trans (ih _)
  exact this en.queue (s, [])

theorem ClaimFrame.revokeHolds (s : State) (e : EntrySlot) (en : Entry) : ClaimFrame s (s.revokeHolds e en) := by
  refine .foldl _ (fun s c => ?_) en.holders s
  exact (ClaimFrame.dropHold s c.requester e true).trans (.queueNotice _ _ _ _)

theorem ClaimFrame.retireSteps (s : State) (e : EntrySlot) (en : Entry) (force : Bool) :
    ClaimFrame s (s.retireSteps e en force).1.1 := by
  have hf : ClaimFrame s (s.forceRetire e en).1 :=
    ((ClaimFrame.cancelWaits s e en).trans (.revokeHolds _ e en)).trans (.freeSlot _ e)
  have hd : ClaimFrame s (s.drainRetire e en).1 := by
    unfold State.drainRetire
    exact (ClaimFrame.cancelWaits s e en).trans (.modifyEntry _ e _ fun _ => rfl)
  unfold State.retireSteps
  split
  · exact .freeSlot s e
  · exact (ClaimFrame.cancelWaits s e en).trans (.freeSlot _ e)
  · split
    · exact hf
    · exact hd
  · split
    · exact hf
    · exact hd
  · split
    · exact hf
    · exact .refl s

/-! ### Evictions -/

/-- What no eviction changes (R104): the decoder, the ports, the link, the routes and the settings. -/
structure EvictFrame (s t : State) : Prop where
  decoder : t.decoder = s.decoder
  link : t.link = s.link
  portA : t.portA = s.portA
  portB : t.portB = s.portB
  routes : t.routes = s.routes
  settings : (t.adminB, t.divider, t.clkCount, t.poolThreshold, t.poolState, t.inReset, t.pending, t.setIdCounter) =
    (s.adminB, s.divider, s.clkCount, s.poolThreshold, s.poolState, s.inReset, s.pending, s.setIdCounter)

theorem EvictFrame.refl (s : State) : EvictFrame s s := ⟨rfl, rfl, rfl, rfl, rfl, rfl⟩

theorem EvictFrame.trans {s t u : State} (h : EvictFrame s t) (g : EvictFrame t u) : EvictFrame s u :=
  ⟨g.decoder.trans h.decoder, g.link.trans h.link, g.portA.trans h.portA, g.portB.trans h.portB, g.routes.trans h.routes,
    g.settings.trans h.settings⟩

theorem ClaimFrame.toEvictFrame {s t : State} (h : ClaimFrame s t) : EvictFrame s t := by
  refine ⟨h.decoder, h.link, h.portA, h.portB, h.routes, ?_⟩
  have e := h.outside
  simp only [State.outside, State.mk.injEq] at e
  simp only [e]

theorem EvictFrame.discardNotices (s : State) (r : ReqSlot) : EvictFrame s (s.discardNotices r) := by
  unfold State.discardNotices State.modifyReq
  split <;> exact ⟨rfl, rfl, rfl, rfl, rfl, rfl⟩

theorem EvictFrame.freeAndRaise (s : State) (r : ReqSlot) (d : Detail) : EvictFrame s ((s.setReq r none).raise d) :=
  ⟨rfl, rfl, rfl, rfl, rfl, rfl⟩

theorem EvictFrame.evict (s : State) (r : ReqSlot) (cause : Cause) : EvictFrame s (s.evict r cause) := by
  unfold State.evict
  split
  · exact .refl s
  · have h := (ClaimFrame.reclaim s r true).toEvictFrame.trans (.discardNotices _ r)
    exact h.trans (.freeAndRaise _ r _)

theorem EvictFrame.evictAll (s : State) (rs : List ReqSlot) (cause : Cause) : EvictFrame s (s.evictAll rs cause) := by
  unfold State.evictAll
  induction rs generalizing s with
  | nil => exact .refl s
  | cons r rs ih => exact (EvictFrame.evict s r cause).trans (ih _)

end Sys2Proof.Machine
end

