-- ==== Sys2Proof/Laws/Decoder.lean ====
section
/-! SUPPORT. What the taking of a command does, said once: the lemmas from which a statement about one command follows when its effect is
known. -/

namespace Sys2Proof.Machine

/-! ### The attention condition and STAT read nothing of the ports -/

theorem State.attention_congr {s t : State} (hr : t.requesters = s.requesters) (hn : t.notices = s.notices)
    (ha : t.eventsA = s.eventsA) (hb : t.eventsB = s.eventsB) (p : PortId) : t.attention p = s.attention p := by
  cases p <;>
    simp [State.attention, State.attentionSet, State.reqsOf, State.noticeQueue, State.events, State.req, hr, hn, ha, hb]

@[simp] theorem State.attention_setPort (s : State) (p p' : PortId) (q : Port) :
    (s.setPort p q).attention p' = s.attention p' :=
  State.attention_congr (by simp) (by simp) (by simp) (by simp) p'

@[simp] theorem State.attention_settleAttention (s : State) (p : PortId) : s.settleAttention.attention p = s.attention p :=
  State.attention_congr rfl rfl rfl rfl p

@[simp] theorem State.attention_storeResponse (s : State) (a q : Nat) (x : Answer) (p : PortId) :
    (s.storeResponse a q x).attention p = s.attention p :=
  State.attention_congr rfl rfl rfl rfl p

@[simp] theorem State.admin_setPort (s : State) (p : PortId) (q : Port) (o : Origin) :
    (s.setPort p q).admin o = s.admin o := by
  cases p <;> cases o <;> rfl

@[simp] theorem State.admin_settleAttention (s : State) (o : Origin) : s.settleAttention.admin o = s.admin o := by
  cases o <;> rfl

/-! ### The report of the pool changes only POOL_LOW -/

/-- The report of the pool keeps every field but the pending sets, the details and the re-arming state (R129). -/
theorem State.reportPool_frame (s : State) (before : Nat) :
    s.reportPool before = { s with
      details := (s.reportPool before).details
      eventsA := (s.reportPool before).eventsA
      eventsB := (s.reportPool before).eventsB
      poolState := (s.reportPool before).poolState } := by
  unfold State.reportPool
  split
  · rfl
  · split
    · split <;> rfl
    · rfl

@[simp] theorem State.reportPool_decoder (s : State) (n : Nat) : (s.reportPool n).decoder = s.decoder := by
  rw [s.reportPool_frame n]

@[simp] theorem State.reportPool_portA (s : State) (n : Nat) : (s.reportPool n).portA = s.portA := by
  rw [s.reportPool_frame n]

@[simp] theorem State.reportPool_portB (s : State) (n : Nat) : (s.reportPool n).portB = s.portB := by
  rw [s.reportPool_frame n]

@[simp] theorem State.reportPool_link (s : State) (n : Nat) : (s.reportPool n).link = s.link := by
  rw [s.reportPool_frame n]

@[simp] theorem State.reportPool_requesters (s : State) (n : Nat) : (s.reportPool n).requesters = s.requesters := by
  rw [s.reportPool_frame n]

@[simp] theorem State.reportPool_slots (s : State) (n : Nat) : (s.reportPool n).slots = s.slots := by
  rw [s.reportPool_frame n]

@[simp] theorem State.reportPool_notices (s : State) (n : Nat) : (s.reportPool n).notices = s.notices := by
  rw [s.reportPool_frame n]

@[simp] theorem State.reportPool_same (s : State) : s.reportPool s.freeRecords = s := by
  simp [State.reportPool]

/-- A change of the decoder, the ports and the link is no matter to the report of the pool. -/
theorem State.reportPool_with (u : State) (d : List Handed) (a b : Port) (l : Link) (n : Nat) :
    State.reportPool { u with decoder := d, portA := a, portB := b, link := l } n =
      { u.reportPool n with decoder := d, portA := a, portB := b, link := l } := by
  unfold State.reportPool
  split
  · rfl
  · simp only
    split
    · split <;> rfl
    · rfl

/-! ### A command that stands at the decoder -/

/-- The command that stands is of the origin, local id, code and payload it is asked for. -/
theorem State.stands_fields {s : State} {o : Origin} {rid code : Byte} {payload : List Byte} {h : Handed}
    (hs : s.stands o rid code payload = some h) :
    h.origin = o ∧ h.localId = rid ∧ h.code = code ∧ h.payload = payload := by
  unfold State.stands at hs
  split at hs
  · cases hs
  · next x hx =>
    split at hs
    · next hc =>
      cases hs
      have := List.find?_some hx
      exact ⟨by simpa using this, hc⟩
    · cases hs

/-- The STAT byte reads the port's BUSY_DISCARD, its attention condition and its right. -/
theorem State.stat_congr {s t : State} (p : PortId) (hp : (t.port p).busyDiscard = (s.port p).busyDiscard)
    (ha : t.attention p = s.attention p) (hr : t.admin p.origin = s.admin p.origin) : t.stat p = s.stat p := by
  simp [State.stat, hp, ha, hr]

/-- A response changes no attention condition. -/
theorem State.attention_respond (v : State) (h : Handed) (a : Answer) (p : PortId) : (v.respond h a).attention p = v.attention p := by
  unfold State.respond
  split
  · exact State.attention_setPort ..
  · exact State.attention_setPort ..
  · split
    · rfl
    · exact State.attention_storeResponse ..

/-- The response to a taken command, after which the ATN lines settle (R123, R146, R155). -/
theorem responded_of_respond {u v : State} {h : Handed} {a : Answer}
    (hd : v.decoder = u.decoder.eraseP fun x => x.origin = h.origin)
    (ha : v.portA = u.portA) (hb : v.portB = u.portB) (hl : v.link = u.link) :
    Responded u (v.respond h a).settleAttention h a ∧ SameBut v (v.respond h a).settleAttention := by
  have hat : ∀ p, (v.respond h a).settleAttention.attention p = v.attention p := fun p => by
    rw [State.attention_settleAttention, State.attention_respond]
  have he : (v.respond h a).settleAttention = { v.respond h a with
      portA := { (v.respond h a).portA with atnLow := v.attention .a }
      portB := { (v.respond h a).portB with atnLow := v.attention .b } } := by
    simp only [State.settleAttention, State.attention_respond]
  obtain ⟨o, rid, code, payload, sequence, discard⟩ := h
  cases o with
  | portA =>
    have hst : (v.respond ⟨.portA, rid, code, payload, sequence, discard⟩ a).settleAttention.stat .a = v.stat .a :=
      State.stat_congr .a rfl (hat .a) rfl
    refine ⟨⟨by rw [he]; exact hd, ?_, ?_, by rw [he]; exact hl⟩, by rw [he]; rfl⟩
    · rw [hst, hat, he, ← ha]; rfl
    · rw [hat, he, ← hb]; rfl
  | portB =>
    have hst : (v.respond ⟨.portB, rid, code, payload, sequence, discard⟩ a).settleAttention.stat .b = v.stat .b :=
      State.stat_congr .b rfl (hat .b) rfl
    refine ⟨⟨by rw [he]; exact hd, ?_, ?_, by rw [he]; exact hl⟩, by rw [he]; rfl⟩
    · rw [hat, he, ← ha]; rfl
    · rw [hst, hat, he, ← hb]; rfl
  | node n =>
    cases discard <;>
      refine ⟨⟨by rw [he]; exact hd, ?_, ?_, by rw [he]; simp only [← hl]; rfl⟩, by rw [he]; rfl⟩
    · rw [hat, he, ← ha]; rfl
    · rw [hat, he, ← hb]; rfl
    · rw [hat, he, ← ha]; rfl
    · rw [hat, he, ← hb]; rfl

/-- A command is answered a, and leaves u, when its effect on the state without it answers a and leaves what differs from u in the
decoder alone, where the command is gone (R154, R155). -/
theorem answers_of_effect {s u v : State} {i : Instr} {o : Origin} {rid code : Byte} {payload : List Byte} {h : Handed}
    {a : Answer} {names : Bool} {effect : Effect}
    (hi : exec i s = takeCommand o rid code payload names effect s) (hs : s.stands o rid code payload = some h)
    (he : effect (if names then (s.dropHanded o).restartTenureOf o rid else s.dropHanded o) = (v, a))
    (hv : v = { u with decoder := u.decoder.eraseP fun x => x.origin = o }) :
    Answers i s (u.reportPool s.freeRecords) h a := by
  have ho := (State.stands_fields hs).1
  have hv' : v.reportPool s.freeRecords = { u.reportPool s.freeRecords with
      decoder := u.decoder.eraseP fun x => x.origin = o } := by
    rw [hv]
    exact (State.reportPool_with u _ u.portA u.portB u.link s.freeRecords).trans (by
      rw [State.reportPool_frame u]; )
  obtain ⟨h1, h2⟩ := responded_of_respond (u := u.reportPool s.freeRecords) (v := v.reportPool s.freeRecords) (h := h) (a := a)
    (by rw [hv', ho]; simp) (by rw [hv']) (by rw [hv']) (by rw [hv'])
  refine ⟨_, ?_, h1, ?_⟩
  · rw [hi]
    simp only [takeCommand, hs, he]
  · refine h2.trans ?_
    rw [hv']

/-- A command without effect on the free records leaves u itself. -/
theorem answers_of_effect_same {s u v : State} {i : Instr} {o : Origin} {rid code : Byte} {payload : List Byte} {h : Handed}
    {a : Answer} {names : Bool} {effect : Effect}
    (hi : exec i s = takeCommand o rid code payload names effect s) (hs : s.stands o rid code payload = some h)
    (he : effect (if names then (s.dropHanded o).restartTenureOf o rid else s.dropHanded o) = (v, a))
    (hv : v = { u with decoder := u.decoder.eraseP fun x => x.origin = o }) (hf : u.freeRecords = s.freeRecords) :
    Answers i s u h a := by
  have := answers_of_effect hi hs he hv
  rwa [← hf, State.reportPool_same] at this

/-! ### The three kinds of commands -/

/-- The requester that an origin and a local id name is found by those two fields alone. -/
theorem State.findReq_congr {s t : State} (o : Origin) (l : Byte)
    (h : ∀ r, (t.req r).map (fun q => (q.origin, q.localId)) = (s.req r).map fun q => (q.origin, q.localId)) :
    t.findReq o l = s.findReq o l := by
  unfold State.findReq
  congr 1
  funext r
  have := h r
  cases ht : t.req r <;> cases hs : s.req r <;> simp_all

@[simp] theorem State.req_renewed (s : State) (r : ReqSlot) (q : Requester) (r' : ReqSlot) :
    (s.renewed r q).req r' = if r = r' then some q.renewed else s.req r' :=
  State.req_setReq s r (some q.renewed) r'

/-- The restart of the tenure of the requester r with the record q (R89). -/
theorem State.restartTenureOf_eq {s : State} {o : Origin} {rid : Byte} {r : ReqSlot} {q : Requester}
    (hf : s.findReq o rid = some r) (hq : s.req r = some q) : s.restartTenureOf o rid = s.renewed r q := by
  simp only [State.restartTenureOf, hf, State.restartTenure, State.modifyReq, hq]
  rfl

theorem State.findReq_renewed {s : State} {r : ReqSlot} {q : Requester} (hq : s.req r = some q) (o : Origin) (l : Byte) :
    (s.renewed r q).findReq o l = s.findReq o l := by
  apply State.findReq_congr
  intro r'
  rw [State.req_renewed]
  split
  · next h => subst h; simp [hq, Requester.renewed]
  · rfl

/-- A requester command whose requester is open and whose payload suits it: what its effect answers and leaves on the state with the
tenure restarted (R89, R156). -/
theorem answers_requester {s u v : State} {i : Instr} {o : Origin} {rid code : Byte} {payload refused : List Byte} {h : Handed}
    {a : Answer} {r : ReqSlot} {q : Requester} {α : Type} {f : α} {fields : Option α} {effect : ReqSlot → α → Effect}
    (hA : Asked s o rid code payload h r q)
    (hi : exec i s = takeCommand o rid code payload true (requesterEffect o rid fields refused effect) s)
    (hf : fields = some f)
    (he : effect r f { s.renewed r q with decoder := s.decoder.eraseP fun x => x.origin = o } = (v, a))
    (hv : v = { u with decoder := u.decoder.eraseP fun x => x.origin = o }) :
    Answers i s (u.reportPool s.freeRecords) h a := by
  refine answers_of_effect hi hA.1 (v := v) ?_ hv
  have hb : (s.dropHanded o).restartTenureOf o rid =
      { s.renewed r q with decoder := s.decoder.eraseP fun x => x.origin = o } :=
    State.restartTenureOf_eq (s := s.dropHanded o) hA.2.1 hA.2.2
  have hr : ({ s.renewed r q with decoder := s.decoder.eraseP fun x => x.origin = o } : State).findReq o rid = some r :=
    (State.findReq_renewed hA.2.2 o rid).trans hA.2.1
  rw [if_pos rfl, hb]
  simp only [requesterEffect, hf, hr, he]

/-- A command without a requester that needs no right and whose payload suits it. -/
theorem answers_plain {s u v : State} {i : Instr} {o : Origin} {rid code : Byte} {payload : List Byte} {h : Handed}
    {a : Answer} {α : Type} {f : α} {fields : Option α} {effect : α → Effect}
    (hs : s.stands o rid code payload = some h)
    (hi : exec i s = takeCommand o rid code payload false (plainEffect fields effect) s)
    (hf : fields = some f) (he : effect f (s.dropHanded o) = (v, a))
    (hv : v = { u with decoder := u.decoder.eraseP fun x => x.origin = o }) :
    Answers i s (u.reportPool s.freeRecords) h a := by
  refine answers_of_effect hi hs (v := v) ?_ hv
  simp [plainEffect, hf, he]

/-- A command that requires ADMIN, from an origin that holds it, whose payload suits it (R95). -/
theorem answers_admin {s u v : State} {i : Instr} {o : Origin} {rid code : Byte} {payload : List Byte} {h : Handed}
    {a : Answer} {α : Type} {f : α} {fields : Option α} {effect : α → Effect}
    (hs : s.stands o rid code payload = some h) (hr : s.admin o = true)
    (hi : exec i s = takeCommand o rid code payload false (adminEffect o fields effect) s)
    (hf : fields = some f) (he : effect f (s.dropHanded o) = (v, a))
    (hv : v = { u with decoder := u.decoder.eraseP fun x => x.origin = o }) :
    Answers i s (u.reportPool s.freeRecords) h a := by
  refine answers_of_effect hi hs (v := v) ?_ hv
  have : (s.dropHanded o).admin o = true := by cases o <;> exact hr
  simp [adminEffect, hf, he, this]

end Sys2Proof.Machine
end

