-- ==== Sys2Proof/Laws/PerInstr.lean ====
section
/-! SUPPORT. The per-instruction family CommandDecoding: what the decoder makes of the fields of a row. -/

namespace Sys2Proof.Laws.CommandDecoding

/-- The fields of a well-formed command row, and of no event row, decode back to the row. -/
def Statement (i : Instr) : Prop :=
  i.wellFormed = true →
    ∀ o rid code payload, i.fields = some (o, rid, code, payload) → decodeCommand o rid code payload = i

/-- A code that names a command decodes to the row of the command table that carries it. -/
theorem decodeCommand_of_row {o : Origin} {code : Byte} {row : Byte × (Origin → Byte → List Byte → Instr)}
    (hc : isCommandCode o code = true) (hr : commandTable.find? (fun x => x.1 == code) = some row)
    (rid : Byte) (payload : List Byte) : decodeCommand o rid code payload = row.2 o rid payload := by
  simp [decodeCommand, hc, hr]

/-- A code that names no command decodes to the row UNKNOWN_COMMAND. -/
theorem decodeCommand_of_unknown {o : Origin} {code : Byte} (hc : isCommandCode o code = false) (rid : Byte)
    (payload : List Byte) : decodeCommand o rid code payload = .unknownCommand o rid code payload := by
  simp [decodeCommand, hc]

theorem openRequester (o : Origin) (rid : Byte) (p : List Byte) : Statement (.openRequester o rid p) := by
  rintro - o' rid' code' p' ⟨rfl, rfl, rfl, rfl⟩
  exact decodeCommand_of_row (row := (0x10#8, .openRequester)) (by cases o <;> rfl) rfl rid p

theorem closeRequester (o : Origin) (rid : Byte) (p : List Byte) : Statement (.closeRequester o rid p) := by
  rintro - o' rid' code' p' ⟨rfl, rfl, rfl, rfl⟩
  exact decodeCommand_of_row (row := (0x11#8, .closeRequester)) (by cases o <;> rfl) rfl rid p

theorem renew (o : Origin) (rid : Byte) (p : List Byte) : Statement (.renew o rid p) := by
  rintro - o' rid' code' p' ⟨rfl, rfl, rfl, rfl⟩
  exact decodeCommand_of_row (row := (0x12#8, .renew)) (by cases o <;> rfl) rfl rid p

theorem setBudget (o : Origin) (rid : Byte) (p : List Byte) : Statement (.setBudget o rid p) := by
  rintro - o' rid' code' p' ⟨rfl, rfl, rfl, rfl⟩
  exact decodeCommand_of_row (row := (0x13#8, .setBudget)) (by cases o <;> rfl) rfl rid p

theorem listMine (o : Origin) (rid : Byte) (p : List Byte) : Statement (.listMine o rid p) := by
  rintro - o' rid' code' p' ⟨rfl, rfl, rfl, rfl⟩
  exact decodeCommand_of_row (row := (0x14#8, .listMine)) (by cases o <;> rfl) rfl rid p

theorem fetchNotice (o : Origin) (rid : Byte) (p : List Byte) : Statement (.fetchNotice o rid p) := by
  intro hw o' rid' code' p' h
  obtain ⟨rfl, rfl, rfl, rfl⟩ := h
  exact decodeCommand_of_row (row := (0x15#8, .fetchNotice)) (Bool.and_eq_true_iff.mp hw).2 rfl rid p

theorem define (o : Origin) (rid : Byte) (p : List Byte) : Statement (.define o rid p) := by
  rintro - o' rid' code' p' ⟨rfl, rfl, rfl, rfl⟩
  exact decodeCommand_of_row (row := (0x20#8, .define)) (by cases o <;> rfl) rfl rid p

theorem retire (o : Origin) (rid : Byte) (p : List Byte) : Statement (.retire o rid p) := by
  rintro - o' rid' code' p' ⟨rfl, rfl, rfl, rfl⟩
  exact decodeCommand_of_row (row := (0x21#8, .retire)) (by cases o <;> rfl) rfl rid p

theorem setLimits (o : Origin) (rid : Byte) (p : List Byte) : Statement (.setLimits o rid p) := by
  rintro - o' rid' code' p' ⟨rfl, rfl, rfl, rfl⟩
  exact decodeCommand_of_row (row := (0x22#8, .setLimits)) (by cases o <;> rfl) rfl rid p

theorem lookup (o : Origin) (rid : Byte) (p : List Byte) : Statement (.lookup o rid p) := by
  rintro - o' rid' code' p' ⟨rfl, rfl, rfl, rfl⟩
  exact decodeCommand_of_row (row := (0x23#8, .lookup)) (by cases o <;> rfl) rfl rid p

theorem find (o : Origin) (rid : Byte) (p : List Byte) : Statement (.find o rid p) := by
  rintro - o' rid' code' p' ⟨rfl, rfl, rfl, rfl⟩
  exact decodeCommand_of_row (row := (0x24#8, .find)) (by cases o <;> rfl) rfl rid p

theorem readEntry (o : Origin) (rid : Byte) (p : List Byte) : Statement (.readEntry o rid p) := by
  rintro - o' rid' code' p' ⟨rfl, rfl, rfl, rfl⟩
  exact decodeCommand_of_row (row := (0x25#8, .readEntry)) (by cases o <;> rfl) rfl rid p

theorem writeNote (o : Origin) (rid : Byte) (p : List Byte) : Statement (.writeNote o rid p) := by
  rintro - o' rid' code' p' ⟨rfl, rfl, rfl, rfl⟩
  exact decodeCommand_of_row (row := (0x26#8, .writeNote)) (by cases o <;> rfl) rfl rid p

theorem acquire (o : Origin) (rid : Byte) (p : List Byte) : Statement (.acquire o rid p) := by
  rintro - o' rid' code' p' ⟨rfl, rfl, rfl, rfl⟩
  exact decodeCommand_of_row (row := (0x30#8, .acquire)) (by cases o <;> rfl) rfl rid p

theorem acquireSet (o : Origin) (rid : Byte) (p : List Byte) : Statement (.acquireSet o rid p) := by
  rintro - o' rid' code' p' ⟨rfl, rfl, rfl, rfl⟩
  exact decodeCommand_of_row (row := (0x31#8, .acquireSet)) (by cases o <;> rfl) rfl rid p

theorem release (o : Origin) (rid : Byte) (p : List Byte) : Statement (.release o rid p) := by
  rintro - o' rid' code' p' ⟨rfl, rfl, rfl, rfl⟩
  exact decodeCommand_of_row (row := (0x32#8, .release)) (by cases o <;> rfl) rfl rid p

theorem releaseAll (o : Origin) (rid : Byte) (p : List Byte) : Statement (.releaseAll o rid p) := by
  rintro - o' rid' code' p' ⟨rfl, rfl, rfl, rfl⟩
  exact decodeCommand_of_row (row := (0x33#8, .releaseAll)) (by cases o <;> rfl) rfl rid p

theorem cancel (o : Origin) (rid : Byte) (p : List Byte) : Statement (.cancel o rid p) := by
  rintro - o' rid' code' p' ⟨rfl, rfl, rfl, rfl⟩
  exact decodeCommand_of_row (row := (0x34#8, .cancel)) (by cases o <;> rfl) rfl rid p

theorem upgrade (o : Origin) (rid : Byte) (p : List Byte) : Statement (.upgrade o rid p) := by
  rintro - o' rid' code' p' ⟨rfl, rfl, rfl, rfl⟩
  exact decodeCommand_of_row (row := (0x35#8, .upgrade)) (by cases o <;> rfl) rfl rid p

theorem downgrade (o : Origin) (rid : Byte) (p : List Byte) : Statement (.downgrade o rid p) := by
  rintro - o' rid' code' p' ⟨rfl, rfl, rfl, rfl⟩
  exact decodeCommand_of_row (row := (0x36#8, .downgrade)) (by cases o <;> rfl) rfl rid p

theorem evict (o : Origin) (rid : Byte) (p : List Byte) : Statement (.evict o rid p) := by
  rintro - o' rid' code' p' ⟨rfl, rfl, rfl, rfl⟩
  exact decodeCommand_of_row (row := (0x40#8, .evict)) (by cases o <;> rfl) rfl rid p

theorem purgeOrigin (o : Origin) (rid : Byte) (p : List Byte) : Statement (.purgeOrigin o rid p) := by
  rintro - o' rid' code' p' ⟨rfl, rfl, rfl, rfl⟩
  exact decodeCommand_of_row (row := (0x41#8, .purgeOrigin)) (by cases o <;> rfl) rfl rid p

theorem setPortRights (o : Origin) (rid : Byte) (p : List Byte) : Statement (.setPortRights o rid p) := by
  rintro - o' rid' code' p' ⟨rfl, rfl, rfl, rfl⟩
  exact decodeCommand_of_row (row := (0x42#8, .setPortRights)) (by cases o <;> rfl) rfl rid p

theorem setTimebase (o : Origin) (rid : Byte) (p : List Byte) : Statement (.setTimebase o rid p) := by
  rintro - o' rid' code' p' ⟨rfl, rfl, rfl, rfl⟩
  exact decodeCommand_of_row (row := (0x43#8, .setTimebase)) (by cases o <;> rfl) rfl rid p

theorem routeEvent (o : Origin) (rid : Byte) (p : List Byte) : Statement (.routeEvent o rid p) := by
  rintro - o' rid' code' p' ⟨rfl, rfl, rfl, rfl⟩
  exact decodeCommand_of_row (row := (0x44#8, .routeEvent)) (by cases o <;> rfl) rfl rid p

theorem readEvents (o : Origin) (rid : Byte) (p : List Byte) : Statement (.readEvents o rid p) := by
  rintro - o' rid' code' p' ⟨rfl, rfl, rfl, rfl⟩
  exact decodeCommand_of_row (row := (0x45#8, .readEvents)) (by cases o <;> rfl) rfl rid p

theorem setPoolThreshold (o : Origin) (rid : Byte) (p : List Byte) : Statement (.setPoolThreshold o rid p) := by
  rintro - o' rid' code' p' ⟨rfl, rfl, rfl, rfl⟩
  exact decodeCommand_of_row (row := (0x46#8, .setPoolThreshold)) (by cases o <;> rfl) rfl rid p

theorem readPartStatus (o : Origin) (rid : Byte) (p : List Byte) : Statement (.readPartStatus o rid p) := by
  rintro - o' rid' code' p' ⟨rfl, rfl, rfl, rfl⟩
  exact decodeCommand_of_row (row := (0x47#8, .readPartStatus)) (by cases o <;> rfl) rfl rid p

theorem rosterAdd (o : Origin) (rid : Byte) (p : List Byte) : Statement (.rosterAdd o rid p) := by
  rintro - o' rid' code' p' ⟨rfl, rfl, rfl, rfl⟩
  exact decodeCommand_of_row (row := (0x50#8, .rosterAdd)) (by cases o <;> rfl) rfl rid p

theorem rosterRemove (o : Origin) (rid : Byte) (p : List Byte) : Statement (.rosterRemove o rid p) := by
  rintro - o' rid' code' p' ⟨rfl, rfl, rfl, rfl⟩
  exact decodeCommand_of_row (row := (0x51#8, .rosterRemove)) (by cases o <;> rfl) rfl rid p

theorem readNode (o : Origin) (rid : Byte) (p : List Byte) : Statement (.readNode o rid p) := by
  rintro - o' rid' code' p' ⟨rfl, rfl, rfl, rfl⟩
  exact decodeCommand_of_row (row := (0x52#8, .readNode)) (by cases o <;> rfl) rfl rid p

theorem linkConfig (o : Origin) (rid : Byte) (p : List Byte) : Statement (.linkConfig o rid p) := by
  rintro - o' rid' code' p' ⟨rfl, rfl, rfl, rfl⟩
  exact decodeCommand_of_row (row := (0x53#8, .linkConfig)) (by cases o <;> rfl) rfl rid p

theorem unknownCommand (o : Origin) (rid code : Byte) (p : List Byte) : Statement (.unknownCommand o rid code p) := by
  intro hw o' rid' code' p' h
  obtain ⟨rfl, rfl, rfl, rfl⟩ := h
  exact decodeCommand_of_unknown (by simpa using (Bool.and_eq_true_iff.mp hw).2) rid p

/-- A row without fields is no command. -/
theorem of_event {i : Instr} (h : i.fields = none) : Statement i := by
  intro _ o rid code payload hf
  simp [h] at hf

theorem transferStart (p : PortId) : Statement (.transferStart p) := of_event rfl

theorem commandFrameEnd (p : PortId) (bytes : List Byte) (partialByte : Bool) : Statement (.commandFrameEnd p bytes partialByte) := of_event rfl

theorem responseReadEnd (p : PortId) (clocked : Nat) : Statement (.responseReadEnd p clocked) := of_event rfl

theorem tick : Statement .tick := of_event rfl

theorem waitLimitExpiry (r : ReqSlot) (e : EntrySlot) : Statement (.waitLimitExpiry r e) := of_event rfl

theorem setWaitLimitExpiry (r : ReqSlot) (e : EntrySlot) : Statement (.setWaitLimitExpiry r e) := of_event rfl

theorem holdLimitExpiry (r : ReqSlot) (e : EntrySlot) : Statement (.holdLimitExpiry r e) := of_event rfl

theorem tenureExpiry (r : ReqSlot) : Statement (.tenureExpiry r) := of_event rfl

theorem nodeSelection : Statement .nodeSelection := of_event rfl

theorem replyWindowOpen : Statement .replyWindowOpen := of_event rfl

theorem exchangeEnd : Statement .exchangeEnd := of_event rfl

theorem replyWindowClose : Statement .replyWindowClose := of_event rfl

theorem replyIdleTimeout : Statement .replyIdleTimeout := of_event rfl

theorem linkDisable : Statement .linkDisable := of_event rfl

theorem bitTimeChange : Statement .bitTimeChange := of_event rfl

theorem nodeRemoval : Statement .nodeRemoval := of_event rfl

theorem reset : Statement .reset := of_event rfl

theorem resetEnd : Statement .resetEnd := of_event rfl

theorem replyByteReceived (b : Byte) : Statement (.replyByteReceived b) := of_event rfl

end Sys2Proof.Laws.CommandDecoding
end

