-- ==== Sys2Proof/Tests/Slice0.lean ====
section
/-! SUPPORT. Our own tests: what WellFormed refuses, values that the manual prints, one step here and there, and for every statement with
hypotheses a concrete state and operands that meet them. -/

namespace Sys2Proof.Tests

open Sys2Proof.Machine

set_option Elab.async false

/-- The state after these rows, one after another. -/
def ran (s : State) : List Instr → State
  | [] => s
  | i :: rest => match exec i s with | .next t => ran t rest | _ => s

/-! ## WellFormed refuses -/

theorem test_refuses_node_0 : (Instr.lookup (.node 0) 0x00#8 []).wellFormed = false := by decide +kernel

theorem test_refuses_node_31 : (Instr.lookup (.node 31) 0x00#8 []).wellFormed = false := by decide +kernel

theorem test_refuses_33_bytes : (Instr.acquire .portA 0x00#8 (List.replicate 33 0x00#8)).wellFormed = false := by
  decide +kernel

theorem test_refuses_known_as_unknown : (Instr.unknownCommand .portA 0x00#8 0x30#8 []).wellFormed = false := by
  decide +kernel

theorem test_refuses_fetch_from_node : (Instr.fetchNotice (.node 3) 0x00#8 []).wellFormed = false := by decide +kernel

theorem test_accepts : (Instr.fetchNotice .portB 0x00#8 []).wellFormed = true ∧
    (Instr.unknownCommand (.node 3) 0x00#8 0x15#8 []).wellFormed = true := by decide +kernel

/-! ## Values -/

/-- The check value of the CRC-8 of R162 for the digits 1 to 9. -/
theorem test_crc8 : crc8 [0x31#8, 0x32#8, 0x33#8, 0x34#8, 0x35#8, 0x36#8, 0x37#8, 0x38#8, 0x39#8] = 0xF4#8 := by
  decide +kernel

/-- The check value of the CRC-16 of R164 for the digits 1 to 9. -/
theorem test_crc16 : crc16 [0x31#8, 0x32#8, 0x33#8, 0x34#8, 0x35#8, 0x36#8, 0x37#8, 0x38#8, 0x39#8] = 0xAEE7#16 := by
  decide +kernel

/-- Table 10.5. -/
theorem test_result_codes :
    [Result.ok, .granted, .queued, .empty, .badCommand, .badLength, .checkFailed, .frameError, .badValue, .notOpen, .noRight,
      .staleHandle, .noSuchTag, .tagExists, .tableFull, .poolEmpty, .budget, .busy, .wouldDeadlock, .alreadyClaimed, .notHeld,
      .notWaiting, .notExclusive, .notSole, .retiring, .limitInUse, .budgetInUse, .requestersFull, .rosterFull, .nodeExists,
      .noSuchNode].map (fun r => r.code.toNat) =
    [0x00, 0x01, 0x02, 0x03, 0x10, 0x11, 0x12, 0x13, 0x14, 0x20, 0x21, 0x22, 0x23, 0x24, 0x25, 0x30, 0x31, 0x32, 0x33, 0x34, 0x35,
      0x36, 0x37, 0x38, 0x39, 0x3A, 0x3B, 0x40, 0x41, 0x42, 0x43] := by decide +kernel

/-- A response with BUSY_DISCARD and PORT_ADMIN (R162), without its check byte. -/
theorem test_response_layout :
    (responseFrame (statByte true false true) ⟨.queued, [0x01#8, 0x02#8]⟩).dropLast = [0x04#8, 0xA0#8, 0x02#8, 0x01#8, 0x02#8] ∧
    (responseLayout true false true .queued [0x01#8, 0x02#8]).dropLast = [0x04#8, 0xA0#8, 0x02#8, 0x01#8, 0x02#8] := by
  decide +kernel

/-- A GRANTED notice of a set and a REVOKED one (R163). -/
theorem test_notice_layout :
    (⟨3, 0x0102#16, 9, 0x07#8, .granted .shared (some 0x0A0B#16)⟩ : Notice).bytes =
      [0x01#8, 0x02#8, 0x81#8, 0x09#8, 0x07#8, 0x01#8, 0x0A#8, 0x0B#8] ∧
    (⟨3, 0x0102#16, 9, 0x07#8, .revoked .holdLimit⟩ : Notice).bytes = [0x01#8, 0x02#8, 0x04#8, 0x09#8, 0x07#8, 0x01#8] := by
  decide +kernel

/-- Polls with a response block, and with a response and a notice block (Table 10.6), without their CRC. -/
theorem test_poll_layout :
    (pollFrame 5 (some ⟨3, .badValue, [0xAA#8]⟩) none).take 7 = [0xC5#8, 0x05#8, 0x01#8, 0x03#8, 0x14#8, 0x01#8, 0xAA#8] ∧
    (pollFrame 5 (some ⟨3, .ok, []⟩) (some ⟨3, 0x0102#16, 9, 0x07#8, .waitExpired none⟩)).take 11 =
      [0xC5#8, 0x05#8, 0x03#8, 0x03#8, 0x00#8, 0x00#8, 0x01#8, 0x02#8, 0x02#8, 0x09#8, 0x07#8] ∧
    (pollFrame 5 none none).take 3 = [0xC5#8, 0x05#8, 0x00#8] := by decide +kernel

/-- 16000 divided by each bit rate (R133, R134). -/
theorem test_bit_times : bitTimeOf 16000 .k125 = 128 ∧ bitTimeOf 16000 .k1000 = 16 ∧ bitTimeOf 16400 .k1000 = 16 ∧
    bitTimeOf 16600 .k1000 = 17 := by decide +kernel

/-- A counter wraps and passes the values in use (R50, R112). -/
theorem test_counter : nextUnused [0x0000#16, 0x0001#16] 0xFFFF#16 = 0x0002#16 := by decide +kernel

/-! ## A small state

Requester 0 holds entry 1 exclusive, entries 2, 3 (RETIRING) and 5 shared; requester 1 holds entry 5 shared and waits on entry 1;
requester 2, of a higher priority, waits with the claim set 9 on entries 4 (its first member) and 1; requester 3 is node 1's;
requester 4 holds entry 6 shared and its budget is 1. -/

def openReq (o : Origin) (l : Byte) (priority budget holds waits tenure : Nat) : Option Requester :=
  some ⟨o, l, priority, budget, holds, waits, tenure, armed tenure, false⟩

def holdOf (r : ReqSlot) (m : Mode) : Claim := ⟨r, m, none, false, none⟩

def entryOf (tag : Tag) (st : EntryState) (share : Nat) (holders queue : List Claim) : Slot :=
  ⟨0x00#8, some ⟨tag, st, share, 0, holders, queue, [], false, 0⟩⟩

def demoSlots : Vector Slot 256 :=
  ((((((State.reset.slots.set 0 (entryOf 0x10#24 .idle 1 [] [])).set 1
    (entryOf 0x11#24 .exclusive 1 [⟨0, .exclusive, none, false, some 0⟩]
      [⟨2, .exclusive, some 9, false, none⟩, ⟨1, .exclusive, none, false, some 0⟩])).set 2
    (entryOf 0x12#24 .shared 2 [holdOf 0 .shared] [])).set 3
    (entryOf 0x13#24 .retiring 1 [holdOf 0 .shared] [])).set 4
    (entryOf 0x14#24 .reserved 1 [] [⟨2, .exclusive, some 9, true, some 0⟩])).set 5
    (entryOf 0x15#24 .shared 2 [holdOf 0 .shared, holdOf 1 .shared] [])).set 6
    (entryOf 0x16#24 .shared 1 [holdOf 4 .shared] [])

def demo : State :=
  { State.reset with
    slots := demoSlots
    dir := [(0x10#24, 0), (0x11#24, 1), (0x12#24, 2), (0x13#24, 3), (0x14#24, 4), (0x15#24, 5), (0x16#24, 6)]
    freeRecords := 503
    setIdCounter := 9
    requesters := ((((State.reset.requesters.set 0 (openReq .portA 0x00#8 1 24 4 0 0)).set 1
      (openReq .portA 0x01#8 1 24 1 1 0)).set 2 (openReq .portA 0x02#8 2 24 0 2 0)).set 3
      (openReq (.node 1) 0x00#8 0 24 0 0 100)).set 4 (openReq .portA 0x04#8 0 1 1 0 0)
    notices := [⟨0, 0, 1, 0x00#8, .granted .exclusive none⟩, ⟨3, 1, 2, 0x00#8, .revoked .retired⟩]
    noticeSerial := 2
    inReset := false
    link := { Link.reset with
      enabled := true
      pollWait := false
      roster := [⟨1, .active, 0, 0, some 3, some ⟨3, .ok, []⟩, false, some 1⟩, ⟨2, .silent, 4, 0, none, none, false, none⟩] }
    portA := { Port.reset with phase := .working, atnLow := true }
    decoder := [⟨.portA, 0x00#8, 0x32#8, [0x01#8, 0x00#8], 0, false⟩]
    pending := [.release .portA 0x00#8 [0x01#8, 0x00#8]] }

theorem test_demo_dir : demo.dirLegal := by decide +kernel
theorem test_demo_claims : demo.claimsLegal := by decide +kernel
theorem test_demo_registers : demo.registersLegal := by decide +kernel
theorem test_demo_notices : demo.noticesLegal := by decide +kernel
theorem test_demo_ports : demo.portsLegal := by decide +kernel
theorem test_demo_roster : demo.rosterLegal := by decide +kernel
theorem test_demo_link : demo.linkLegal := by decide +kernel
theorem test_demo_blocked : ∀ e, demo.blocked e := by decide +kernel

def handed (o : Origin) (rid code : Byte) (payload : List Byte) : Handed := ⟨o, rid, code, payload, 0, false⟩

/-- The small state with one command at the decoder. -/
def asking (s : State) (o : Origin) (rid code : Byte) (payload : List Byte) : State :=
  { s with decoder := [handed o rid code payload] }

/-- A command of requester 0, 1, 2 or 4 of the small state is one of an open requester. -/
abbrev AskedIn (s : State) (rid code : Byte) (payload : List Byte) (r : ReqSlot) (q : Requester) : Prop :=
  Asked (asking s .portA rid code payload) .portA rid code payload (handed .portA rid code payload) r q

/-- A command of port A stands in the small state, and port A holds the right. -/
abbrev Commanded (s : State) (code : Byte) (payload : List Byte) : Prop :=
  (asking s .portA 0xFF#8 code payload).stands .portA 0xFF#8 code payload = some (handed .portA 0xFF#8 code payload) ∧
  (asking s .portA 0xFF#8 code payload).admin .portA = true

def q0 : Requester := ⟨.portA, 0x00#8, 1, 24, 4, 0, 0, none, false⟩
def q1 : Requester := ⟨.portA, 0x01#8, 1, 24, 1, 1, 0, none, false⟩
def q2 : Requester := ⟨.portA, 0x02#8, 2, 24, 0, 2, 0, none, false⟩
def q4 : Requester := ⟨.portA, 0x04#8, 0, 1, 1, 0, 0, none, false⟩

def en0 : Entry := ⟨0x10#24, .idle, 1, 0, [], [], [], false, 0⟩
def en1 : Entry := ⟨0x11#24, .exclusive, 1, 0, [⟨0, .exclusive, none, false, some 0⟩],
  [⟨2, .exclusive, some 9, false, none⟩, ⟨1, .exclusive, none, false, some 0⟩], [], false, 0⟩
def en2 : Entry := ⟨0x12#24, .shared, 2, 0, [holdOf 0 .shared], [], [], false, 0⟩
def en3 : Entry := ⟨0x13#24, .retiring, 1, 0, [holdOf 0 .shared], [], [], false, 0⟩
def en4 : Entry := ⟨0x14#24, .reserved, 1, 0, [], [⟨2, .exclusive, some 9, true, some 0⟩], [], false, 0⟩
def en5 : Entry := ⟨0x15#24, .shared, 2, 0, [holdOf 0 .shared, holdOf 1 .shared], [], [], false, 0⟩
def en6 : Entry := ⟨0x16#24, .shared, 1, 0, [holdOf 4 .shared], [], [], false, 0⟩

theorem test_demo_entries : demo.entry 0 = some en0 ∧ demo.entry 1 = some en1 ∧ demo.entry 2 = some en2 ∧
    demo.entry 3 = some en3 ∧ demo.entry 4 = some en4 ∧ demo.entry 5 = some en5 ∧ demo.entry 6 = some en6 ∧
    demo.entry 7 = none := by decide +kernel

/-- A change of the command at the decoder does not touch the claim table. -/
theorem asking_claims (s : State) (o : Origin) (rid code : Byte) (payload : List Byte) (h : s.claimsLegal) :
    (asking s o rid code payload).claimsLegal := h

/-! ## Frames and ports -/

theorem witness_StepTakesFront : State.reset.pending = [] := by decide +kernel

theorem witness_CommandFramesDecodeBack :
    (Instr.acquire .portA 0x0F#8 (List.replicate 32 0x00#8)).wellFormed = true ∧
    (Instr.acquire .portA 0x0F#8 (List.replicate 32 0x00#8)).fields =
      some (PortId.a.origin, 0x0F#8, 0x30#8, List.replicate 32 0x00#8) ∧
    (Instr.fetchNotice .portB 0x00#8 []).wellFormed = true ∧
    (Instr.unknownCommand .portB 0x00#8 0x00#8 []).wellFormed = true := by decide +kernel

theorem witness_RepliesReceivedBack :
    let r : Reply := ⟨0x01#8, some 15, some 7, some ⟨15, 0x03#8, 0x30#8, List.replicate 32 0x55#8⟩⟩
    r.source.toNat = 1 ∧ (∀ a ∈ r.respAck, a ≤ 15) ∧ (∀ q ∈ r.request, q.sequence ≤ 15 ∧ q.payload.length ≤ 32) := by
  decide +kernel

/-- A port in each state and transfer. -/
def portIn (phase : PortPhase) (transfer : Option TransferClass) : State :=
  { State.reset with inReset := false, portA := { Port.reset with phase := phase, transfer := transfer, response := some [0x02#8] } }

theorem witness_TransfersStartAndEnd :
    State.reset.inReset = true ∧ (State.reset.port .a).transfer = none ∧
    ((portIn .holding none).port .a).phase = .holding ∧ ((portIn .ready (some .ignored)).port .a).transfer = some .ignored ∧
    ((portIn .working none).port .a).phase = .working ∧ (portIn .working none).inReset = false ∧
    ((portIn .ready (some .commandFrame)).port .a).transfer = some .commandFrame ∧
    ((portIn .holding (some .responseRead)).port .a).transfer = some .responseRead ∧
    ((portIn .holding (some .responseRead)).port .a).response = some [0x02#8] := by decide +kernel

/-- The SDO column of R152, and SDO held high in reset (R151). -/
theorem test_sdo :
    (ran (portIn .holding none) [.transferStart .a]).portA.sdo = .sending [0x02#8] ∧
    (ran (portIn .holding none) [.transferStart .a, .responseReadEnd .a 3]).portA.sdo = .clocked [0x02#8, 0xFF#8, 0xFF#8] ∧
    (ran (portIn .ready none) [.transferStart .a]).portA.sdo = .high ∧
    (ran (portIn .working none) [.transferStart .a, .responseReadEnd .a 2]).portA.sdo = .clocked [0xFF#8, 0xFF#8] ∧
    State.reset.portA.sdo = .high ∧
    (ran State.reset [.transferStart .a, .responseReadEnd .a 2]).portA.sdo = .high := by decide +kernel

theorem witness_GoodFrameHandedOver :
    ((portIn .ready (some .commandFrame)).port .a).transfer = some .commandFrame ∧
    (List.replicate 32 0x00#8 : List Byte).length ≤ 32 := by decide +kernel

/-- A partial byte; the byte counts 1, 35 and a wrong one; a wrong check at the lowest and the highest count. -/
theorem witness_FrameErrorsAnswered :
    ((portIn .ready (some .commandFrame)).port .a).transfer = some .commandFrame ∧
    (0x01#8 : Byte).toNat < 2 ∧ 34 < (0x23#8 : Byte).toNat ∧ ([0x02#8, 0x00#8] : List Byte).length ≠ (0x02#8 : Byte).toNat + 2 ∧
    ([0x02#8, 0x00#8, 0x12#8, 0x00#8] : List Byte).length = (0x02#8 : Byte).toNat + 2 ∧
    (0x00#8 : Byte) ≠ crc8 [0x02#8, 0x00#8, 0x12#8] ∧
    ((0x22#8 :: List.replicate 34 0x00#8 ++ [0x77#8] : List Byte)).length = (0x22#8 : Byte).toNat + 2 ∧
    (0x77#8 : Byte) ≠ crc8 (0x22#8 :: List.replicate 34 0x00#8) := by decide +kernel

theorem witness_ResetAndItsEnd : (State.reset.port .a).phase ≠ .working := by decide +kernel

/-! ## Common refusals -/

theorem witness_CommonRefusals :
    (Instr.release .portA 0x00#8 []).wellFormed = true ∧ isCommandCode .portA 0x32#8 = true ∧
    (asking demo .portA 0x00#8 0x32#8 []).stands .portA 0x00#8 0x32#8 [] = some (handed .portA 0x00#8 0x32#8 []) ∧
    lengthSuits 0x32#8 [] = false ∧
    lengthSuits 0x41#8 [0x01#8] = true ∧ 0x41#8 ∈ adminCodes ∧ demo.admin .portB = false ∧
    (asking demo .portB 0x00#8 0x41#8 [0x01#8]).stands .portB 0x00#8 0x41#8 [0x01#8] =
      some (handed .portB 0x00#8 0x41#8 [0x01#8]) ∧
    lengthSuits 0x33#8 [] = true ∧ 0x33#8 ∈ requesterCodes ∧ demo.findReq .portB 0x00#8 = none ∧
    isCommandCode .portA 0x00#8 = false ∧ isCommandCode (.node 1) 0x15#8 = false ∧
    demo.findReq .portA 0x00#8 = some 0 ∧ demo.req 0 = some q0 ∧ demo.findReq .portA 0x0F#8 = none := by decide +kernel

theorem witness_RowsNotDueChangeNothing :
    (Instr.release .portA 0x00#8 []).wellFormed = true ∧
    (Instr.release .portA 0x00#8 []).fields = some (.portA, 0x00#8, 0x32#8, []) ∧
    State.reset.stands .portA 0x00#8 0x32#8 [] = none ∧ State.reset.entry 0 = none ∧
    (∀ en ∈ demo.entry 2, ∀ c ∈ en.hold 0, c.deadline ≠ some 0) ∧ (∀ q ∈ demo.req 0, q.tenureLeft ≠ some 0) := by
  decide +kernel

/-- A port in a command frame, in a response read and with no transfer; a link with no exchange, which waits for no end. -/
theorem witness_RowsNotDueChangeNothing_events :
    ((portIn .ready (some .commandFrame)).port .a).transfer = some .commandFrame ∧
    ((portIn .holding (some .responseRead)).port .a).transfer = some .responseRead ∧
    ((portIn .ready none).port .a).transfer = none ∧ demo.link.exchange = none ∧ State.reset.link.pollWait = true ∧
    demo.link.pendingDisable = false ∧ demo.link.bitTimePending = false := by decide +kernel

/-! ## Requesters and notices -/

/-- Local id 15 and the highest values are valid, local id 16 and budget 25 are not; slot 5 is the lowest FREE one. -/
theorem witness_OpenTakesLowestSlot :
    (asking demo .portA 0x0F#8 0x10#8 [0x03#8, 0x18#8, 0x00#8, 0x64#8]).stands .portA 0x0F#8 0x10#8
      [0x03#8, 0x18#8, 0x00#8, 0x64#8] = some (handed .portA 0x0F#8 0x10#8 [0x03#8, 0x18#8, 0x00#8, 0x64#8]) ∧
    (asking demo .portA 0x10#8 0x10#8 [0x03#8, 0x19#8, 0x00#8, 0x00#8]).stands .portA 0x10#8 0x10#8
      [0x03#8, 0x19#8, 0x00#8, 0x00#8] = some (handed .portA 0x10#8 0x10#8 [0x03#8, 0x19#8, 0x00#8, 0x00#8]) ∧
    (0x0F#8 : Byte).toNat ≤ 15 ∧ 15 < (0x10#8 : Byte).toNat ∧
    demo.findReq .portA 0x0F#8 = none ∧ demo.req 5 = none ∧ (∀ r, r < 5 → demo.req r ≠ none) ∧
    demo.findReq .portA 0x00#8 = some 0 ∧ demo.req 0 = some q0 ∧
    (asking { demo with requesters := Vector.replicate 48 (some q0) } .portB 0x00#8 0x10#8
      [0x00#8, 0x01#8, 0x00#8, 0x00#8]).stands .portB 0x00#8 0x10#8 [0x00#8, 0x01#8, 0x00#8, 0x00#8] =
      some (handed .portB 0x00#8 0x10#8 [0x00#8, 0x01#8, 0x00#8, 0x00#8]) ∧
    State.findReq { demo with requesters := Vector.replicate 48 (some q0) } .portB 0x00#8 = none ∧
    (∀ r, State.req { demo with requesters := Vector.replicate 48 (some q0) } r ≠ none) := by decide +kernel

theorem witness_ReleaseAllAndClose : AskedIn demo 0x02#8 0x33#8 [] 2 q2 ∧ AskedIn demo 0x00#8 0x11#8 [] 0 q0 := by
  decide +kernel

/-- Requester 0 has 4 records: the budgets 0, 25, 3 and 4. -/
theorem witness_RenewAndSetBudget :
    AskedIn demo 0x00#8 0x12#8 [] 0 q0 ∧ AskedIn demo 0x00#8 0x13#8 [0x00#8] 0 q0 ∧ AskedIn demo 0x00#8 0x13#8 [0x19#8] 0 q0 ∧
    AskedIn demo 0x00#8 0x13#8 [0x03#8] 0 q0 ∧ 3 < q0.holdCount + q0.waitCount ∧
    AskedIn demo 0x00#8 0x13#8 [0x04#8] 0 q0 ∧ q0.holdCount + q0.waitCount ≤ 4 := by decide +kernel

/-- The cursors 0, 256 and 257. -/
theorem witness_ListMineAnswers :
    AskedIn demo 0x00#8 0x14#8 [0x00#8, 0x00#8] 0 q0 ∧ AskedIn demo 0x00#8 0x14#8 [0x01#8, 0x00#8] 0 q0 ∧
    AskedIn demo 0x00#8 0x14#8 [0x01#8, 0x01#8] 0 q0 := by decide +kernel

theorem witness_FetchNoticeTakesOldest :
    AskedIn demo 0x00#8 0x15#8 [] 0 q0 ∧ demo.noticeQueue 0 = [⟨0, 0, 1, 0x00#8, .granted .exclusive none⟩] ∧
    AskedIn demo 0x01#8 0x15#8 [] 1 q1 ∧ demo.noticeQueue 1 = [] := by decide +kernel

/-- A queue of 15 notices and one of 16. -/
theorem witness_NoticeQueuedOrDropped :
    let full := fun n => { demo with notices := List.replicate n ⟨0, 0, 1, 0x00#8, .granted .exclusive none⟩ }
    (full 15).req 0 = some q0 ∧ ((full 15).noticeQueue 0).length < 16 ∧ 16 ≤ ((full 16).noticeQueue 0).length := by
  decide +kernel

/-! ## Entries and the directory -/

/-- Share limits 0, 8 and 9; a live tag; the lowest UNUSED slot 7; a part with none. -/
theorem witness_DefineMakesEntry :
    Commanded demo 0x20#8 [0x00#8, 0x00#8, 0x10#8, 0x00#8, 0x00#8, 0x00#8] ∧
    Commanded demo 0x20#8 [0x00#8, 0x00#8, 0x10#8, 0x09#8, 0x00#8, 0x00#8] ∧
    Commanded demo 0x20#8 [0x00#8, 0x00#8, 0x10#8, 0x01#8, 0x00#8, 0x00#8] ∧ en0.tag = tagOf 0x00#8 0x00#8 0x10#8 ∧
    Commanded demo 0x20#8 [0x00#8, 0x00#8, 0x77#8, 0x08#8, 0x00#8, 0x00#8] ∧
    (∀ e, ∀ en ∈ demo.entry e, en.tag ≠ tagOf 0x00#8 0x00#8 0x77#8) ∧ demo.entry 7 = none ∧
    (∀ e, e < 7 → demo.entry e ≠ none) := by decide +kernel

/-- A part whose every slot is live. -/
def allLive : State :=
  { demo with
    slots := Vector.ofFn fun e : EntrySlot => ⟨0x00#8, some { en0 with tag := BitVec.ofNat 24 e.val }⟩
    dir := (List.finRange 256).map fun e => (BitVec.ofNat 24 e.val, e) }

theorem test_allLive_dir : allLive.dirLegal := by
  refine ⟨by decide +kernel, ?_⟩
  show (((List.finRange 256).map fun e => ((BitVec.ofNat 24 e.val : Tag), e)).map Prod.fst).Nodup
  rw [List.map_map]
  refine (List.nodup_finRange 256).map fun a b h => ?_
  have := congrArg BitVec.toNat h
  simp at this
  omega

theorem witness_DefineMakesEntry_full : (∀ e, allLive.entry e ≠ none) ∧
    (∀ e, ∀ en ∈ allLive.entry e, en.tag ≠ tagOf 0x01#8 0x00#8 0x00#8) ∧
    Commanded allLive 0x20#8 [0x01#8, 0x00#8, 0x00#8, 0x01#8, 0x00#8, 0x00#8] := by decide +kernel

/-- Share limits 0, below the holders, equal to the present one, raised; note lengths that agree and do not. -/
theorem witness_LimitsAndNotesWritten :
    Commanded demo 0x22#8 [0x05#8, 0x00#8, 0x00#8, 0x00#8, 0x00#8] ∧ demo.entryOf (handleOf 0x05#8 0x00#8) = some en5 ∧
    Commanded demo 0x22#8 [0x05#8, 0x00#8, 0x01#8, 0x00#8, 0x00#8] ∧ 1 < en5.holders.length ∧
    Commanded demo 0x22#8 [0x05#8, 0x00#8, 0x02#8, 0x00#8, 0x00#8] ∧ en5.holders.length ≤ 2 ∧ 2 ≤ en5.shareLimit ∧
    Commanded demo 0x22#8 [0x05#8, 0x00#8, 0x08#8, 0x00#8, 0x00#8] ∧ en5.shareLimit < 8 ∧
    AskedIn demo 0x00#8 0x26#8 [0x01#8, 0x00#8, 0x02#8, 0xAA#8] 0 q0 ∧
    AskedIn demo 0x00#8 0x26#8 (0x01#8 :: 0x00#8 :: 0x08#8 :: List.replicate 8 0xAA#8) 0 q0 ∧
    demo.entryOf (handleOf 0x01#8 0x00#8) = some en1 ∧ en1.holdsExclusive 0 = true ∧ en5.holdsExclusive 0 = false ∧
    AskedIn demo 0x00#8 0x26#8 [0x05#8, 0x00#8, 0x00#8] 0 q0 := by decide +kernel

/-- A value that is none beside a handle that names no entry. -/
theorem witness_BadValueBeforeStale :
    demo.entryOf (handleOf 0x01#8 0x01#8) = none ∧ Commanded demo 0x22#8 [0x01#8, 0x01#8, 0x00#8, 0x00#8, 0x00#8] ∧
    Commanded demo 0x21#8 [0x01#8, 0x01#8, 0x02#8] ∧ AskedIn demo 0x00#8 0x26#8 [0x01#8, 0x01#8, 0x02#8, 0xAA#8] 0 q0 := by
  decide +kernel

theorem witness_ReadsAnswer :
    Commanded demo 0x23#8 [0x00#8, 0x00#8, 0x11#8] ∧ en1.tag = tagOf 0x00#8 0x00#8 0x11#8 ∧
    Commanded demo 0x23#8 [0x00#8, 0x00#8, 0x77#8] ∧ (∀ e, ∀ en ∈ demo.entry e, en.tag ≠ tagOf 0x00#8 0x00#8 0x77#8) ∧
    Commanded demo 0x24#8 [0x00#8, 0x00#8, 0x10#8, 0x00#8, 0x00#8, 0x01#8, 0x01#8, 0x00#8] ∧
    Commanded demo 0x24#8 [0x00#8, 0x00#8, 0x10#8, 0x00#8, 0x00#8, 0x01#8, 0x01#8, 0x01#8] ∧
    Commanded demo 0x25#8 [0x05#8, 0x00#8] ∧ Commanded demo 0x47#8 [] ∧
    Commanded demo 0x52#8 [0x00#8] ∧ Commanded demo 0x52#8 [0x1F#8] ∧ Commanded demo 0x52#8 [0x1E#8] ∧ demo.node 30 = none ∧
    Commanded demo 0x52#8 [0x01#8] ∧ (demo.node 1).isSome := by decide +kernel

theorem witness_StaleHandlesRefused :
    demo.entryOf (handleOf 0x01#8 0x01#8) = none ∧ demo.entryOf (handleOf 0xFF#8 0x00#8) = none ∧
    Commanded demo 0x25#8 [0x01#8, 0x01#8] ∧ Commanded demo 0x21#8 [0x01#8, 0x01#8, 0x01#8] ∧
    Commanded demo 0x22#8 [0x01#8, 0x01#8, 0x08#8, 0x00#8, 0x00#8] ∧ AskedIn demo 0x00#8 0x32#8 [0x01#8, 0x01#8] 0 q0 ∧
    AskedIn demo 0x00#8 0x26#8 [0x01#8, 0x01#8, 0x00#8] 0 q0 ∧
    AskedIn demo 0x00#8 0x30#8 [0xFF#8, 0x00#8, 0x01#8, 0x00#8, 0x00#8] 0 q0 ∧
    (Instr.readEntry .portA 0xFF#8 [0x01#8, 0x01#8]).wellFormed = true := by decide +kernel

/-- Mode bytes 0, 1 and 2, on an IDLE, a RETIRING, an EXCLUSIVE and a RESERVED entry. -/
theorem witness_RetireEndsEntry :
    Commanded demo 0x21#8 [0x01#8, 0x00#8, 0x02#8] ∧ demo.entryOf (handleOf 0x01#8 0x00#8) = some en1 ∧ en1.state = .exclusive ∧
    Commanded demo 0x21#8 [0x00#8, 0x00#8, 0x01#8] ∧ demo.entryOf (handleOf 0x00#8 0x00#8) = some en0 ∧ en0.state = .idle ∧
    Commanded demo 0x21#8 [0x03#8, 0x00#8, 0x00#8] ∧ demo.entryOf (handleOf 0x03#8 0x00#8) = some en3 ∧ en3.state = .retiring ∧
    Commanded demo 0x21#8 [0x01#8, 0x00#8, 0x00#8] ∧ Commanded demo 0x21#8 [0x01#8, 0x00#8, 0x01#8] ∧
    demo.entryOf (handleOf 0x04#8 0x00#8) = some en4 ∧ en4.state = .reserved ∧ Commanded demo 0x21#8 [0x04#8, 0x00#8, 0x00#8] ∧
    Commanded demo 0x21#8 [0x03#8, 0x00#8, 0x01#8] := by decide +kernel

/-! ## Claims -/

theorem witness_AcquireRefused :
    AskedIn demo 0x00#8 0x30#8 [0x00#8, 0x00#8, 0x02#8, 0x00#8, 0x00#8] 0 q0 ∧
    AskedIn demo 0x01#8 0x30#8 [0x03#8, 0x00#8, 0x01#8, 0x00#8, 0x00#8] 1 q1 ∧ en3.state = .retiring ∧
    AskedIn demo 0x01#8 0x30#8 [0x01#8, 0x00#8, 0x00#8, 0x00#8, 0x00#8] 1 q1 ∧ en1.claimed 1 = true ∧
    AskedIn demo 0x04#8 0x30#8 [0x00#8, 0x00#8, 0x00#8, 0x00#8, 0x00#8] 4 q4 ∧ en0.claimed 4 = false ∧
    q4.holdCount + q4.waitCount = q4.budget ∧
    AskedIn { demo with freeRecords := 0 } 0x00#8 0x30#8 [0x00#8, 0x00#8, 0x00#8, 0x00#8, 0x00#8] 0 q0 ∧
    q0.holdCount + q0.waitCount ≠ q0.budget := by decide +kernel

theorem witness_AcquireBusy :
    AskedIn demo 0x02#8 0x30#8 [0x05#8, 0x00#8, Mode.code .exclusive, 0x00#8, 0x00#8] 2 q2 ∧
    demo.entryOf (handleOf 0x05#8 0x00#8) = some en5 ∧ ClaimAllowed demo 2 q2 en5 ∧ ¬ AtOnce en5 .exclusive := by
  decide +kernel

/-- An IDLE entry in either mode, and a shared one with room. -/
theorem witness_AcquireGrantedAtOnce :
    AskedIn demo 0x01#8 0x30#8 [0x00#8, 0x00#8, Mode.code .exclusive, 0x00#8, 0x00#8] 1 q1 ∧
    demo.entryOf (handleOf 0x00#8 0x00#8) = some en0 ∧ en0.legal ∧ ClaimAllowed demo 1 q1 en0 ∧ AtOnce en0 .exclusive ∧
    AskedIn demo 0x01#8 0x30#8 [0x02#8, 0x00#8, Mode.code .shared, 0xFF#8, 0xFF#8] 1 q1 ∧
    demo.entryOf (handleOf 0x02#8 0x00#8) = some en2 ∧ en2.legal ∧ ClaimAllowed demo 1 q1 en2 ∧ AtOnce en2 .shared := by
  decide +kernel

/-- The state that AcquirePlaced tests, with the new record of a requester in its place. -/
def placedIn (e : EntrySlot) (en : Entry) (r : ReqSlot) (q : Requester) (m : Mode) (limit : Option Nat) : State :=
  { demo.setEntry e (en.placed demo.priority ⟨r, m, none, false, limit⟩) with
    freeRecords := demo.freeRecords - 1
    requesters := demo.requesters.set r.val (some { q.renewed with waitCount := q.waitCount + 1 }) }

/-- Requester 0, for which requester 2 waits on entry 1, would wait behind requester 2 on entry 4: a cycle. -/
theorem witness_AcquirePlaced_cycle :
    AskedIn demo 0x00#8 0x30#8 [0x04#8, 0x00#8, Mode.code .exclusive, 0xFF#8, 0xFF#8] 0 q0 ∧
    demo.entryOf (handleOf 0x04#8 0x00#8) = some en4 ∧ ClaimAllowed demo 0 q0 en4 ∧ ¬ AtOnce en4 .exclusive ∧
    Relation.TransGen (fun x y => (x, y) ∈ (placedIn 4 en4 0 q0 .exclusive none).waitEdges) 0 0 := by
  have h1 : ((0 : ReqSlot), (2 : ReqSlot)) ∈ (placedIn 4 en4 0 q0 .exclusive none).waitEdges := by decide +kernel
  have h2 : ((2 : ReqSlot), (0 : ReqSlot)) ∈ (placedIn 4 en4 0 q0 .exclusive none).waitEdges := by decide +kernel
  exact ⟨by decide +kernel, by decide +kernel, by decide +kernel, by decide +kernel, .tail (.single h1) h2⟩

/-- A relation whose edges all go down a rank has no cycle. -/
theorem no_cycle {edges : List (ReqSlot × ReqSlot)} (rank : ReqSlot → Nat) (h : ∀ p ∈ edges, rank p.2 < rank p.1) (r : ReqSlot) :
    ¬ Relation.TransGen (fun x y => (x, y) ∈ edges) r r := by
  have key : ∀ {x y}, Relation.TransGen (fun x y => (x, y) ∈ edges) x y → rank y < rank x := by
    intro x y hxy
    induction hxy with
    | single h1 => exact h _ h1
    | tail _ h1 ih => exact Nat.lt_trans (h _ h1) ih
  exact fun hr => Nat.lt_irrefl _ (key hr)

/-- Requester 2 at the head of entry 6 with the wait limit 1; requester 1 behind requester 2 on entry 4 with FFFFh. -/
theorem witness_AcquirePlaced_placed :
    AskedIn demo 0x02#8 0x30#8 [0x06#8, 0x00#8, Mode.code .exclusive, 0x00#8, 0x01#8] 2 q2 ∧
    demo.entryOf (handleOf 0x06#8 0x00#8) = some en6 ∧ ClaimAllowed demo 2 q2 en6 ∧ ¬ AtOnce en6 .exclusive ∧
    (en6.placed demo.priority ⟨2, .exclusive, none, false, some 1⟩).queue.head? = some ⟨2, .exclusive, none, false, some 1⟩ ∧
    AskedIn demo 0x01#8 0x30#8 [0x04#8, 0x00#8, Mode.code .shared, 0xFF#8, 0xFF#8] 1 q1 ∧
    demo.entryOf (handleOf 0x04#8 0x00#8) = some en4 ∧ ClaimAllowed demo 1 q1 en4 ∧ ¬ AtOnce en4 .shared ∧
    (en4.placed demo.priority ⟨1, .shared, none, false, none⟩).queue.head? ≠ some ⟨1, .shared, none, false, none⟩ := by
  decide +kernel

theorem witness_AcquirePlaced_acyclic :
    (¬ Relation.TransGen (fun x y => (x, y) ∈ (placedIn 4 en4 1 q1 .shared none).waitEdges) 1 1) ∧
    (¬ Relation.TransGen (fun x y => (x, y) ∈ (placedIn 6 en6 2 q2 .exclusive (some 1)).waitEdges) 2 2) := by
  constructor
  · exact no_cycle (fun r => if r = 0 then 0 else if r = 2 then 1 else 2) (by decide +kernel) 1
  · exact no_cycle (fun r => if r = 1 then 2 else if r = 2 then 1 else 0) (by decide +kernel) 2

theorem witness_WaiterTakesPlace :
    en1.queue.Pairwise (fun x y => demo.priority y.requester ≤ demo.priority x.requester) ∧ en1.queue.length = 2 := by
  decide +kernel

/-- A member with the generation 0 that every entry of the small state has. -/
def memberAt (e : EntrySlot) (mode : Byte) : Member := ⟨⟨e, 0x00#8⟩, mode⟩

/-- The members, the wait limit and the requester of each refusal of an ACQUIRE_SET: one member, five, a mode 2, one entry twice; the
second stale, the first RETIRING, the second already claimed; the budget; the pool; BUSY. -/
theorem witness_AcquireSetRefused :
    AskedIn demo 0x01#8 0x31#8 (setBytes [memberAt 0 0x00#8] 0x00#8 0x00#8) 1 q1 ∧
    AskedIn demo 0x01#8 0x31#8 (setBytes ([0, 2, 4, 6, 7].map fun e => memberAt e 0x00#8) 0x00#8 0x00#8) 1 q1 ∧
    AskedIn demo 0x01#8 0x31#8 (setBytes [memberAt 0 0x02#8, memberAt 2 0x00#8] 0x00#8 0x00#8) 1 q1 ∧
    AskedIn demo 0x01#8 0x31#8 (setBytes [memberAt 0 0x00#8, memberAt 0 0x00#8] 0x00#8 0x00#8) 1 q1 ∧
    AskedIn demo 0x01#8 0x31#8 (setBytes [memberAt 0 0x00#8, memberAt 7 0x00#8] 0x00#8 0x00#8) 1 q1 ∧
    AskedIn demo 0x01#8 0x31#8 (setBytes [memberAt 3 0x00#8, memberAt 0 0x00#8] 0x00#8 0x00#8) 1 q1 ∧
    AskedIn demo 0x01#8 0x31#8 (setBytes [memberAt 0 0x00#8, memberAt 5 0x00#8] 0x00#8 0x00#8) 1 q1 ∧
    AskedIn demo 0x04#8 0x31#8 (setBytes [memberAt 0 0x00#8, memberAt 2 0x01#8] 0x00#8 0x00#8) 4 q4 ∧
    AskedIn { demo with freeRecords := 1 } 0x01#8 0x31#8 (setBytes [memberAt 0 0x00#8, memberAt 2 0x01#8] 0x00#8 0x00#8) 1 q1 ∧
    AskedIn demo 0x01#8 0x31#8 (setBytes [memberAt 0 0x00#8, memberAt 6 0x00#8] 0x00#8 0x00#8) 1 q1 ∧
    (demo.entryOf ⟨7, 0x00#8⟩ = none ∧ en0.claimed 1 = false ∧ en5.claimed 1 = true ∧ en6.claimed 1 = false) ∧
    q4.budget < q4.holdCount + q4.waitCount + 2 ∧ ¬ AtOnce en6 .exclusive := by decide +kernel

theorem witness_AcquireSetGrantedAtOnce :
    AskedIn demo 0x01#8 0x31#8
      (setBytes ([((⟨0, 0x00#8⟩ : Handle), Mode.exclusive), (⟨2, 0x00#8⟩, Mode.shared)].map fun p => ⟨p.1, p.2.code⟩) 0x00#8 0x00#8)
      1 q1 ∧
    demo.entryOf ⟨0, 0x00#8⟩ = some en0 ∧ en0.claimed 1 = false ∧ AtOnce en0 .exclusive ∧
    demo.entryOf ⟨2, 0x00#8⟩ = some en2 ∧ en2.claimed 1 = false ∧ AtOnce en2 .shared ∧
    q1.holdCount + q1.waitCount + 2 ≤ q1.budget := by decide +kernel

/-- The state that AcquireSetPlaced tests when requester 1 names entry 0 and the entry e, exclusive, with no limit. -/
def setPlacedOn (e : EntrySlot) (en : Entry) : State :=
  { demo with
    slots := demo.mapEntries fun x old =>
      if x = 0 then en0.placed demo.priority ⟨1, .exclusive, some 10, true, none⟩
      else if x = e then en.placed demo.priority ⟨1, .exclusive, some 10, false, none⟩ else old
    setIdCounter := 10
    freeRecords := 501 }

/-- Requester 1 names entry 0 and entry 6, where requester 4 holds. -/
theorem witness_AcquireSetPlaced :
    AskedIn demo 0x01#8 0x31#8
      (setBytes ([((⟨0, 0x00#8⟩ : Handle), Mode.exclusive), (⟨6, 0x00#8⟩, Mode.exclusive)].map fun p => ⟨p.1, p.2.code⟩)
        0xFF#8 0xFF#8) 1 q1 ∧
    demo.entryOf ⟨6, 0x00#8⟩ = some en6 ∧ en6.state ≠ .retiring ∧ en6.claimed 1 = false ∧ ¬ AtOnce en6 .exclusive ∧
    en0.state ≠ .retiring ∧ nextUnused demo.waitingSetIds demo.setIdCounter = 10 := by decide +kernel

theorem witness_AcquireSetPlaced_acyclic :
    ¬ Relation.TransGen (fun x y => (x, y) ∈ (setPlacedOn 6 en6).waitEdges) 1 1 :=
  no_cycle (fun r => if r = 1 then 2 else if r = 2 then 1 else 0) (by decide +kernel) 1

/-- Requester 0 would wait on entry 4 behind requester 2, which waits for it on entry 1. -/
theorem witness_AcquireSetPlaced_cycle :
    AskedIn demo 0x00#8 0x31#8
      (setBytes ([((⟨0, 0x00#8⟩ : Handle), Mode.exclusive), (⟨4, 0x00#8⟩, Mode.exclusive)].map fun p => ⟨p.1, p.2.code⟩)
        0x00#8 0x01#8) 0 q0 ∧
    en4.claimed 0 = false ∧ ¬ AtOnce en4 .exclusive ∧
    (let u : State := { demo with
        slots := demo.mapEntries fun x old =>
          if x = 0 then en0.placed demo.priority ⟨0, .exclusive, some 10, true, some 1⟩
          else if x = 4 then en4.placed demo.priority ⟨0, .exclusive, some 10, false, none⟩ else old }
     (((0 : ReqSlot), (2 : ReqSlot)) ∈ u.waitEdges) ∧ ((2 : ReqSlot), (0 : ReqSlot)) ∈ u.waitEdges) := by decide +kernel

theorem witness_RecordsRemoved :
    demo.req 0 = some q0 ∧ (en1.hold 0).isSome ∧ (en3.hold 0).isSome ∧ demo.req 1 = some q1 ∧ (en1.wait 1).isSome ∧
    demo.req 2 = some q2 ∧ en4.wait 2 = some ⟨2, .exclusive, some 9, true, some 0⟩ ∧ en3.claimed 0 = true ∧
    en4.claimed 0 = false := by decide +kernel

/-- The small state after the own steps of a RELEASE of entry 1 by its holder. -/
def released : State := (demo.dropHold 0 1 false).recompute 1

theorem test_released_claims : released.claimsLegal := by decide +kernel

/-- The set 9 heads entry 1, which is on the pass list, and entry 4, which is not; it could be granted. -/
theorem witness_PassesDoWhatTheyMay :
    ¬ released.blocked 4 ∧ released.passedWith [1] 4 ∧ ∀ e, e ≠ 1 → e ≠ 4 → released.blocked e :=
  ⟨by decide +kernel,
    ⟨en4, by decide +kernel, ⟨2, .exclusive, some 9, true, some 0⟩, by decide +kernel, 9, by decide +kernel, 1, by decide +kernel,
      by decide +kernel⟩,
    by decide +kernel⟩

theorem witness_ReleaseAndCancel :
    AskedIn demo 0x00#8 0x32#8 [0x01#8, 0x00#8] 0 q0 ∧ (en1.hold 0).isSome ∧ AskedIn demo 0x01#8 0x32#8 [0x01#8, 0x00#8] 1 q1 ∧
    en1.hold 1 = none ∧ AskedIn demo 0x00#8 0x34#8 [0x01#8, 0x00#8] 0 q0 ∧ en1.wait 0 = none ∧
    AskedIn demo 0x01#8 0x34#8 [0x01#8, 0x00#8] 1 q1 ∧ en1.wait 1 = some ⟨1, .exclusive, none, false, some 0⟩ ∧
    AskedIn demo 0x02#8 0x34#8 [0x01#8, 0x00#8] 2 q2 ∧ en1.wait 2 = some ⟨2, .exclusive, some 9, false, none⟩ := by
  decide +kernel

theorem test_en1_legal : en1.legal := by decide +kernel
theorem test_en3_legal : en3.legal := by decide +kernel
theorem test_en5_legal : en5.legal := by decide +kernel

theorem witness_UpgradeAndDowngrade :
    AskedIn demo 0x01#8 0x35#8 [0x01#8, 0x00#8] 1 q1 ∧ en1.hold 1 = none ∧
    AskedIn demo 0x00#8 0x35#8 [0x01#8, 0x00#8] 0 q0 ∧ en1.hold 0 = some ⟨0, .exclusive, none, false, some 0⟩ ∧
    AskedIn demo 0x00#8 0x35#8 [0x05#8, 0x00#8] 0 q0 ∧ en5.hold 0 = some (holdOf 0 .shared) ∧ en5.holders.length ≠ 1 ∧
    AskedIn demo 0x00#8 0x35#8 [0x03#8, 0x00#8] 0 q0 ∧ en3.hold 0 = some (holdOf 0 .shared) ∧ en3.holders.length = 1 ∧
    AskedIn demo 0x00#8 0x36#8 [0x05#8, 0x00#8] 0 q0 ∧ en5.holdsExclusive 0 = false ∧
    AskedIn demo 0x00#8 0x36#8 [0x01#8, 0x00#8] 0 q0 := by decide +kernel

/-! ## Time limits and evictions -/

theorem witness_TickLowersCountdowns : State.reset.inReset = true ∧ demo.inReset = false := by decide +kernel

theorem witness_LimitsExpire :
    en1.wait 1 = some ⟨1, .exclusive, none, false, some 0⟩ ∧ en4.wait 2 = some ⟨2, .exclusive, some 9, true, some 0⟩ ∧
    en1.hold 0 = some ⟨0, .exclusive, none, false, some 0⟩ := by decide +kernel

/-- The tenure of node 1's requester reached zero. -/
def expired : State :=
  { demo with requesters := demo.requesters.set 3 (some ⟨.node 1, 0x00#8, 0, 24, 0, 0, 100, some 0, false⟩) }

theorem test_expired_claims : expired.claimsLegal := by decide +kernel

/-- Local ids 15 and 16 of port A, 3 and 4 of a node; a byte that is no origin. -/
theorem witness_TenureAndEvict :
    expired.req 3 = some ⟨.node 1, 0x00#8, 0, 24, 0, 0, 100, some 0, false⟩ ∧
    Commanded demo 0x40#8 [0x1F#8, 0x00#8] ∧ originOf 0x1F#8 = none ∧ Commanded demo 0x40#8 [0x40#8, 0x10#8] ∧
    originOf 0x40#8 = some .portA ∧ Commanded demo 0x40#8 [0x40#8, 0x0F#8] ∧ demo.findReq .portA 0x0F#8 = none ∧
    Commanded demo 0x40#8 [0x1E#8, 0x04#8] ∧ originOf 0x1E#8 = some (.node 30) ∧
    Commanded demo 0x40#8 [0x40#8, 0x00#8] ∧ demo.findReq .portA 0x00#8 = some 0 := by decide +kernel

theorem witness_PurgeEvictsOrigin :
    Commanded demo 0x41#8 [0x00#8] ∧ originOf 0x00#8 = none ∧ Commanded demo 0x41#8 [0x40#8] ∧
    demo.reqsOf .portA = [0, 1, 2, 4] := by decide +kernel

/-! ## Administration and part events -/

theorem witness_PortRightsSetByPortA :
    (asking demo .portB 0x00#8 0x42#8 [0x01#8]).stands .portB 0x00#8 0x42#8 [0x01#8] =
      some (handed .portB 0x00#8 0x42#8 [0x01#8]) ∧
    Commanded demo 0x42#8 [0x02#8] ∧ Commanded demo 0x42#8 [0x01#8] ∧ Commanded demo 0x42#8 [0x00#8] := by decide +kernel

/-- 3999, 4000, 40000 and 40001. -/
theorem witness_TimebaseAndBitTime :
    Commanded demo 0x43#8 [0x0F#8, 0x9F#8] ∧ Commanded demo 0x43#8 [0x0F#8, 0xA0#8] ∧ Commanded demo 0x43#8 [0x9C#8, 0x40#8] ∧
    Commanded demo 0x43#8 [0x9C#8, 0x41#8] ∧ nat16 0x0F#8 0xA0#8 = 4000 ∧ nat16 0x9C#8 0x40#8 = 40000 := by decide +kernel

theorem witness_RouteReplaced :
    Commanded demo 0x44#8 [0x07#8, 0x00#8] ∧ Commanded demo 0x44#8 [0x00#8, 0x04#8] ∧
    Commanded demo 0x44#8 [0x06#8, Route.code .both] ∧ (0x06#8 : Byte).toNat = (6 : Fin 7).val ∧
    (asking demo .portB 0x00#8 0x44#8 [0x06#8, 0x03#8]).stands .portB 0x00#8 0x44#8 [0x06#8, 0x03#8] =
      some (handed .portB 0x00#8 0x44#8 [0x06#8, 0x03#8]) ∧ demo.admin .portB = false := by decide +kernel

/-- The small state with 15 free records, below its threshold 16, and the alarm in this state. -/
def lowPool (alarm : PoolState) : State := { demo with freeRecords := 15, poolState := alarm }

theorem witness_EventsRaised :
    demo.freeRecords = 503 ∧ demo.poolThreshold ≤ demo.freeRecords ∧ demo.poolState = .armed := by decide +kernel

theorem witness_EventsRaised_below :
    (lowPool .armed).freeRecords = 15 ∧ (lowPool .armed).freeRecords < (lowPool .armed).poolThreshold ∧
    (lowPool .armed).poolState = .armed ∧ (lowPool .fired).poolState = .fired := by decide +kernel

theorem witness_EventsReadAndCleared :
    Commanded demo 0x45#8 [] ∧
    (asking demo .portB 0x00#8 0x45#8 []).stands .portB 0x00#8 0x45#8 [] = some (handed .portB 0x00#8 0x45#8 []) ∧
    (asking demo (.node 1) 0x00#8 0x45#8 []).stands (.node 1) 0x00#8 0x45#8 [] = some (handed (.node 1) 0x00#8 0x45#8 []) := by
  decide +kernel

/-- The thresholds 65 and 64, above and not above the free records. -/
theorem witness_PoolThresholdSet :
    Commanded demo 0x46#8 [0x41#8] ∧ Commanded demo 0x46#8 [0x40#8] ∧ (0x40#8 : Byte).toNat ≤ demo.freeRecords ∧
    Commanded { demo with freeRecords := 63 } 0x46#8 [0x40#8] ∧
    (asking demo .portB 0x00#8 0x46#8 [0x01#8]).stands .portB 0x00#8 0x46#8 [0x01#8] =
      some (handed .portB 0x00#8 0x46#8 [0x01#8]) ∧ demo.admin .portB = false := by decide +kernel

/-! ## The node link -/

/-- A roster of 29 nodes and of 30, 1 being free in neither case but for the shorter one's 30. -/
def rosterOf (n : Nat) : List NodeRecord := (List.range n).map fun k => joinedRecord (k + 1)

theorem witness_NodeAdded :
    Commanded demo 0x50#8 [0x00#8] ∧ Commanded demo 0x50#8 [0x1F#8] ∧ Commanded demo 0x50#8 [0x01#8] ∧
    (∃ n ∈ demo.link.roster, n.address = 1) ∧ Commanded demo 0x50#8 [0x1E#8] ∧ (∀ n ∈ demo.link.roster, n.address ≠ 30) ∧
    demo.link.roster.length < 30 ∧ (rosterOf 29).length < 30 ∧ (∀ n ∈ rosterOf 29, n.address ≠ 30) ∧
    30 ≤ (joinedRecord 31 :: rosterOf 29).length ∧ (∀ n ∈ joinedRecord 31 :: rosterOf 29, n.address ≠ 30) := by decide +kernel

/-- The small state with the exchange and the link so changed. -/
def linked (x : Option Exchange) (f : Link → Link) : State := { demo with link := f { demo.link with exchange := x } }

/-- Node 1 is LEAVING at the end of its exchange. -/
def leaving : State :=
  linked (some ⟨1, .ending⟩) fun l => { l with roster := [⟨1, .leaving, 0, 0, some 3, some ⟨3, .ok, []⟩, false, some 1⟩] }

theorem test_leaving_roster : leaving.rosterLegal := by decide +kernel
theorem test_leaving_claims : leaving.claimsLegal := by decide +kernel

theorem witness_NodeRemovedOrLeaving :
    Commanded demo 0x51#8 [0x00#8] ∧ Commanded demo 0x51#8 [0x1F#8] ∧ Commanded demo 0x51#8 [0x1E#8] ∧ demo.node 30 = none ∧
    Commanded demo 0x51#8 [0x01#8] ∧ (demo.node 1).map NodeRecord.state = some .active ∧ demo.link.exchange = none ∧
    (linked (some ⟨1, .polling⟩) id).link.exchange = some ⟨1, .polling⟩ ∧ Commanded (linked (some ⟨1, .polling⟩) id) 0x51#8 [0x01#8] ∧
    (leaving.node 1).map NodeRecord.state = some .leaving ∧ Commanded leaving 0x51#8 [0x01#8] := by decide +kernel

def disabledState : State := { State.reset with inReset := false }

/-- A disabled link whose exchange with node 1 is at its end, a bit time waiting. -/
def disabledAtEnd : State :=
  { disabledState with
    link := { Link.reset with roster := [joinedRecord 1], exchange := some ⟨1, .ending⟩, bitTimePending := true } }

theorem test_disabledAtEnd_roster : disabledAtEnd.rosterLegal := by decide +kernel
theorem test_disabledAtEnd_link : disabledAtEnd.linkLegal := by decide +kernel

/-- An exchange at its end, on an enabled link and on a disabled one, for SET_TIMEBASE and LINK_CONFIG. -/
theorem witness_exchange_at_its_end :
    (linked (some ⟨1, .ending⟩) id).link.exchange ≠ none ∧ Commanded (linked (some ⟨1, .ending⟩) id) 0x43#8 [0x0F#8, 0xA0#8] ∧
    Commanded (linked (some ⟨1, .ending⟩) id) 0x53#8 [0x03#8, 0x00#8] ∧ disabledAtEnd.link.enabled = false ∧
    Commanded disabledAtEnd 0x53#8 [0x03#8, 0x01#8] ∧
    disabledAtEnd.link.exchange = some ⟨1, .ending⟩ := by decide +kernel

theorem test_disabled_roster : disabledState.rosterLegal := by decide +kernel
theorem test_disabled_link : disabledState.linkLegal := by decide +kernel

theorem witness_LinkConfigured :
    Commanded demo 0x53#8 [0x04#8, 0x00#8] ∧ Commanded demo 0x53#8 [0x00#8, 0x02#8] ∧ Commanded demo 0x53#8 [0x03#8, 0x01#8] ∧
    Commanded demo 0x53#8 [0x00#8, 0x00#8] ∧ demo.link.enabled = true ∧ demo.link.exchange = none ∧
    (linked (some ⟨1, .polling⟩) id).link.exchange ≠ none ∧ Commanded (linked (some ⟨1, .polling⟩) id) 0x53#8 [0x00#8, 0x00#8] ∧
    disabledState.link.enabled = false ∧
    Commanded disabledState 0x53#8 [0x03#8, 0x00#8] ∧ Commanded disabledState 0x53#8 [0x00#8, 0x01#8] := by decide +kernel

/-- Node 1 due from the start; node 2 SILENT and not due after it; node 1's response awaited; a link that is disabled. -/
theorem witness_SelectionPollsLowestDue :
    demo.link.exchange = none ∧ demo.link.pollWait = false ∧ demo.link.enabled = true ∧ demo.link.roster ≠ [] ∧
    (demo.link.roster.head?.map fun n => (n.address, n.state)) = some (1, .active) ∧
    (linked none fun l => { l with cyclePosition := some 1, cycleCount := 9 }).rosterLegal ∧
    (asking demo (.node 1) 0x00#8 0x12#8 []).decoder = [handed (.node 1) 0x00#8 0x12#8 []] ∧
    (linked none fun l => { l with roster := [] }).rosterLegal := by decide +kernel

/-- Node 1's response is awaited, node 2 is not due; a ROSTER_ADD of node 30 and a ROSTER_REMOVE of node 1 have come as well. -/
def awaiting (command : Handed) : State :=
  { linked none fun l => { l with cycleCount := 9 } with decoder := [handed (.node 1) 0x00#8 0x12#8 [], command] }

def addNode30 : Handed := handed .portA 0xFF#8 0x50#8 [0x1E#8]
def removeNode1 : Handed := handed .portA 0xFF#8 0x51#8 [0x01#8]

/-- NLC waits for node 1's response; a node added meanwhile is not polled before that response is written (R142). -/
theorem test_response_wait :
    (ran (awaiting addNode30) [.nodeSelection]).link.responseWait = [1] ∧
    (ran (awaiting addNode30) [.nodeSelection, .rosterAdd .portA 0xFF#8 [0x1E#8], .nodeSelection]).link.exchange = none ∧
    (ran (awaiting addNode30) [.nodeSelection, .rosterAdd .portA 0xFF#8 [0x1E#8], .renew (.node 1) 0x00#8 [],
      .nodeSelection]).link.exchange = some ⟨1, .polling⟩ := by decide +kernel

/-- The deletion of the node ends the wait (assumption 20). -/
theorem test_response_wait_removed :
    (ran (awaiting removeNode1) [.nodeSelection, .rosterRemove .portA 0xFF#8 [0x01#8]]).link.responseWait = [] := by decide +kernel

theorem test_awaiting_link : (ran (awaiting addNode30) [.nodeSelection]).linkLegal := by decide +kernel

theorem witness_ReplyWindowReceives :
    (linked (some ⟨1, .polling⟩) id).link.exchange = some ⟨1, .polling⟩ ∧
    (linked (some ⟨1, .window []⟩) id).link.exchange = some ⟨1, .window []⟩ ∧
    replyProgress [0x3A#8] = .incomplete ∧ replyProgress (replyFrame ⟨0x01#8, none, none, none⟩) = .complete ∧
    leaving.link.exchange = some ⟨1, .ending⟩ ∧ demo.link.exchange = none := by decide +kernel

/-- The window of a poll to node 1 with these reply bytes. -/
def heard (reply : List Byte) : State := linked (some ⟨1, .window reply⟩) id

theorem witness_FailedExchangeCounted :
    (heard []).link.exchange = some ⟨1, .window []⟩ ∧ ((heard []).node 1).map NodeRecord.state = some .active ∧
    replyProgress [0x3A#8, 0x01#8] = .incomplete ∧
    replyProgress [0x3A#8, 0x01#8, 0x00#8, 0x00#8, 0x00#8] = .complete ∧
    classify 1 [0x3A#8, 0x01#8, 0x00#8, 0x00#8, 0x00#8] = .bad ∧
    classify 1 (replyFrame ⟨0x02#8, none, none, none⟩) = .miss ∧ replyProgress (replyFrame ⟨0x02#8, none, none, none⟩) = .complete ∧
    replyProgress [0x3A#8, 0x01#8, 0x04#8, 0x00#8, 0x00#8, 0x10#8, 0x38#8] = .badLength ∧
    (leaving.node 1).map NodeRecord.state = some .leaving := by decide +kernel

/-- A reply of these fields, its CRC right. -/
def replyOf (source control : Byte) (blocks : List Byte) : List Byte :=
  0x3A#8 :: source :: control :: (blocks ++ bytes16 (crc16 (source :: control :: blocks)).toNat)

/-- Control bit 3; RESP_ACK 15 and 16; request sequences 15 and 16; payload lengths 32 and 33; another node. -/
theorem witness_FailedExchangeCounted_bad :
    replyProgress (replyOf 0x01#8 0x08#8 []) = .complete ∧ replyProgress (replyOf 0x01#8 0x01#8 [0x10#8]) = .complete ∧
    replyProgress (replyOf 0x01#8 0x04#8 [0x10#8, 0x00#8, 0x12#8, 0x00#8]) = .complete ∧
    replyProgress (replyOf 0x01#8 0x04#8 ([0x0F#8, 0x00#8, 0x12#8, 0x21#8] ++ List.replicate 33 0x00#8)) = .complete ∧
    classify 1 (replyOf 0x01#8 0x08#8 []) = .bad ∧ classify 1 (replyOf 0x01#8 0x01#8 [0x10#8]) = .bad ∧
    classify 1 (replyOf 0x01#8 0x01#8 [0x0F#8]) = .good ⟨0x01#8, some 15, none, none⟩ ∧
    classify 1 (replyOf 0x01#8 0x04#8 ([0x0F#8, 0x00#8, 0x12#8, 0x20#8] ++ List.replicate 32 0x00#8)) =
      .good ⟨0x01#8, none, none, some ⟨15, 0x00#8, 0x12#8, List.replicate 32 0x00#8⟩⟩ ∧
    classify 1 (replyOf 0x02#8 0x00#8 []) = .miss := by decide +kernel

/-- A reply that acknowledges the stored response and the notice and carries a new request, one whose request is a duplicate, one with
no block. -/
theorem witness_GoodReplyTaken :
    let good : Reply := ⟨0x01#8, some 3, some 1, some ⟨4, 0x00#8, 0x12#8, []⟩⟩
    let again : Reply := ⟨0x01#8, some 2, some 9, some ⟨3, 0x00#8, 0x12#8, []⟩⟩
    let empty : Reply := ⟨0x01#8, none, none, none⟩
    classify 1 (replyFrame good) = .good good ∧ replyProgress (replyFrame good) = .complete ∧
    classify 1 (replyFrame again) = .good again ∧ replyProgress (replyFrame again) = .complete ∧
    classify 1 (replyFrame empty) = .good empty ∧ replyProgress (replyFrame empty) = .complete ∧
    (heard (replyFrame good)).link.exchange = some ⟨1, .window (replyFrame good)⟩ ∧
    codeNamesRequester (.node 1) 0x12#8 = true ∧ codeNamesRequester (.node 1) 0x47#8 = false ∧
    demo.req 3 = some ⟨.node 1, 0x00#8, 0, 24, 0, 0, 100, some 100, false⟩ ∧
    (demo.noticeQueue 3).head? = some ⟨3, 1, 2, 0x00#8, .revoked .retired⟩ := by decide +kernel

/-- A LEAVING node, and a node that stays with a disable or a bit time waiting. -/
theorem witness_DeferredClaimsTaken :
    (∃ n ∈ leaving.link.roster, n.address = 1 ∧ n.state = .leaving) ∧
    (let waiting := linked (some ⟨1, .ending⟩) fun l => { l with pendingDisable := true, bitTimePending := true }
     waiting.rosterLegal ∧ waiting.link.exchange = some ⟨1, .ending⟩ ∧ waiting.link.pendingDisable = true ∧
     waiting.link.bitTimePending = true ∧ ¬ ∃ n ∈ waiting.link.roster, n.address = 1 ∧ n.state = .leaving) := by decide +kernel

/-! ## Worked sequences of the manual, a step at a time -/

/-- The result byte of the response that a port holds. -/
def resultAt (s : State) (p : PortId) : Option Byte := (s.port p).response.bind fun bytes => bytes[2]?

/-- A part with these entries, requesters and commands at the decoder, both ports WORKING. -/
def scene (slots : Vector Slot 256) (requesters : Vector (Option Requester) 48) (commands : List Handed) : State :=
  { State.reset with
    slots := slots, requesters := requesters, decoder := commands, inReset := false
    portA := { Port.reset with phase := .working }, portB := { Port.reset with phase := .working } }

/-- Section 2.10 before event 5: requester 5 holds slot 9, requesters 6 and 2 wait; a RELEASE of 5 and a CANCEL of 2 have come. -/
def race : State :=
  scene (State.reset.slots.set 9 ⟨0x00#8, some ⟨0x00A210#24, .exclusive, 2, 0, [holdOf 5 .exclusive],
      [holdOf 6 .shared, holdOf 2 .shared], [], false, 18⟩⟩)
    (((State.reset.requesters.set 5 (openReq .portA 0x05#8 3 24 1 0 0)).set 6 (openReq .portA 0x06#8 2 24 0 1 0)).set 2
      (openReq .portB 0x02#8 1 24 0 1 0))
    [handed .portA 0x05#8 0x32#8 [0x09#8, 0x00#8], handed .portB 0x02#8 0x34#8 [0x09#8, 0x00#8]]

def raceRelease : Instr := .release .portA 0x05#8 [0x09#8, 0x00#8]
def raceCancel : Instr := .cancel .portB 0x02#8 [0x09#8, 0x00#8]

/-- Table 2.8, first column (result OK is 00h). -/
theorem test_race_cancel_first :
    (ran race [raceCancel, raceRelease]).entry 9 =
      some ⟨0x00A210#24, .shared, 2, 0, [holdOf 6 .shared], [], [], false, 19⟩ ∧
    resultAt (ran race [raceCancel, raceRelease]) .a = some 0x00#8 ∧
    resultAt (ran race [raceCancel, raceRelease]) .b = some 0x00#8 ∧
    (ran race [raceCancel, raceRelease]).notices = [⟨6, 0, 9, 0x00#8, .granted .shared none⟩] := by decide +kernel

/-- Table 2.8, second column; the holder set stands in slot order. -/
theorem test_race_release_first :
    ((ran race [raceRelease, raceCancel]).entry 9).map (fun en => (en.holders.map Claim.requester, en.queue, en.grantCount)) =
      some ([2, 6], [], 20) ∧
    resultAt (ran race [raceRelease, raceCancel]) .b = some Result.notWaiting.code ∧
    (ran race [raceRelease, raceCancel]).notices =
      [⟨6, 0, 9, 0x00#8, .granted .shared none⟩, ⟨2, 1, 9, 0x00#8, .granted .shared none⟩] := by decide +kernel

/-- Section 4.7.2, requester 5 having this priority. -/
def closing (priority : Nat) : State :=
  scene ((State.reset.slots.set 40 ⟨0x00#8, some ⟨0x000040#24, .exclusive, 1, 0, [holdOf 6 .exclusive],
      [holdOf 5 .exclusive], [], false, 0⟩⟩).set 41
      ⟨0x00#8, some ⟨0x000041#24, .exclusive, 1, 0, [holdOf 7 .exclusive], [holdOf 6 .exclusive], [], false, 0⟩⟩)
    (((State.reset.requesters.set 5 (openReq .portA 0x05#8 priority 24 0 1 0)).set 6 (openReq .portA 0x06#8 1 24 1 1 0)).set 7
      (openReq .portA 0x07#8 1 24 1 0 0))
    [handed .portA 0x05#8 0x30#8 [0x29#8, 0x00#8, 0x00#8, 0xFF#8, 0xFF#8]]

def closingAcquire : Instr := .acquire .portA 0x05#8 [0x29#8, 0x00#8, 0x00#8, 0xFF#8, 0xFF#8]

/-- Table 4.1, both columns; the answer of the second is QUEUED, position 2, queue length 2. -/
theorem test_priority_closes_cycle :
    resultAt (ran (closing 3) [closingAcquire]) .a = some Result.wouldDeadlock.code ∧
    (ran (closing 1) [closingAcquire]).portA.response.map (fun bytes => (bytes.drop 2).take 3) =
      some [Result.queued.code, 0x02#8, 0x02#8] := by decide +kernel

/-- Section 10.6 after event 1: a FETCH_NOTICE of requester 3 stands at the decoder. -/
def busy : State :=
  { scene State.reset.slots (State.reset.requesters.set 3 (openReq .portA 0x04#8 0 24 0 0 0))
      [handed .portA 0x04#8 0x15#8 []] with
    notices := [⟨3, 0, 1, 0x00#8, .granted .exclusive none⟩, ⟨3, 1, 2, 0x00#8, .revoked .retired⟩] }

def busyRows : List Instr :=
  [.transferStart .a, .commandFrameEnd .a (List.replicate 6 0x00#8) false, .fetchNotice .portA 0x04#8 [],
    .transferStart .a, .responseReadEnd .a 5]

/-- Table 10.1 after events 4 and 5. -/
theorem test_busy_port :
    ((ran busy busyRows).portA.phase, (ran busy busyRows).portA.busyDiscard, (ran busy busyRows).notices.length) =
      (.holding, true, 1) ∧
    (let t := ran busy (busyRows ++ [.transferStart .a, .responseReadEnd .a 20])
     (t.portA.phase, t.portA.busyDiscard, t.portA.response) = (.ready, false, none) ∧
     (match t.portA.sdo with | .clocked bytes => bytes.getLast? | _ => none) = some 0xFF#8) := by
  decide +kernel

/-- RELEASE by the holder of entry 1 lets in the set 9, which waits there and on entry 4 (R59, R60). -/
theorem test_release_grants_set :
    let t := ran demo [.release .portA 0x00#8 [0x01#8, 0x00#8]]
    ((t.entry 1).map fun en => (en.holders.map Claim.requester, en.queue.map Claim.requester)) = some ([2], [1]) ∧
    ((t.entry 4).map fun en => (en.holders.map Claim.requester, en.queue)) = some ([2], []) ∧
    t.freeRecords = 504 ∧ t.notices.map Notice.serial = [0, 1, 2] := by decide +kernel

/-! ## Invariants -/

/-- A part whose port A is in a response read. -/
def reading : State :=
  { State.reset with
    inReset := false
    portA := { Port.reset with
      phase := .holding, transfer := some .responseRead, response := some [0x02#8], sdo := .sending [0x02#8] } }

/-- The ports in a response read and in reset meet their premise. -/
theorem witness_PortsKept_reading : reading.portsLegal := by decide +kernel
theorem witness_PortsKept_reset : State.reset.portsLegal := by decide +kernel


/-- The waiting relation of the small state has no cycle. -/
theorem test_demo_acyclic : Acyclic demo.waitEdges :=
  no_cycle (fun r => if r = 1 then 2 else if r = 2 then 1 else 0) (by decide +kernel)

/-- The small state takes its pending RELEASE; with the test_demo theorems it meets the hypotheses of every invariant below. -/
theorem witness_every_step_keeps : ∃ t, step demo = .next t := ⟨_, rfl⟩

end Sys2Proof.Tests
end

section
/-! The tests of ACQUIRE as equations of its effect (R26, R27, R29), and the statement about the refusal BUSY. -/

namespace Sys2Proof.Machine

@[simp] theorem modeOf_code (m : Mode) : modeOf m.code = some m := by
  cases m <;> rfl

/-- The model's test of R27 is the condition in which the statements name it. -/
theorem Entry.grantsAtOnce_iff (en : Entry) (m : Mode) : en.grantsAtOnce m = true ↔ AtOnce en m := by
  cases m with
  | exclusive => simp [Entry.grantsAtOnce, AtOnce]
  | shared => simp [Entry.grantsAtOnce, AtOnce, and_assoc]

/-- An ACQUIRE that passes every test of R26 goes on to R27. -/
theorem acquireEffect_of_allowed {s : State} {r : ReqSlot} {f : AcquireFields} {m : Mode} {en : Entry} {q : Requester}
    (hm : modeOf f.mode = some m) (he : s.entryOf f.handle = some en) (hq : s.req r = some q)
    (ha : ClaimAllowed s r q en) : acquireEffect r f s = acquireTested r f.handle.slot en m f.waitLimit s := by
  obtain ⟨hretiring, hclaimed, hbudget, hpool⟩ := ha
  simp [acquireEffect, hm, he, hq, hretiring, hclaimed, hbudget, hpool]

/-- With wait limit 0 an ACQUIRE that passed its tests is granted at once or refused BUSY (R29). -/
theorem acquireTested_busy {en : Entry} {m : Mode} (hn : ¬ AtOnce en m) (r : ReqSlot) (e : EntrySlot) (s : State) :
    acquireTested r e en m 0 s = refuse .busy s := by
  have hg : ¬ en.grantsAtOnce m = true := fun h => hn ((en.grantsAtOnce_iff m).mp h)
  simp [acquireTested, hg]

/-- An ACQUIRE that passes every test of R26 is answered by what R27 to R30 say of it on the state with the tenure restarted, whose
entries and pool are those of the state it is taken in. -/
theorem answers_acquire_of_allowed {s u v : State} {o : Origin} {rid a g hi lo : Byte} {m : Mode} {h : Handed} {r : ReqSlot}
    {q : Requester} {en : Entry} {answer : Answer}
    (hA : Asked s o rid 0x30#8 [a, g, m.code, hi, lo] h r q) (he : s.entryOf (handleOf a g) = some en)
    (ha : ClaimAllowed s r q en)
    (ht : acquireTested r (slotOf a) en m (nat16 hi lo)
      { s.renewed r q with decoder := s.decoder.eraseP fun x => x.origin = o } = (v, answer))
    (hv : v = { u with decoder := u.decoder.eraseP fun x => x.origin = o }) :
    Answers (.acquire o rid [a, g, m.code, hi, lo]) s (u.reportPool s.freeRecords) h answer := by
  have hq : (s.renewed r q).req r = some q.renewed := by simp
  have htests := acquireEffect_of_allowed (f := ⟨handleOf a g, m.code, nat16 hi lo⟩)
    (s := { s.renewed r q with decoder := s.decoder.eraseP fun x => x.origin = o }) (modeOf_code m) he hq ha
  exact answers_requester hA rfl rfl (htests.trans ht) hv

/-- Settles O22: the refusal leaves the state with the tenure restarted as it is, so the report of the pool has nothing to tell. -/
theorem acquireBusy : Obligations.AcquireBusy := by
  intro s o rid a g m h r q en hasked hentry hallowed hn
  have hanswer := answers_acquire_of_allowed (u := s.renewed r q) hasked hentry hallowed (acquireTested_busy hn r _ _) rfl
  have hpool : (s.renewed r q).reportPool s.freeRecords = s.renewed r q := State.reportPool_same _
  rwa [hpool] at hanswer

end Sys2Proof.Machine
end

section
/-! The command SET_PORT_RIGHTS: its effect by origin and byte (R96), and the statement about it. -/

namespace Sys2Proof.Machine

/-- A command without a requester that needs no right, taken without a change of the free records: the report of the pool has nothing
to tell (R129). -/
theorem answers_plain_same {s u : State} {i : Instr} {o : Origin} {rid code : Byte} {payload : List Byte} {h : Handed}
    {a : Answer} {α : Type} {f : α} {fields : Option α} {effect : α → Effect}
    (hs : s.stands o rid code payload = some h)
    (hi : exec i s = takeCommand o rid code payload false (plainEffect fields effect) s)
    (hf : fields = some f) (he : effect f (s.dropHanded o) = (u.dropHanded o, a)) (hfree : u.freeRecords = s.freeRecords) :
    Answers i s u h a := by
  have hanswer := answers_plain hs hi hf he rfl
  rwa [← hfree, State.reportPool_same] at hanswer

theorem adminGrantOf_of_one_lt {b : Byte} (hb : 1 < b.toNat) : adminGrantOf b = none := by
  have h0 : b ≠ 0x00#8 := by bv_omega
  have h1 : b ≠ 0x01#8 := by bv_omega
  rw [adminGrantOf, if_neg h0, if_neg h1]

theorem adminGrantOf_of_le_one {b : Byte} (hb : b.toNat ≤ 1) : adminGrantOf b = some (decide (b = 0x01#8)) := by
  have hcases : b = 0x00#8 ∨ b = 0x01#8 := by bv_omega
  obtain rfl | rfl := hcases <;> rfl

/-- The test of R96 asks for the origin, not for ADMIN. -/
theorem setPortRightsEffect_of_ne_portA {o : Origin} (ho : o ≠ .portA) (b : Byte) (s : State) :
    setPortRightsEffect o b s = refuse .noRight s :=
  if_neg ho

theorem setPortRightsEffect_of_one_lt {b : Byte} (hb : 1 < b.toNat) (s : State) :
    setPortRightsEffect .portA b s = refuse .badValue s := by
  simp [setPortRightsEffect, adminGrantOf_of_one_lt hb]

theorem setPortRightsEffect_of_le_one {b : Byte} (hb : b.toNat ≤ 1) (s : State) :
    setPortRightsEffect .portA b s = changeOk (fun s => { s with adminB := decide (b = 0x01#8) }) s := by
  simp [setPortRightsEffect, adminGrantOf_of_le_one hb]

/-- A SET_PORT_RIGHTS with its one byte is answered by its effect on the state without it. -/
theorem answers_setPortRights {s u : State} {o : Origin} {rid b : Byte} {h : Handed} {a : Answer}
    (hs : s.stands o rid 0x42#8 [b] = some h) (he : setPortRightsEffect o b (s.dropHanded o) = (u.dropHanded o, a))
    (hfree : u.freeRecords = s.freeRecords) : Answers (.setPortRights o rid [b]) s u h a :=
  answers_plain_same hs rfl rfl he hfree

/-- Settles O37, by the three cases of R96: another origin than port A, a byte above 1, and GRANT or WITHDRAW from port A. -/
theorem portRightsSetByPortA : Obligations.PortRightsSetByPortA := by
  intro s o rid b h hs
  refine ⟨fun ho => ?_, fun ho hb => ?_, fun ho hb => ?_⟩
  · exact answers_setPortRights hs (setPortRightsEffect_of_ne_portA ho b _) rfl
  · subst ho
    exact answers_setPortRights hs (setPortRightsEffect_of_one_lt hb _) rfl
  · subst ho
    exact answers_setPortRights hs (setPortRightsEffect_of_le_one hb _) rfl

end Sys2Proof.Machine
end

section
/-! The commands with the right ADMIN that set up the part events: ROUTE_EVENT (R126) and SET_POOL_THRESHOLD (R130), their effects by
the fields they carry, and the statements about them. -/

namespace Sys2Proof.Machine

/-! ### A command that requires ADMIN -/

/-- A command that requires ADMIN, from an origin that holds it, taken without a change of the free records: the report of the pool has
nothing to tell (R129). -/
theorem answers_admin_same {s u : State} {i : Instr} {o : Origin} {rid code : Byte} {payload : List Byte} {h : Handed}
    {a : Answer} {α : Type} {f : α} {fields : Option α} {effect : α → Effect}
    (hs : s.stands o rid code payload = some h) (hadmin : s.admin o = true)
    (hi : exec i s = takeCommand o rid code payload false (adminEffect o fields effect) s)
    (hf : fields = some f) (he : effect f (s.dropHanded o) = (u.dropHanded o, a)) (hfree : u.freeRecords = s.freeRecords) :
    Answers i s u h a := by
  have hanswer := answers_admin hs hadmin hi hf he rfl
  rwa [← hfree, State.reportPool_same] at hanswer

@[simp] theorem State.admin_dropHanded (s : State) (o o' : Origin) : (s.dropHanded o).admin o' = s.admin o' := by
  cases o' <;> rfl

/-- A command that requires ADMIN, from an origin that does not hold it, is refused whatever its effect is (R95, R156). -/
theorem answers_noRight {s : State} {i : Instr} {o : Origin} {rid code : Byte} {payload : List Byte} {h : Handed} {α : Type}
    {f : α} {fields : Option α} {effect : α → Effect}
    (hs : s.stands o rid code payload = some h) (hadmin : s.admin o = false)
    (hi : exec i s = takeCommand o rid code payload false (adminEffect o fields effect) s) (hf : fields = some f) :
    Answers i s s h ⟨.noRight, []⟩ := by
  have he : adminEffect o fields effect (s.dropHanded o) = refuse .noRight (s.dropHanded o) := by
    simp [adminEffect, hf, hadmin]
  exact answers_of_effect_same hi hs he rfl rfl

/-! ### ROUTE_EVENT -/

@[simp] theorem routeOf_code (route : Route) : routeOf route.code = some route := by
  cases route <;> rfl

theorem routeOf_of_three_lt {b : Byte} (hb : 3 < b.toNat) : routeOf b = none := by
  have hne : ∀ c : Byte, c.toNat ≤ 3 → b ≠ c := by
    rintro c hc rfl
    omega
  simp [routeOf, hne]

theorem PartEvent.index_surjective : Function.Surjective PartEvent.index
  | 0 => ⟨.nodeSilent, rfl⟩
  | 1 => ⟨.nodeJoined, rfl⟩
  | 2 => ⟨.requesterEvicted, rfl⟩
  | 3 => ⟨.poolLow, rfl⟩
  | 4 => ⟨.frameErrorA, rfl⟩
  | 5 => ⟨.frameErrorB, rfl⟩
  | 6 => ⟨.linkError, rfl⟩

/-- The code of a part event is its index (Table 10.4). -/
theorem partEventOf_of_toNat_eq_index {b : Byte} {ev : PartEvent} (hb : b.toNat = ev.index.val) : partEventOf b = some ev := by
  have hcode : b = BitVec.ofNat 8 ev.index.val := by rw [← hb, BitVec.ofNat_toNat, BitVec.setWidth_eq]
  subst hcode
  cases ev <;> rfl

theorem partEventOf_of_six_lt {b : Byte} (hb : 6 < b.toNat) : partEventOf b = none := by
  have hne : ∀ c : Byte, c.toNat ≤ 6 → b ≠ c := by
    rintro c hc rfl
    omega
  simp [partEventOf, hne]

theorem routeEventEffect_of_bad {a b : Byte} (hbad : partEventOf a = none ∨ routeOf b = none) (s : State) :
    routeEventEffect (a, b) s = refuse .badValue s := by
  obtain ha | hb := hbad
  · simp [routeEventEffect, ha]
  · simp [routeEventEffect, hb]

theorem routeEventEffect_of_index {a : Byte} {ev : PartEvent} (ha : a.toNat = ev.index.val) (route : Route) (s : State) :
    routeEventEffect (a, route.code) s =
      ({ s with routes := s.routes.set ev.index.val route }, ⟨.ok, [(s.routes[ev.index.val]).code]⟩) := by
  simp [routeEventEffect, partEventOf_of_toNat_eq_index ha]

/-- Settles O39: without the right R95 refuses, an event code above 6 or a route above 3 decodes to nothing, and every index is that of
the event whose route is written (R126). -/
theorem routeReplaced : Obligations.RouteReplaced := by
  intro s o rid a b h hs
  refine ⟨fun hadmin => ?_, fun hadmin hrange => ?_, fun n route hadmin ha hb => ?_⟩
  · exact answers_noRight hs hadmin rfl rfl
  · have hbad := hrange.imp partEventOf_of_six_lt routeOf_of_three_lt
    exact answers_admin_same hs hadmin rfl rfl (routeEventEffect_of_bad hbad _) rfl
  · obtain ⟨ev, rfl⟩ := PartEvent.index_surjective n
    subst hb
    exact answers_admin_same hs hadmin rfl rfl (routeEventEffect_of_index ha route _) rfl

/-! ### SET_POOL_THRESHOLD -/

theorem rearmed_of_lt {free threshold : Nat} (hlt : free < threshold) : rearmed free threshold = .fired :=
  if_neg (Nat.not_le.mpr hlt)

theorem rearmed_of_le {free threshold : Nat} (hle : threshold ≤ free) : rearmed free threshold = .armed :=
  if_pos hle

theorem setPoolThresholdEffect_of_lt {b : Byte} (hb : 64 < b.toNat) (s : State) :
    setPoolThresholdEffect b s = refuse .badValue s :=
  if_pos hb

theorem setPoolThresholdEffect_of_le {b : Byte} (hb : b.toNat ≤ 64) (s : State) :
    setPoolThresholdEffect b s =
      ({ s with poolThreshold := b.toNat, poolState := rearmed s.freeRecords b.toNat }, ⟨.ok, []⟩) := by
  rw [setPoolThresholdEffect, if_neg (Nat.not_lt.mpr hb)]
  rfl

/-- A threshold in range is written with the re-arming state that follows from the free records, whose count it leaves (R130). -/
theorem answers_setPoolThreshold {s : State} {o : Origin} {rid b : Byte} {h : Handed} {alarm : PoolState}
    (hs : s.stands o rid 0x46#8 [b] = some h) (hadmin : s.admin o = true) (hb : b.toNat ≤ 64)
    (halarm : rearmed s.freeRecords b.toNat = alarm) :
    Answers (.setPoolThreshold o rid [b]) s { s with poolThreshold := b.toNat, poolState := alarm } h ⟨.ok, []⟩ := by
  subst halarm
  exact answers_admin_same hs hadmin rfl rfl (setPoolThresholdEffect_of_le hb _) rfl

/-- Settles O42: the refusals of R95 and R130, then the free records below the threshold or not. -/
theorem poolThresholdSet : Obligations.PoolThresholdSet := by
  intro s o rid b h hs
  refine ⟨fun hadmin => ?_, fun hadmin hb => ?_, fun hadmin hb hlt => ?_, fun hadmin hb hle => ?_⟩
  · exact answers_noRight hs hadmin rfl rfl
  · exact answers_admin_same hs hadmin rfl rfl (setPoolThresholdEffect_of_lt hb _) rfl
  · exact answers_setPoolThreshold hs hadmin hb (rearmed_of_lt hlt)
  · exact answers_setPoolThreshold hs hadmin hb (rearmed_of_le hle)

end Sys2Proof.Machine
end

section
/-! What a step can do, said once: the changes that a command's effect can make to the state, the changes that a row can make, and the
inversion of step into them. Every invariant is a case analysis over these two relations. -/

namespace Sys2Proof.Machine

/-! ### Reading the requester that a command names -/

/-- The requester found by an origin and a local id is open under them. -/
theorem State.req_of_findReq {s : State} {o : Origin} {l : Byte} {r : ReqSlot} (h : s.findReq o l = some r) :
    ∃ q, s.req r = some q ∧ q.origin = o ∧ q.localId = l := by
  have hr := List.find?_some h
  cases hq : s.req r with
  | none => simp [hq] at hr
  | some q => exact ⟨q, rfl, by simpa [hq] using hr⟩

/-- A requester that is not found is open nowhere. -/
theorem State.findReq_eq_none {s : State} {o : Origin} {l : Byte} (h : s.findReq o l = none) (r : ReqSlot) (q : Requester)
    (hq : s.req r = some q) : ¬ (q.origin = o ∧ q.localId = l) := by
  have := List.find?_eq_none.mp h r (List.mem_finRange r)
  simpa [hq] using this

theorem State.req_of_lowestFree {s : State} {r : ReqSlot} (h : s.lowestFree = some r) : s.req r = none := by
  simpa using List.find?_some h

theorem State.entry_of_lowestUnused {s : State} {e : EntrySlot} (h : s.lowestUnused = some e) : s.entry e = none := by
  simpa using List.find?_some h

/-- A handle that names an entry names the live entry of its slot. -/
theorem State.entry_of_entryOf {s : State} {h : Handle} {en : Entry} (he : s.entryOf h = some en) : s.entry h.slot = some en := by
  unfold State.entryOf at he
  split at he
  · exact he
  · cases he

/-! ### The changes of commands -/

/-- The tests that an ACQUIRE_SET makes of its members, its budget and the pool all pass (R51, R52). -/
structure SetAllowed (s : State) (r : ReqSlot) (q : Requester) (members : List (EntrySlot × Mode)) : Prop where
  two : 2 ≤ members.length
  four : members.length ≤ 4
  distinct : (members.map Prod.fst).Nodup
  open' : s.req r = some q
  live : ∀ p ∈ members, ∃ en, s.entry p.1 = some en ∧ en.state ≠ .retiring ∧ en.claimed r = false
  budget : q.holdCount + q.waitCount + members.length ≤ q.budget
  pool : members.length ≤ s.freeRecords

/-- The changes that the effect of a command of this origin and local id can make, with the tests that come before each. -/
inductive Effected (o : Origin) (rid : Byte) : State → State → Prop where
  | unchanged (s : State) : Effected o rid s s
  | opened {s : State} {f : OpenFields} {r : ReqSlot} : openRefused o rid f = false → s.findReq o rid = none →
      s.lowestFree = some r → Effected o rid s (s.setReq r (some (openedRecord o rid f)))
  | reopened {s : State} {f : OpenFields} {r r' : ReqSlot} : openRefused o rid f = false → s.findReq o rid = some r →
      (s.evict r .reopen).lowestFree = some r' →
      Effected o rid s ((s.evict r .reopen).setReq r' (some (openedRecord o rid f)))
  | evicted (s : State) (r : ReqSlot) (cause : Cause) : Effected o rid s (s.evict r cause)
  | purged (s : State) (o' : Origin) : Effected o rid s (s.evictAll (s.reqsOf o') .purge)
  | reclaimed {s : State} {r : ReqSlot} {q : Requester} : s.req r = some q → Effected o rid s (s.reclaim r false)
  | closed {s : State} {r : ReqSlot} {q : Requester} : s.req r = some q →
      Effected o rid s (((s.reclaim r false).discardNotices r).setReq r none)
  | budgeted {s : State} {r : ReqSlot} {q : Requester} {b : Nat} : s.req r = some q → 1 ≤ b → b ≤ 24 →
      q.holdCount + q.waitCount ≤ b → Effected o rid s (s.modifyReq r fun q => { q with budget := b })
  | overrunCleared {s : State} {r : ReqSlot} {q : Requester} : s.req r = some q →
      Effected o rid s (s.setReq r (some { q with overrun := false }))
  | noticeFetched (s : State) (r : ReqSlot) : Effected o rid s (s.dropHeadNotice r)
  | defined {s : State} {f : DefineFields} {e : EntrySlot} : shareLimitBad f.shareLimit = false →
      (∀ p ∈ s.dir, p.1 ≠ f.tag) → s.lowestUnused = some e →
      Effected o rid s { s.setEntry e (definedEntry f) with dir := insertPair (f.tag, e) s.dir }
  | retired {s : State} {e : EntrySlot} {en : Entry} (force : Bool) : s.entry e = some en →
      Effected o rid s ((s.retireSteps e en force).1.1.runPasses .loud
        ((List.finRange 256).filter fun e' => (s.retireSteps e en force).1.2.contains e'))
  | limited {s : State} {e : EntrySlot} {en : Entry} {share : Nat} (hold : Nat) : s.entry e = some en →
      shareLimitBad share = false → en.holders.length ≤ share → share ≤ en.shareLimit →
      Effected o rid s (s.setEntry e { en with shareLimit := share, holdLimit := hold })
  | limitRaised {s : State} {e : EntrySlot} {en : Entry} {share : Nat} (hold : Nat) : s.entry e = some en →
      shareLimitBad share = false → en.holders.length ≤ share → en.shareLimit < share →
      Effected o rid s ((s.setEntry e { en with shareLimit := share, holdLimit := hold }).runPasses .loud [e])
  | noted {s : State} {e : EntrySlot} {en : Entry} {note : List Byte} : s.entry e = some en → note.length ≤ 8 →
      Effected o rid s (s.setEntry e { en with note := note, noteStale := false })
  | granted {s : State} {r : ReqSlot} {q : Requester} {e : EntrySlot} {en : Entry} {m : Mode} : s.entry e = some en →
      s.req r = some q → ClaimAllowed s r q en → AtOnce en m → Effected o rid s (s.grantNow r e m none)
  | placed {s : State} {r : ReqSlot} {q : Requester} {e : EntrySlot} {en : Entry} {m : Mode} {limit : Nat} :
      s.entry e = some en → s.req r = some q → ClaimAllowed s r q en → ¬ AtOnce en m →
      s.wouldDeadlock r [(e, ⟨r, m, none, false, waitDeadline limit⟩)] = false →
      Effected o rid s (placeSingle r e m limit s).1
  | setGranted {s : State} {r : ReqSlot} {q : Requester} {members : List (EntrySlot × Mode)} : SetAllowed s r q members →
      s.allAtOnce members = true →
      Effected o rid s (members.foldl (fun u p => u.grantNow r p.1 p.2 (some s.takeSetId.setIdCounter)) s.takeSetId)
  | setPlaced {s : State} {r : ReqSlot} {q : Requester} {members : List (EntrySlot × Mode)} {limit : Nat} :
      SetAllowed s r q members → s.allAtOnce members = false →
      s.wouldDeadlock r (setRecords r s.setIdCounter limit members) = false →
      Effected o rid s (placeSet r members limit s).1
  | released {s : State} {r : ReqSlot} {q : Requester} {e : EntrySlot} {en : Entry} : s.req r = some q →
      s.entry e = some en → (en.hold r).isSome →
      Effected o rid s (((s.dropHold r e false).recompute e).runPasses .loud [e])
  | cancelled {s : State} {r : ReqSlot} {q : Requester} {e : EntrySlot} {en : Entry} {c : Claim} : s.req r = some q →
      s.entry e = some en → en.wait r = some c → c.setId = none →
      Effected o rid s (((s.dropWait r e).recompute e).runPasses .loud [e])
  | setCancelled {s : State} {r : ReqSlot} {q : Requester} {e : EntrySlot} {en : Entry} {c : Claim} {id : Word16} :
      s.req r = some q → s.entry e = some en → en.wait r = some c → c.setId = some id →
      Effected o rid s (s.endSet r id fun s => s)
  | upgraded {s : State} {r : ReqSlot} {e : EntrySlot} {en : Entry} {c : Claim} : s.entry e = some en →
      en.hold r = some c → c.mode = .shared → (∀ d ∈ en.holders, d.requester = r) →
      Effected o rid s ((s.setEntry e (en.setHoldMode r .exclusive)).recompute e)
  | downgraded {s : State} {r : ReqSlot} {e : EntrySlot} {en : Entry} : s.entry e = some en → en.holdsExclusive r = true →
      Effected o rid s (((s.setEntry e (en.setHoldMode r .shared)).recompute e).runPasses .loud [e])
  | rightsSet (s : State) (g : Bool) : Effected o rid s { s with adminB := g }
  | timebaseSet {s : State} {n : Nat} : 4000 ≤ n → n ≤ 40000 →
      Effected o rid s ({ s with divider := n, clkCount := 0 } : State).deriveBitTime
  | routed (s : State) (ev : PartEvent) (route : Route) : Effected o rid s { s with routes := s.routes.set ev.index.val route }
  | eventsCleared (s : State) (p : PortId) : Effected o rid s (s.clearEvents p)
  | thresholdSet {s : State} {n : Nat} : n ≤ 64 →
      Effected o rid s { s with poolThreshold := n, poolState := rearmed s.freeRecords n }
  | nodeAdded {s : State} {a : Nat} : addressValid a = true → s.node a = none →
      Effected o rid s
        ({ s with link := { s.link with roster := insertNode (joinedRecord a) s.link.roster } } : State).resumePolling
  | nodeLeaving {s : State} {a : Nat} : s.inExchange a = true →
      Effected o rid s (s.modifyNode a fun n => { n with state := .leaving })
  | nodeDeleted {s : State} {a : Nat} {n : NodeRecord} : s.admin o = true → s.node a = some n → n.state ≠ .leaving →
      s.inExchange a = false → Effected o rid s (s.deleteNode a)
  | configured (s : State) (rate : LinkRate) (enable : Bool) : Effected o rid s (s.configureLink rate enable)

/-! ### Each effect makes one of these changes -/

section effects

variable {o : Origin} {rid : Byte}

theorem Effected.of_refuse (r : Result) (s : State) : Effected o rid s (refuse r s).1 := .unchanged s

theorem openEffect_effected (f : OpenFields) (s : State) : Effected o rid s (openEffect o rid f s).1 := by
  unfold openEffect
  split
  · exact .unchanged s
  · next hf =>
    have hf : openRefused o rid f = false := by simpa using hf
    split
    · next r hr =>
      unfold openSlot
      split
      · exact .evicted s r .reopen
      · next r' hr' => exact .reopened hf hr hr'
    · next hr =>
      unfold openSlot
      split
      · exact .unchanged s
      · next r' hr' => exact .opened hf hr hr'

theorem setBudgetEffect_effected (r : ReqSlot) (b : Byte) (s : State) : Effected o rid s (setBudgetEffect r b s).1 := by
  unfold setBudgetEffect
  split
  · exact .unchanged s
  · next hb =>
    split
    · exact .unchanged s
    · next q hq =>
      split
      · exact .unchanged s
      · next hc => exact .budgeted hq (by omega) (by omega) (by omega)

theorem listMineEffect_effected (r : ReqSlot) (cursor : Nat) (s : State) :
    Effected o rid s (listMineEffect r cursor s).1 := by
  unfold listMineEffect
  split
  · exact .unchanged s
  · split
    · exact .unchanged s
    · next q hq =>
      dsimp only
      split
      · exact .overrunCleared hq
      · exact .unchanged s

theorem fetchNoticeEffect_effected (r : ReqSlot) (u : Unit) (s : State) :
    Effected o rid s (fetchNoticeEffect r u s).1 := by
  unfold fetchNoticeEffect
  dsimp only
  split
  · exact .unchanged s
  · exact .noticeFetched s r

theorem defineEffect_effected (f : DefineFields) (s : State) : Effected o rid s (defineEffect f s).1 := by
  unfold defineEffect
  split
  · exact .unchanged s
  · next hf =>
    split
    · exact .unchanged s
    · next hd =>
      split
      · exact .unchanged s
      · next e he => exact .defined (by simpa using hf) (fun p hp heq => hd (List.any_eq_true.mpr ⟨p, hp, by simpa using heq⟩)) he

theorem retireEffect_effected (f : Handle × Byte) (s : State) : Effected o rid s (retireEffect f s).1 := by
  unfold retireEffect
  split
  · exact .unchanged s
  · next force hforce =>
    split
    · exact .unchanged s
    · next en hen => exact .retired force (State.entry_of_entryOf hen)

theorem setLimitsEffect_effected (f : LimitFields) (s : State) : Effected o rid s (setLimitsEffect f s).1 := by
  unfold setLimitsEffect
  split
  · exact .unchanged s
  · next hf =>
    split
    · exact .unchanged s
    · next en hen =>
      have hf : shareLimitBad f.shareLimit = false := by simpa using hf
      split
      · exact .unchanged s
      · next hlen =>
        dsimp only
        split
        · next hr => exact .limitRaised f.holdLimit (State.entry_of_entryOf hen) hf (by omega) hr
        · next hr => exact .limited f.holdLimit (State.entry_of_entryOf hen) hf (by omega) (by omega)

theorem writeNoteEffect_effected (r : ReqSlot) (f : NoteFields) (s : State) : Effected o rid s (writeNoteEffect r f s).1 := by
  unfold writeNoteEffect
  split
  · exact .unchanged s
  · next hf =>
    split
    · exact .unchanged s
    · next en hen =>
      split
      · exact .noted (State.entry_of_entryOf hen) (by omega)
      · exact .unchanged s

theorem acquireEffect_effected (r : ReqSlot) (f : AcquireFields) (s : State) : Effected o rid s (acquireEffect r f s).1 := by
  unfold acquireEffect
  split
  · exact .unchanged s
  · next m hm =>
    split
    · exact .unchanged s
    · exact .unchanged s
    · next en q hen hq =>
      have hentry := State.entry_of_entryOf hen
      split
      · exact .unchanged s
      · next hret =>
        split
        · exact .unchanged s
        · next hclaimed =>
          split
          · exact .unchanged s
          · next hbudget =>
            split
            · exact .unchanged s
            · next hpool =>
              have hallowed : ClaimAllowed s r q en := ⟨hret, by simpa using hclaimed, hbudget, hpool⟩
              unfold acquireTested
              split
              · next hg => exact .granted hentry hq hallowed ((en.grantsAtOnce_iff m).mp hg)
              · next hg =>
                split
                · exact .unchanged s
                · split
                  · exact .unchanged s
                  · next hcheck =>
                    exact .placed hentry hq hallowed (fun h => hg ((en.grantsAtOnce_iff m).mpr h)) (by simpa using hcheck)

/-- Reading the members of a set keeps the slots that they name, in order. -/
theorem memberModes_fst {members : List Member} {l : List (EntrySlot × Mode)} (h : memberModes members = some l) :
    l.map Prod.fst = members.map fun m => m.handle.slot := by
  induction members generalizing l with
  | nil => simp only [memberModes, Option.some.injEq] at h; subst h; rfl
  | cons m rest ih =>
    unfold memberModes at h
    split at h
    · next mode l' _ hl' => cases h; simp [ih hl']
    · cases h

/-- A set that passes the member tests names live, unclaimed entries that are not RETIRING (R52 tests 1 to 3). -/
theorem memberTest_none {s : State} {r : ReqSlot} {k : Nat} {members : List Member} (h : memberTest s r k members = none) :
    ∀ m ∈ members, ∃ en, s.entryOf m.handle = some en ∧ en.state ≠ .retiring ∧ en.claimed r = false := by
  induction members generalizing k with
  | nil => simp
  | cons m rest ih =>
    unfold memberTest at h
    split at h
    · cases h
    · next en hen =>
      split at h
      · cases h
      · next hret =>
        split at h
        · cases h
        · next hc =>
          intro m' hm'
          cases hm' with
          | head => exact ⟨en, hen, hret, by simpa using hc⟩
          | tail _ hm' => exact ih h m' hm'

theorem acquireSetEffect_effected (r : ReqSlot) (f : SetFields) (s : State) :
    Effected o rid s (acquireSetEffect r f s).1 := by
  unfold acquireSetEffect
  split
  · exact .unchanged s
  · next members hmembers =>
    split
    · exact .unchanged s
    · next hshape =>
      split
      · exact .unchanged s
      · exact .unchanged s
      · next q htest hq =>
        split
        · exact .unchanged s
        · next hbudget =>
          split
          · exact .unchanged s
          · next hpool =>
            have hslots := memberModes_fst hmembers
            have hlive : ∀ p ∈ members, ∃ en, s.entry p.1 = some en ∧ en.state ≠ .retiring ∧ en.claimed r = false := by
              intro p hp
              have : p.1 ∈ f.members.map fun m => m.handle.slot := hslots ▸ List.mem_map_of_mem hp
              obtain ⟨m, hm, hmp⟩ := List.mem_map.mp this
              obtain ⟨en, hen, hrest⟩ := memberTest_none htest m hm
              exact ⟨en, hmp ▸ State.entry_of_entryOf hen, hrest⟩
            have hallowed : SetAllowed s r q members :=
              ⟨by omega, by omega, by by_contra hn; exact hshape (.inr (.inr hn)), hq, hlive, by omega, by omega⟩
            unfold acquireSetTested
            split
            · next hg => exact .setGranted hallowed hg
            · next hg =>
              split
              · exact .unchanged s
              · split
                · exact .unchanged s
                · next hcheck => exact .setPlaced hallowed (by simpa using hg) (by simpa using hcheck)

theorem releaseEffect_effected {r : ReqSlot} {s : State} {q : Requester} (hq : s.req r = some q) (h : Handle) :
    Effected o rid s (releaseEffect r h s).1 := by
  unfold releaseEffect
  split
  · exact .unchanged s
  · next en hen =>
    split
    · next hh => exact .released hq (State.entry_of_entryOf hen) hh
    · exact .unchanged s

theorem cancelEffect_effected {r : ReqSlot} {s : State} {q : Requester} (hq : s.req r = some q) (h : Handle) :
    Effected o rid s (cancelEffect r h s).1 := by
  unfold cancelEffect
  split
  · exact .unchanged s
  · next en hen =>
    split
    · exact .unchanged s
    · next c hc =>
      split
      · next hid => exact .cancelled hq (State.entry_of_entryOf hen) hc hid
      · next id hid => exact .setCancelled hq (State.entry_of_entryOf hen) hc hid

theorem upgradeEffect_effected (r : ReqSlot) (h : Handle) (s : State) : Effected o rid s (upgradeEffect r h s).1 := by
  unfold upgradeEffect
  split
  · exact .unchanged s
  · next en hen =>
    split
    · exact .unchanged s
    · next c hc =>
      split
      · exact .unchanged s
      · next hm =>
        split
        · exact .unchanged s
        · next hsole => exact .upgraded (State.entry_of_entryOf hen) hc hm (by simpa using hsole)

theorem downgradeEffect_effected (r : ReqSlot) (h : Handle) (s : State) : Effected o rid s (downgradeEffect r h s).1 := by
  unfold downgradeEffect
  split
  · exact .unchanged s
  · next en hen =>
    split
    · next hx => exact .downgraded (State.entry_of_entryOf hen) hx
    · exact .unchanged s

theorem evictEffect_effected (f : Byte × Byte) (s : State) : Effected o rid s (evictEffect f s).1 := by
  unfold evictEffect
  split
  · exact .unchanged s
  · split
    · split
      · exact .unchanged s
      · next r _ => exact .evicted s r .evict
    · exact .unchanged s

theorem purgeEffect_effected (b : Byte) (s : State) : Effected o rid s (purgeEffect b s).1 := by
  unfold purgeEffect
  split
  · exact .unchanged s
  · next o' _ => exact .purged s o'

theorem setPortRightsEffect_effected (b : Byte) (s : State) : Effected o rid s (setPortRightsEffect o b s).1 := by
  unfold setPortRightsEffect
  split
  · split
    · exact .unchanged s
    · next g _ => exact .rightsSet s g
  · exact .unchanged s

theorem setTimebaseEffect_effected (n : Nat) (s : State) : Effected o rid s (setTimebaseEffect n s).1 := by
  unfold setTimebaseEffect
  split
  · exact .unchanged s
  · next hn => exact .timebaseSet (by omega) (by omega)

theorem routeEventEffect_effected (f : Byte × Byte) (s : State) : Effected o rid s (routeEventEffect f s).1 := by
  unfold routeEventEffect
  split
  · next ev route _ _ => exact .routed s ev route
  · exact .unchanged s

theorem readEventsEffect_effected (u : Unit) (s : State) : Effected o rid s (readEventsEffect o u s).1 := by
  unfold readEventsEffect
  split
  · exact .eventsCleared s .a
  · exact .eventsCleared s .b
  · exact .unchanged s

theorem setPoolThresholdEffect_effected (b : Byte) (s : State) : Effected o rid s (setPoolThresholdEffect b s).1 := by
  unfold setPoolThresholdEffect
  split
  · exact .unchanged s
  · next hb => exact .thresholdSet (by omega)

theorem rosterAddEffect_effected (b : Byte) (s : State) : Effected o rid s (rosterAddEffect b s).1 := by
  unfold rosterAddEffect
  split
  · exact .unchanged s
  · next hb =>
    split
    · exact .unchanged s
    · next hn =>
      split
      · exact .unchanged s
      · exact .nodeAdded (by simpa using hb) (by simpa using hn)

theorem rosterRemoveEffect_effected {s : State} (hadmin : s.admin o = true) (b : Byte) :
    Effected o rid s (rosterRemoveEffect b s).1 := by
  unfold rosterRemoveEffect
  split
  · exact .unchanged s
  · split
    · exact .unchanged s
    · next n hn =>
      split
      · exact .unchanged s
      · next hl =>
        split
        · next hx => exact .nodeLeaving hx
        · next hx => exact .nodeDeleted hadmin hn hl (by simpa using hx)

theorem linkConfigEffect_effected (f : Byte × Byte) (s : State) : Effected o rid s (linkConfigEffect f s).1 := by
  unfold linkConfigEffect
  split
  · next rate enable _ _ => exact .configured s rate enable
  · exact .unchanged s

theorem lookupEffect_effected (t : Tag) (s : State) : Effected o rid s (lookupEffect t s).1 := by
  unfold lookupEffect
  split
  · exact .unchanged s
  · split <;> exact .unchanged s

theorem findEffect_effected (f : FindFields) (s : State) : Effected o rid s (findEffect f s).1 := by
  unfold findEffect
  split <;> exact .unchanged s

theorem readEntryEffect_effected (h : Handle) (s : State) : Effected o rid s (readEntryEffect h s).1 := by
  unfold readEntryEffect
  split <;> exact .unchanged s

theorem readNodeEffect_effected (b : Byte) (s : State) : Effected o rid s (readNodeEffect b s).1 := by
  unfold readNodeEffect
  split
  · exact .unchanged s
  · split <;> exact .unchanged s

theorem requesterEffect_effected {α : Type} {effect : ReqSlot → α → Effect}
    (he : ∀ r q f s, s.req r = some q → Effected o rid s (effect r f s).1) (fields : Option α) (refused : List Byte) (s : State) :
    Effected o rid s (requesterEffect o rid fields refused effect s).1 := by
  unfold requesterEffect
  split
  · exact .unchanged s
  · next f =>
    split
    · exact .unchanged s
    · next r hr =>
      obtain ⟨q, hq, -⟩ := State.req_of_findReq hr
      exact he r q f s hq

theorem plainEffect_effected {α : Type} {effect : α → Effect} (he : ∀ f s, Effected o rid s (effect f s).1)
    (fields : Option α) (s : State) : Effected o rid s (plainEffect fields effect s).1 := by
  unfold plainEffect
  split
  · exact .unchanged s
  · next f => exact he f s

theorem adminEffect_effected {α : Type} {effect : α → Effect}
    (he : ∀ f s, s.admin o = true → Effected o rid s (effect f s).1) (fields : Option α) (s : State) :
    Effected o rid s (adminEffect o fields effect s).1 := by
  unfold adminEffect
  split
  · exact .unchanged s
  · next f =>
    split
    · next ha => exact he f s ha
    · exact .unchanged s

end effects

/-! ### The changes of rows -/

/-- The changes that one row makes to the part. -/
inductive Stepped : State → State → Prop where
  | same (s : State) : Stepped s s
  | command {s v : State} {o : Origin} {rid code : Byte} {payload : List Byte} {h : Handed} (names : Bool) (a : Answer) :
      s.stands o rid code payload = some h →
      Effected o rid (if names then (s.dropHanded o).restartTenureOf o rid else s.dropHanded o) v →
      Stepped s (((v.reportPool s.freeRecords).respond h a).settleAttention)
  | transferStarted {s : State} {p : PortId} : (s.port p).selMayFall = true →
      Stepped s (s.setPort p ((s.port p).startTransfer s.inReset))
  | frameEnded {s : State} {p : PortId} (bytes : List Byte) (partialByte : Bool) :
      (s.port p).transfer = some .commandFrame → Stepped s (s.endFrame p bytes partialByte)
  | readEnded {s : State} {p : PortId} (clocked : Nat) : (s.port p).transfer = some .responseRead →
      Stepped s (s.setPort p ((s.port p).endRead clocked))
  | ignoredEnded {s : State} {p : PortId} (clocked : Nat) : (s.port p).transfer = some .ignored →
      Stepped s (s.setPort p ((s.port p).endIgnored s.inReset clocked))
  | ticked {s : State} : s.inReset = false → Stepped s s.lowerAll
  | waitExpired {s : State} {r : ReqSlot} {e : EntrySlot} {en : Entry} {c : Claim} : s.entry e = some en →
      en.wait r = some c → c.setId = none →
      Stepped s (((((s.dropWait r e).queueNotice r e (.waitExpired none)).recompute e).runPasses .loud [e]).endEvent
        s.freeRecords)
  | setExpired {s : State} {r : ReqSlot} {e : EntrySlot} {en : Entry} {c : Claim} {id : Word16} : s.entry e = some en →
      en.wait r = some c → c.setId = some id →
      Stepped s ((s.endSet r id fun s => s.queueNotice r e (.waitExpired (some id))).endEvent s.freeRecords)
  | holdExpired {s : State} {r : ReqSlot} {e : EntrySlot} {en : Entry} {c : Claim} : s.entry e = some en →
      en.hold r = some c →
      Stepped s (((((s.dropHold r e true).queueNotice r e (.revoked .holdLimit)).recompute e).runPasses .loud [e]).endEvent
        s.freeRecords)
  | tenureExpired (s : State) (r : ReqSlot) : Stepped s ((s.evict r .tenure).endEvent s.freeRecords)
  | pollingStopped {s : State} : s.link.exchange = none → s.link.responseWait = [] →
      Stepped s { s with link := { s.link with pollWait := true } }
  | responseAwaited {s : State} (count : Nat) (position : Option Nat) : s.link.exchange = none → s.link.pollWait = false →
      s.link.enabled = true → Stepped s (s.waitForResponse count position)
  | pollStarted {s : State} (address count : Nat) : s.link.exchange = none → s.link.responseWait = [] →
      s.link.enabled = true → Stepped s (s.startPoll address count)
  | windowOpened {s : State} {x : Exchange} : s.link.exchange = some x → x.phase = .polling →
      Stepped s { s.setPhase x (.window []) with
        link := { (s.setPhase x (.window [])).link with lde := false, ltx := .idleHigh } }
  | byteReceived {s : State} {x : Exchange} {reply : List Byte} (b : Byte) : s.link.exchange = some x →
      x.phase = .window reply → Stepped s (s.setPhase x (.window (receiveReplyByte reply b)))
  | exchangeEnded {s : State} {x : Exchange} {reply : List Byte} : s.link.exchange = some x → x.phase = .window reply →
      Stepped s (s.endExchange x (classify x.node reply))
  | nodeRemoved {s : State} {address : Nat} : s.leavingAtEnd = some address →
      Stepped s ((s.deleteNode address).closeExchange.endEvent s.freeRecords)
  | linkDisabled {s : State} : s.ending = true → s.leavingAtEnd = none → s.link.pendingDisable = true →
      Stepped s s.disableLink.closeExchange
  | bitTimeChanged {s : State} : s.ending = true → s.leavingAtEnd = none → s.link.bitTimePending = true →
      Stepped s (s.setRate (s.link.pendingRate.getD s.link.rate)).closeExchange
  | reset (s : State) : Stepped s { State.reset with
      portA := s.portA.resetKeepingSel, portB := s.portB.resetKeepingSel, pending := s.pending }
  | resetEnded (s : State) : Stepped s { s with inReset := false }

theorem Stepped.of_next_same {s t : State} (h : Host.Outcome.next (φ := Fault) (ρ := Refusal) s = .next t) : Stepped s t := by
  cases h
  exact .same s

/-! ### Each row makes one of these changes -/

theorem takeCommand_stepped {s t : State} {o : Origin} {rid code : Byte} {payload : List Byte} {names : Bool} {effect : Effect}
    (he : ∀ s, Effected o rid s (effect s).1) (h : takeCommand o rid code payload names effect s = .next t) :
    Stepped s t := by
  unfold takeCommand at h
  split at h
  · exact .of_next_same h
  · next x hx =>
    cases h
    exact .command names _ hx (he _)

theorem takeRequesterCommand_stepped {s t : State} {o : Origin} {rid code : Byte} {payload : List Byte} {α : Type}
    {fields : List Byte → Option α} {effect : ReqSlot → α → Effect}
    (he : ∀ r q f s, s.req r = some q → Effected o rid s (effect r f s).1)
    (h : takeRequesterCommand o rid code payload fields effect s = .next t) : Stepped s t :=
  takeCommand_stepped (requesterEffect_effected he _ _) h

theorem takePlainCommand_stepped {s t : State} {o : Origin} {rid code : Byte} {payload : List Byte} {α : Type}
    {fields : List Byte → Option α} {effect : α → Effect} (he : ∀ f s, Effected o rid s (effect f s).1)
    (h : takePlainCommand o rid code payload fields effect s = .next t) : Stepped s t :=
  takeCommand_stepped (plainEffect_effected he _) h

theorem takeAdminCommand_stepped {s t : State} {o : Origin} {rid code : Byte} {payload : List Byte} {α : Type}
    {fields : List Byte → Option α} {effect : α → Effect} (he : ∀ f s, s.admin o = true → Effected o rid s (effect f s).1)
    (h : takeAdminCommand o rid code payload fields effect s = .next t) : Stepped s t :=
  takeCommand_stepped (adminEffect_effected he _) h

theorem execFetchNotice_stepped {s t : State} {o : Origin} {rid : Byte} {payload : List Byte}
    (h : execFetchNotice o rid payload s = .next t) : Stepped s t := by
  cases o with
  | portA => exact takeRequesterCommand_stepped (fun r _ f s _ => fetchNoticeEffect_effected r f s) h
  | portB => exact takeRequesterCommand_stepped (fun r _ f s _ => fetchNoticeEffect_effected r f s) h
  | node n => exact takeCommand_stepped (Effected.of_refuse .badCommand) h

theorem execUnknownCommand_stepped {s t : State} {o : Origin} {rid code : Byte} {payload : List Byte}
    (h : execUnknownCommand o rid code payload s = .next t) : Stepped s t := by
  unfold execUnknownCommand at h
  split at h
  · exact .of_next_same h
  · exact takeCommand_stepped (Effected.of_refuse .badCommand) h

theorem execTransferStart_stepped {s t : State} {p : PortId} (h : execTransferStart p s = .next t) : Stepped s t := by
  unfold execTransferStart at h
  split at h
  · next hp => cases h; exact .transferStarted hp
  · exact .of_next_same h

theorem execCommandFrameEnd_stepped {s t : State} {p : PortId} {bytes : List Byte} {partialByte : Bool}
    (h : execCommandFrameEnd p bytes partialByte s = .next t) : Stepped s t := by
  unfold execCommandFrameEnd at h
  split at h
  · next hp => cases h; exact .frameEnded bytes partialByte hp
  · next hp => cases h; exact .ignoredEnded _ hp
  · exact .of_next_same h
  · exact .of_next_same h

theorem execResponseReadEnd_stepped {s t : State} {p : PortId} {n : Nat} (h : execResponseReadEnd p n s = .next t) :
    Stepped s t := by
  unfold execResponseReadEnd at h
  split at h
  · next hp => cases h; exact .readEnded n hp
  · next hp => cases h; exact .ignoredEnded n hp
  · exact .of_next_same h
  · exact .of_next_same h

theorem execTick_stepped {s t : State} (h : execTick s = .next t) : Stepped s t := by
  unfold execTick at h
  split at h
  · exact .of_next_same h
  · next hr => cases h; exact .ticked (by simpa using hr)

theorem finishEvent_eq_next {s u t : State} (h : finishEvent s u = .next t) : t = u.endEvent s.freeRecords :=
  (Host.Outcome.next.inj h).symm

theorem execWaitLimitExpiry_stepped {s t : State} {r : ReqSlot} {e : EntrySlot} (h : execWaitLimitExpiry r e s = .next t) :
    Stepped s t := by
  unfold execWaitLimitExpiry at h
  split at h
  · exact .of_next_same h
  · next c hc =>
    obtain ⟨en, hen, hw⟩ := Option.bind_eq_some_iff.mp hc
    split at h
    · next hd => rw [finishEvent_eq_next h]; exact .waitExpired hen hw hd.1
    · exact .of_next_same h

theorem execSetWaitLimitExpiry_stepped {s t : State} {r : ReqSlot} {e : EntrySlot}
    (h : execSetWaitLimitExpiry r e s = .next t) : Stepped s t := by
  unfold execSetWaitLimitExpiry at h
  split at h
  · exact .of_next_same h
  · next c hc =>
    obtain ⟨en, hen, hw⟩ := Option.bind_eq_some_iff.mp hc
    split at h
    · exact .of_next_same h
    · next id hid =>
      split at h
      · rw [finishEvent_eq_next h]; exact .setExpired hen hw hid
      · exact .of_next_same h

theorem execHoldLimitExpiry_stepped {s t : State} {r : ReqSlot} {e : EntrySlot} (h : execHoldLimitExpiry r e s = .next t) :
    Stepped s t := by
  unfold execHoldLimitExpiry at h
  split at h
  · exact .of_next_same h
  · next c hc =>
    obtain ⟨en, hen, hw⟩ := Option.bind_eq_some_iff.mp hc
    split at h
    · rw [finishEvent_eq_next h]; exact .holdExpired hen hw
    · exact .of_next_same h

theorem execTenureExpiry_stepped {s t : State} {r : ReqSlot} (h : execTenureExpiry r s = .next t) : Stepped s t := by
  unfold execTenureExpiry at h
  split at h
  · exact .of_next_same h
  · split at h
    · rw [finishEvent_eq_next h]; exact .tenureExpired s r
    · exact .of_next_same h

theorem execNodeSelection_stepped {s t : State} (h : execNodeSelection s = .next t) : Stepped s t := by
  unfold execNodeSelection at h
  split at h
  · exact .of_next_same h
  · next hx =>
    split at h
    · exact .of_next_same h
    · next hw =>
      simp only [not_or, Bool.not_eq_true, ne_eq, not_not] at hw
      split at h
      · cases h; exact .pollingStopped hx hw.2
      · next he =>
        simp only [Bool.or_eq_true, Bool.not_eq_true', not_or, Bool.not_eq_false] at he
        split at h
        · next count position _ => cases h; exact .responseAwaited count position hx hw.1 he.1
        · next address count _ => cases h; exact .pollStarted address count hx hw.2 he.1

theorem execReplyWindowOpen_stepped {s t : State} (h : execReplyWindowOpen s = .next t) : Stepped s t := by
  unfold execReplyWindowOpen at h
  split at h
  · exact .of_next_same h
  · next x hx =>
    split at h
    · next hp => cases h; exact .windowOpened hx hp
    · exact .of_next_same h
    · exact .of_next_same h

theorem execReplyByteReceived_stepped {s t : State} {b : Byte} (h : execReplyByteReceived b s = .next t) : Stepped s t := by
  unfold execReplyByteReceived at h
  split at h
  · exact .of_next_same h
  · next x hx =>
    split at h
    · exact .of_next_same h
    · next reply hp => cases h; exact .byteReceived b hx hp
    · exact .of_next_same h

theorem execExchangeEnd_stepped {s t : State} (h : execExchangeEnd s = .next t) : Stepped s t := by
  unfold execExchangeEnd at h
  split at h
  · exact .of_next_same h
  · next x hx =>
    split at h
    · exact .of_next_same h
    · next reply hp =>
      split at h
      · exact .of_next_same h
      · cases h; exact .exchangeEnded hx hp
    · exact .of_next_same h

theorem execReplyWindowClose_stepped {s t : State} (h : execReplyWindowClose s = .next t) : Stepped s t := by
  unfold execReplyWindowClose at h
  split at h
  · exact .of_next_same h
  · next x hx =>
    split at h
    · exact .of_next_same h
    · next reply hp =>
      split at h
      · cases h; exact .exchangeEnded hx hp
      · exact .of_next_same h
    · exact .of_next_same h

theorem execReplyIdleTimeout_stepped {s t : State} (h : execReplyIdleTimeout s = .next t) : Stepped s t := by
  unfold execReplyIdleTimeout at h
  split at h
  · exact .of_next_same h
  · next x hx =>
    split at h
    · exact .of_next_same h
    · next reply hp =>
      split at h
      · cases h; exact .exchangeEnded hx hp
      · exact .of_next_same h
    · exact .of_next_same h

theorem execNodeRemoval_stepped {s t : State} (h : execNodeRemoval s = .next t) : Stepped s t := by
  unfold execNodeRemoval at h
  split at h
  · exact .of_next_same h
  · next a ha => rw [finishEvent_eq_next h]; exact .nodeRemoved ha

theorem execLinkDisable_stepped {s t : State} (h : execLinkDisable s = .next t) : Stepped s t := by
  unfold execLinkDisable at h
  split at h
  · next hd => cases h; exact .linkDisabled hd.1 hd.2.1 hd.2.2
  · exact .of_next_same h

theorem execBitTimeChange_stepped {s t : State} (h : execBitTimeChange s = .next t) : Stepped s t := by
  unfold execBitTimeChange at h
  split at h
  · next hd => cases h; exact .bitTimeChanged hd.1 hd.2.1 hd.2.2
  · exact .of_next_same h

/-- What a row can do to the part. -/
theorem exec_stepped {i : Instr} {s t : State} (h : exec i s = .next t) : Stepped s t := by
  cases i with
  | openRequester o rid p => exact takeCommand_stepped (plainEffect_effected openEffect_effected _) h
  | closeRequester o rid p => exact takeRequesterCommand_stepped (fun _ _ _ _ hq => .closed hq) h
  | renew o rid p => exact takeRequesterCommand_stepped (fun _ _ _ s _ => .unchanged s) h
  | setBudget o rid p => exact takeRequesterCommand_stepped (fun r _ f s _ => setBudgetEffect_effected r f s) h
  | listMine o rid p => exact takeRequesterCommand_stepped (fun r _ f s _ => listMineEffect_effected r f s) h
  | fetchNotice o rid p => exact execFetchNotice_stepped h
  | define o rid p => exact takeAdminCommand_stepped (fun f s _ => defineEffect_effected f s) h
  | retire o rid p => exact takeAdminCommand_stepped (fun f s _ => retireEffect_effected f s) h
  | setLimits o rid p => exact takeAdminCommand_stepped (fun f s _ => setLimitsEffect_effected f s) h
  | lookup o rid p => exact takePlainCommand_stepped lookupEffect_effected h
  | find o rid p => exact takePlainCommand_stepped findEffect_effected h
  | readEntry o rid p => exact takePlainCommand_stepped readEntryEffect_effected h
  | writeNote o rid p => exact takeRequesterCommand_stepped (fun r _ f s _ => writeNoteEffect_effected r f s) h
  | acquire o rid p => exact takeRequesterCommand_stepped (fun r _ f s _ => acquireEffect_effected r f s) h
  | acquireSet o rid p =>
    exact takeCommand_stepped (requesterEffect_effected (fun r _ f s _ => acquireSetEffect_effected r f s) _ _) h
  | release o rid p => exact takeRequesterCommand_stepped (fun _ _ f _ hq => releaseEffect_effected hq f) h
  | releaseAll o rid p => exact takeRequesterCommand_stepped (fun _ _ _ _ hq => .reclaimed hq) h
  | cancel o rid p => exact takeRequesterCommand_stepped (fun _ _ f _ hq => cancelEffect_effected hq f) h
  | upgrade o rid p => exact takeRequesterCommand_stepped (fun r _ f s _ => upgradeEffect_effected r f s) h
  | downgrade o rid p => exact takeRequesterCommand_stepped (fun r _ f s _ => downgradeEffect_effected r f s) h
  | evict o rid p => exact takeAdminCommand_stepped (fun f s _ => evictEffect_effected f s) h
  | purgeOrigin o rid p => exact takeAdminCommand_stepped (fun f s _ => purgeEffect_effected f s) h
  | setPortRights o rid p => exact takePlainCommand_stepped setPortRightsEffect_effected h
  | setTimebase o rid p => exact takeAdminCommand_stepped (fun f s _ => setTimebaseEffect_effected f s) h
  | routeEvent o rid p => exact takeAdminCommand_stepped (fun f s _ => routeEventEffect_effected f s) h
  | readEvents o rid p => exact takePlainCommand_stepped readEventsEffect_effected h
  | setPoolThreshold o rid p => exact takeAdminCommand_stepped (fun f s _ => setPoolThresholdEffect_effected f s) h
  | readPartStatus o rid p => exact takePlainCommand_stepped (fun _ s => .unchanged s) h
  | rosterAdd o rid p => exact takeAdminCommand_stepped (fun f s _ => rosterAddEffect_effected f s) h
  | rosterRemove o rid p => exact takeAdminCommand_stepped (fun f _ ha => rosterRemoveEffect_effected ha f) h
  | readNode o rid p => exact takePlainCommand_stepped readNodeEffect_effected h
  | linkConfig o rid p => exact takeAdminCommand_stepped (fun f s _ => linkConfigEffect_effected f s) h
  | unknownCommand o rid code p => exact execUnknownCommand_stepped h
  | transferStart p => exact execTransferStart_stepped h
  | commandFrameEnd p bytes b => exact execCommandFrameEnd_stepped h
  | responseReadEnd p n => exact execResponseReadEnd_stepped h
  | tick => exact execTick_stepped h
  | waitLimitExpiry r e => exact execWaitLimitExpiry_stepped h
  | setWaitLimitExpiry r e => exact execSetWaitLimitExpiry_stepped h
  | holdLimitExpiry r e => exact execHoldLimitExpiry_stepped h
  | tenureExpiry r => exact execTenureExpiry_stepped h
  | nodeSelection => exact execNodeSelection_stepped h
  | replyWindowOpen => exact execReplyWindowOpen_stepped h
  | exchangeEnd => exact execExchangeEnd_stepped h
  | replyWindowClose => exact execReplyWindowClose_stepped h
  | replyIdleTimeout => exact execReplyIdleTimeout_stepped h
  | linkDisable => exact execLinkDisable_stepped h
  | bitTimeChange => exact execBitTimeChange_stepped h
  | nodeRemoval => exact execNodeRemoval_stepped h
  | reset => cases h; exact .reset s
  | resetEnd => cases h; exact .resetEnded s
  | replyByteReceived b => exact execReplyByteReceived_stepped h

/-- A step is idle, or takes the front of the queue and does what its row can do. -/
theorem step_stepped {s t : State} (h : step s = .next t) : ∃ rest, Stepped { s with pending := rest } t := by
  unfold step at h
  split at h
  · exact ⟨s.pending, .of_next_same h⟩
  · next c rest _ => exact ⟨rest, exec_stepped h⟩

end Sys2Proof.Machine
end

section
/-! What a step can do to the store, that is to the entries, the directory, the pool, the requester records and the notices: the second
inversion, in which the ports, the decoder, the link and the part events do not appear. -/

namespace Sys2Proof.Machine

/-! ### The store -/

/-- The two states have the same entries, directory, pool, set id counter, requester records and notices. -/
structure SameStore (s t : State) : Prop where
  slots : t.slots = s.slots
  dir : t.dir = s.dir
  freeRecords : t.freeRecords = s.freeRecords
  setIdCounter : t.setIdCounter = s.setIdCounter
  requesters : t.requesters = s.requesters
  notices : t.notices = s.notices
  noticeSerial : t.noticeSerial = s.noticeSerial

theorem SameStore.refl (s : State) : SameStore s s := ⟨rfl, rfl, rfl, rfl, rfl, rfl, rfl⟩

theorem SameStore.trans {s t u : State} (h : SameStore s t) (g : SameStore t u) : SameStore s u :=
  ⟨g.slots.trans h.slots, g.dir.trans h.dir, g.freeRecords.trans h.freeRecords, g.setIdCounter.trans h.setIdCounter,
    g.requesters.trans h.requesters, g.notices.trans h.notices, g.noticeSerial.trans h.noticeSerial⟩

theorem SameStore.symm {s t : State} (h : SameStore s t) : SameStore t s :=
  ⟨h.slots.symm, h.dir.symm, h.freeRecords.symm, h.setIdCounter.symm, h.requesters.symm, h.notices.symm, h.noticeSerial.symm⟩

theorem SameStore.entry {s t : State} (h : SameStore s t) (e : EntrySlot) : t.entry e = s.entry e := by
  simp [State.entry, h.slots]

theorem SameStore.generation {s t : State} (h : SameStore s t) (e : EntrySlot) : t.generation e = s.generation e := by
  simp [State.generation, h.slots]

theorem SameStore.req {s t : State} (h : SameStore s t) (r : ReqSlot) : t.req r = s.req r := by
  simp [State.req, h.requesters]

theorem SameStore.setPort (s : State) (p : PortId) (q : Port) : SameStore s (s.setPort p q) := by
  constructor <;> simp

theorem SameStore.setPort_decoder (s : State) (p : PortId) (q : Port) (d : List Handed) :
    SameStore s { s.setPort p q with decoder := d } := by
  constructor <;> simp

theorem SameStore.raise (s : State) (d : Detail) : SameStore s (s.raise d) := ⟨rfl, rfl, rfl, rfl, rfl, rfl, rfl⟩

theorem SameStore.settleAttention (s : State) : SameStore s s.settleAttention := ⟨rfl, rfl, rfl, rfl, rfl, rfl, rfl⟩

theorem SameStore.link (s : State) (l : Link) : SameStore s { s with link := l } := ⟨rfl, rfl, rfl, rfl, rfl, rfl, rfl⟩

theorem SameStore.decoder (s : State) (d : List Handed) : SameStore s { s with decoder := d } :=
  ⟨rfl, rfl, rfl, rfl, rfl, rfl, rfl⟩

theorem SameStore.clearEvents (s : State) (p : PortId) : SameStore s (s.clearEvents p) := by
  cases p <;> exact ⟨rfl, rfl, rfl, rfl, rfl, rfl, rfl⟩

theorem SameStore.modifyNode (s : State) (a : Nat) (f : NodeRecord → NodeRecord) : SameStore s (s.modifyNode a f) := .link s _

theorem SameStore.reportPool (s : State) (before : Nat) : SameStore s (s.reportPool before) := by
  rw [s.reportPool_frame before]
  exact ⟨rfl, rfl, rfl, rfl, rfl, rfl, rfl⟩

theorem SameStore.endEvent (s : State) (before : Nat) : SameStore s (s.endEvent before) :=
  (SameStore.reportPool s before).trans (.settleAttention _)

theorem SameStore.respond (s : State) (h : Handed) (a : Answer) : SameStore s (s.respond h a) := by
  unfold State.respond
  split
  · exact .setPort s _ _
  · exact .setPort s _ _
  · split
    · exact .refl s
    · exact .link s _

theorem SameStore.closeExchange (s : State) : SameStore s s.closeExchange := by
  unfold State.closeExchange
  split
  · exact .refl s
  · split
    · exact .link s _
    · exact .link s _

theorem SameStore.resumePolling (s : State) : SameStore s s.resumePolling := by
  unfold State.resumePolling
  split
  · exact .link s _
  · exact .refl s

theorem SameStore.configureLink (s : State) (rate : LinkRate) (enable : Bool) : SameStore s (s.configureLink rate enable) := by
  unfold State.configureLink
  split
  · split
    · exact .link s _
    · split <;> exact .link s _
  · have hclose : SameStore s (s.setRate rate).closeIfEnding := by
      unfold State.closeIfEnding
      split
      · exact (SameStore.link s _).trans (.closeExchange _)
      · exact .link s _
    dsimp only
    split
    · exact (hclose.trans (.link _ _)).trans (.resumePolling _)
    · exact hclose

theorem SameStore.deriveBitTime (s : State) : SameStore s s.deriveBitTime := by
  unfold State.deriveBitTime
  split <;> exact .link s _

theorem SameStore.endFrame (s : State) (p : PortId) (bytes : List Byte) (partialByte : Bool) :
    SameStore s (s.endFrame p bytes partialByte) := by
  have hreceive := SameStore.setPort s p ((s.port p).receive bytes)
  unfold State.endFrame
  dsimp only
  split
  · exact hreceive
  · split
    · exact ((hreceive.trans (.raise _ _)).trans (.setPort _ _ _)).trans (.settleAttention _)
    · split
      · exact hreceive
      · exact hreceive.trans (.setPort_decoder _ _ _ _)

theorem SameStore.startPoll (s : State) (a c : Nat) : SameStore s (s.startPoll a c) := by
  unfold State.startPoll
  split
  · exact .refl s
  · exact (SameStore.modifyNode s a _).trans (.link _ _)

theorem SameStore.updateHealth (s : State) (a : Nat) (outcome : ExchangeOutcome) : SameStore s (s.updateHealth a outcome) := by
  unfold State.updateHealth
  split
  · exact .refl s
  · next n _ =>
    have hsilence : ∀ u : State, SameStore u (if n.fallsSilent then u.raise (.nodeSilent a) else u) := fun u => by
      split
      · exact .raise u _
      · exact .refl u
    dsimp only
    split
    · split
      · exact .modifyNode s a _
      · exact (SameStore.modifyNode s a _).trans (.raise _ _)
    · exact ((SameStore.modifyNode s a _).trans (.raise _ _)).trans (hsilence _)
    · exact (SameStore.modifyNode s a _).trans (hsilence _)

/-! ### The changes of the store -/

/-- What an expiry does between a removal and its recomputation: nothing, or the handing of a notice to NTU. -/
inductive Notifying : (State → State) → Prop where
  | nothing : Notifying fun s => s
  | notice (r : ReqSlot) (e : EntrySlot) (body : NoticeBody) : Notifying fun s => s.queueNotice r e body

/-! ### The emptying of a notice queue -/

/-- A queue is emptied by a change of the requester's record and of the notices alone (R121). -/
theorem State.discardNotices_eq (s : State) (r : ReqSlot) :
    s.discardNotices r = { s.modifyReq r (fun q => { q with overrun := false }) with
      notices := s.notices.filter fun n => n.owner ≠ r } := rfl

@[simp] theorem State.discardNotices_slots (s : State) (r : ReqSlot) : (s.discardNotices r).slots = s.slots := by
  simp [State.discardNotices_eq]

@[simp] theorem State.discardNotices_dir (s : State) (r : ReqSlot) : (s.discardNotices r).dir = s.dir := by
  simp [State.discardNotices_eq]

@[simp] theorem State.discardNotices_freeRecords (s : State) (r : ReqSlot) :
    (s.discardNotices r).freeRecords = s.freeRecords := by
  simp [State.discardNotices_eq]

@[simp] theorem State.entry_discardNotices (s : State) (r : ReqSlot) (e : EntrySlot) :
    (s.discardNotices r).entry e = s.entry e := by
  simp [State.entry]

@[simp] theorem State.generation_discardNotices (s : State) (r : ReqSlot) (e : EntrySlot) :
    (s.discardNotices r).generation e = s.generation e := by
  simp [State.generation]

@[simp] theorem State.req_discardNotices (s : State) (r r' : ReqSlot) :
    (s.discardNotices r).req r' = if r = r' then (s.req r).map fun q => { q with overrun := false } else s.req r' :=
  State.req_modifyReq s r _ r'

/-- The slot of a requester is made FREE after its records are gone and its notices discarded (R103, R104). -/
def State.vacated (s : State) (r : ReqSlot) (stale : Bool) : State := ((s.reclaim r stale).discardNotices r).setReq r none

@[simp] theorem State.vacated_dir (s : State) (r : ReqSlot) (stale : Bool) :
    (s.vacated r stale).dir = (s.reclaim r stale).dir := by
  simp [State.vacated]

@[simp] theorem State.vacated_freeRecords (s : State) (r : ReqSlot) (stale : Bool) :
    (s.vacated r stale).freeRecords = (s.reclaim r stale).freeRecords := by
  simp [State.vacated]

@[simp] theorem State.entry_vacated (s : State) (r : ReqSlot) (stale : Bool) (e : EntrySlot) :
    (s.vacated r stale).entry e = (s.reclaim r stale).entry e := by
  simp [State.vacated]

@[simp] theorem State.req_vacated (s : State) (r : ReqSlot) (stale : Bool) (r' : ReqSlot) :
    (s.vacated r stale).req r' = if r = r' then none else (s.reclaim r stale).req r' := by
  simp only [State.vacated, State.req_setReq, State.req_discardNotices]
  split <;> rfl

/-- The changes that a step can make to the store, one event after another. -/
inductive StoreChange : State → State → Prop where
  | same {s t : State} : SameStore s t → StoreChange s t
  | trans {s t u : State} : StoreChange s t → StoreChange t u → StoreChange s u
  | rewritten {s : State} {r : ReqSlot} {q q' : Requester} : s.req r = some q →
      (q'.origin, q'.localId, q'.priority, q'.holdCount, q'.waitCount) =
        (q.origin, q.localId, q.priority, q.holdCount, q.waitCount) →
      (q.holdCount + q.waitCount ≤ q.budget → q'.holdCount + q'.waitCount ≤ q'.budget) →
      StoreChange s (s.setReq r (some q'))
  | opened {s : State} {r : ReqSlot} {q : Requester} : s.req r = none → q.holdCount = 0 → q.waitCount = 0 →
      StoreChange s (s.setReq r (some q))
  | reclaimed (s : State) {r : ReqSlot} {q : Requester} (stale : Bool) : s.req r = some q →
      StoreChange s (s.reclaim r stale)
  | vacated (s : State) {r : ReqSlot} {q : Requester} (stale : Bool) : s.req r = some q → StoreChange s (s.vacated r stale)
  | noticeDropped (s : State) (r : ReqSlot) : StoreChange s (s.dropHeadNotice r)
  | defined {s : State} {f : DefineFields} {e : EntrySlot} : shareLimitBad f.shareLimit = false →
      (∀ p ∈ s.dir, p.1 ≠ f.tag) → s.entry e = none →
      StoreChange s { s.setEntry e (definedEntry f) with dir := insertPair (f.tag, e) s.dir }
  | retired {s : State} {e : EntrySlot} {en : Entry} (force : Bool) : s.entry e = some en →
      StoreChange s ((s.retireSteps e en force).1.1.runPasses .loud
        ((List.finRange 256).filter fun e' => (s.retireSteps e en force).1.2.contains e'))
  | limited {s : State} {e : EntrySlot} {en : Entry} {share : Nat} (hold : Nat) : s.entry e = some en →
      shareLimitBad share = false → en.holders.length ≤ share → share ≤ en.shareLimit →
      StoreChange s (s.setEntry e { en with shareLimit := share, holdLimit := hold })
  | limitRaised {s : State} {e : EntrySlot} {en : Entry} {share : Nat} (hold : Nat) : s.entry e = some en →
      shareLimitBad share = false → en.holders.length ≤ share → en.shareLimit < share →
      StoreChange s ((s.setEntry e { en with shareLimit := share, holdLimit := hold }).runPasses .loud [e])
  | noted {s : State} {e : EntrySlot} {en : Entry} {note : List Byte} : s.entry e = some en → note.length ≤ 8 →
      StoreChange s (s.setEntry e { en with note := note, noteStale := false })
  | granted {s : State} {r : ReqSlot} {q : Requester} {e : EntrySlot} {en : Entry} {m : Mode} : s.entry e = some en →
      s.req r = some q → ClaimAllowed s r q en → AtOnce en m → StoreChange s (s.grantNow r e m none)
  | placed {s : State} {r : ReqSlot} {q : Requester} {e : EntrySlot} {en : Entry} {m : Mode} {limit : Nat} :
      s.entry e = some en → s.req r = some q → ClaimAllowed s r q en → ¬ AtOnce en m →
      s.wouldDeadlock r [(e, ⟨r, m, none, false, waitDeadline limit⟩)] = false →
      StoreChange s (placeSingle r e m limit s).1
  | setGranted {s : State} {r : ReqSlot} {q : Requester} {members : List (EntrySlot × Mode)} : SetAllowed s r q members →
      s.allAtOnce members = true →
      StoreChange s (members.foldl (fun u p => u.grantNow r p.1 p.2 (some s.takeSetId.setIdCounter)) s.takeSetId)
  | setPlaced {s : State} {r : ReqSlot} {q : Requester} {members : List (EntrySlot × Mode)} {limit : Nat} :
      SetAllowed s r q members → s.allAtOnce members = false →
      s.wouldDeadlock r (setRecords r s.setIdCounter limit members) = false →
      StoreChange s (placeSet r members limit s).1
  | holdEnded {s : State} {r : ReqSlot} {e : EntrySlot} {en : Entry} {notify : State → State} (stale : Bool) :
      s.entry e = some en → (en.hold r).isSome → Notifying notify →
      StoreChange s (((notify (s.dropHold r e stale)).recompute e).runPasses .loud [e])
  | waitEnded {s : State} {r : ReqSlot} {e : EntrySlot} {en : Entry} {c : Claim} {notify : State → State} :
      s.entry e = some en → en.wait r = some c → c.setId = none → Notifying notify →
      StoreChange s (((notify (s.dropWait r e)).recompute e).runPasses .loud [e])
  | setEnded {s : State} {r : ReqSlot} {e : EntrySlot} {en : Entry} {c : Claim} {id : Word16} {notify : State → State} :
      s.entry e = some en → en.wait r = some c → c.setId = some id → Notifying notify → StoreChange s (s.endSet r id notify)
  | upgraded {s : State} {r : ReqSlot} {e : EntrySlot} {en : Entry} {c : Claim} : s.entry e = some en →
      en.hold r = some c → c.mode = .shared → (∀ d ∈ en.holders, d.requester = r) →
      StoreChange s ((s.setEntry e (en.setHoldMode r .exclusive)).recompute e)
  | downgraded {s : State} {r : ReqSlot} {e : EntrySlot} {en : Entry} : s.entry e = some en → en.holdsExclusive r = true →
      StoreChange s (((s.setEntry e (en.setHoldMode r .shared)).recompute e).runPasses .loud [e])
  | ticked (s : State) : StoreChange s s.lowerAll
  | reset {s t : State} : SameStore State.reset t → StoreChange s t

theorem StoreChange.refl (s : State) : StoreChange s s := .same (.refl s)

/-- The change of a requester record that keeps its identity, its counts and a budget above them. -/
theorem StoreChange.modifyReq (s : State) (r : ReqSlot) (f : Requester → Requester)
    (hf : ∀ q, ((f q).origin, (f q).localId, (f q).priority, (f q).holdCount, (f q).waitCount) =
      (q.origin, q.localId, q.priority, q.holdCount, q.waitCount))
    (hb : ∀ q, q.holdCount + q.waitCount ≤ q.budget → (f q).holdCount + (f q).waitCount ≤ (f q).budget) :
    StoreChange s (s.modifyReq r f) := by
  unfold State.modifyReq
  split
  · next q hq => exact .rewritten hq (hf q) (hb q)
  · exact .refl s

theorem StoreChange.restartTenureOf (s : State) (o : Origin) (rid : Byte) : StoreChange s (s.restartTenureOf o rid) := by
  unfold State.restartTenureOf
  split
  · exact .modifyReq s _ _ (fun _ => rfl) (fun _ h => h)
  · exact .refl s

theorem StoreChange.evict (s : State) (r : ReqSlot) (cause : Cause) : StoreChange s (s.evict r cause) := by
  unfold State.evict
  split
  · exact .refl s
  · next q hq => exact (StoreChange.vacated s true hq).trans (.same (.raise _ _))

theorem StoreChange.evictAll (s : State) (rs : List ReqSlot) (cause : Cause) : StoreChange s (s.evictAll rs cause) := by
  unfold State.evictAll
  induction rs generalizing s with
  | nil => exact .refl s
  | cons r rs ih => exact (StoreChange.evict s r cause).trans (ih _)

theorem StoreChange.deleteNode (s : State) (a : Nat) : StoreChange s (s.deleteNode a) := by
  unfold State.deleteNode
  refine StoreChange.trans ?_ (.evictAll _ _ _)
  exact .same ⟨rfl, rfl, rfl, rfl, rfl, rfl, rfl⟩

theorem StoreChange.ackNotice (s : State) (a : Nat) (serial : Word16) : StoreChange s (s.ackNotice a serial) := by
  unfold State.ackNotice
  split
  · exact .noticeDropped s _
  · exact .refl s

theorem StoreChange.takeReply (s : State) (a : Nat) (reply : Reply) : StoreChange s (s.takeReply a reply) := by
  have hrequest : ∀ u : State, StoreChange u (u.takeRequest a reply.request) := fun u => by
    unfold State.takeRequest
    split
    · split
      · dsimp only
        split
        · exact (StoreChange.same (.modifyNode u a _)).trans (.restartTenureOf _ _ _)
        · exact .same (.modifyNode u a _)
      · exact .same (.decoder u _)
    · exact .refl u
  have hack : ∀ u : State, StoreChange u (u.noticeAck a reply.noticeAck) := fun u => by
    unfold State.noticeAck
    split
    · exact .refl u
    · exact .ackNotice u _ _
  exact ((StoreChange.same (.modifyNode s a _)).trans (hack _)).trans (hrequest _)

theorem StoreChange.takeOutcome (s : State) (a : Nat) (outcome : ExchangeOutcome) : StoreChange s (s.takeOutcome a outcome) := by
  unfold State.takeOutcome
  split
  · exact .refl s
  · split
    · exact .refl s
    · dsimp only
      split
      · exact (StoreChange.takeReply s a _).trans (.same (.updateHealth _ _ _))
      · exact .same (.updateHealth s _ _)
      · exact .same (.updateHealth s _ _)

theorem Effected.storeChange {o : Origin} {rid : Byte} {s t : State} (h : Effected o rid s t) : StoreChange s t := by
  cases h with
  | unchanged => exact .refl s
  | opened _ _ hr => exact .opened (State.req_of_lowestFree hr) rfl rfl
  | reopened _ _ hr => exact (StoreChange.evict s _ _).trans (.opened (State.req_of_lowestFree hr) rfl rfl)
  | evicted r cause => exact .evict s r cause
  | purged o' => exact .evictAll s _ _
  | reclaimed hq => exact .reclaimed s false hq
  | closed hq => exact .vacated s false hq
  | @budgeted r q b hq h1 h24 hb =>
    have heq : s.modifyReq r (fun q => { q with budget := b }) = s.setReq r (some { q with budget := b }) := by
      simp [State.modifyReq, hq]
    rw [heq]
    exact .rewritten hq rfl (fun _ => hb)
  | overrunCleared hq => exact .rewritten hq rfl (fun hb => hb)
  | noticeFetched r => exact .noticeDropped s r
  | defined hf hd he => exact .defined hf hd (State.entry_of_lowestUnused he)
  | retired force he => exact .retired force he
  | limited hold he hs hl hle => exact .limited hold he hs hl hle
  | limitRaised hold he hs hl hlt => exact .limitRaised hold he hs hl hlt
  | noted he hn => exact .noted he hn
  | granted he hq ha ho => exact .granted he hq ha ho
  | placed he hq ha ho hc => exact .placed he hq ha ho hc
  | setGranted ha ho => exact .setGranted ha ho
  | setPlaced ha ho hc => exact .setPlaced ha ho hc
  | released hq he hh => exact StoreChange.holdEnded (notify := fun s => s) false he hh .nothing
  | cancelled hq he hw hid => exact StoreChange.waitEnded (notify := fun s => s) he hw hid .nothing
  | setCancelled hq he hw hid => exact .setEnded he hw hid .nothing
  | upgraded he hh hm hs => exact .upgraded he hh hm hs
  | downgraded he hx => exact .downgraded he hx
  | rightsSet g => exact .same ⟨rfl, rfl, rfl, rfl, rfl, rfl, rfl⟩
  | @timebaseSet n _ _ =>
    refine .same (SameStore.trans (t := { s with divider := n, clkCount := 0 }) ?_ (.deriveBitTime _))
    exact ⟨rfl, rfl, rfl, rfl, rfl, rfl, rfl⟩
  | routed ev route => exact .same ⟨rfl, rfl, rfl, rfl, rfl, rfl, rfl⟩
  | eventsCleared p => exact .same (.clearEvents s p)
  | thresholdSet _ => exact .same ⟨rfl, rfl, rfl, rfl, rfl, rfl, rfl⟩
  | nodeAdded _ _ => exact .same ((SameStore.link s _).trans (.resumePolling _))
  | nodeLeaving _ => exact .same (.modifyNode s _ _)
  | nodeDeleted _ _ _ _ => exact .deleteNode s _
  | configured rate enable => exact .same (.configureLink s rate enable)

theorem Stepped.storeChange {s t : State} (h : Stepped s t) : StoreChange s t := by
  cases h with
  | same => exact .refl s
  | @command v o rid code payload h names a _ he =>
    have hnamed : StoreChange s (if names then (s.dropHanded o).restartTenureOf o rid else s.dropHanded o) := by
      split
      · exact (StoreChange.same (.decoder s _)).trans (.restartTenureOf _ _ _)
      · exact .same (.decoder s _)
    refine (hnamed.trans he.storeChange).trans (.same ?_)
    exact ((SameStore.reportPool v _).trans (.respond _ _ _)).trans (.settleAttention _)
  | transferStarted _ => exact .same (.setPort s _ _)
  | frameEnded bytes b _ => exact .same (.endFrame s _ _ _)
  | readEnded n _ => exact .same (.setPort s _ _)
  | ignoredEnded n _ => exact .same (.setPort s _ _)
  | ticked _ => exact .ticked s
  | @waitExpired r e en c he hw hid =>
    exact (StoreChange.waitEnded (notify := fun s => s.queueNotice r e (.waitExpired none)) he hw hid (.notice _ _ _)).trans (.same (.endEvent _ _))
  | setExpired he hw hid => exact (StoreChange.setEnded he hw hid (.notice _ _ _)).trans (.same (.endEvent _ _))
  | @holdExpired r e en c he hh =>
    exact (StoreChange.holdEnded (notify := fun s => s.queueNotice r e (.revoked .holdLimit)) true he (by simp [hh])
      (.notice _ _ _)).trans (.same (.endEvent _ _))
  | tenureExpired r => exact (StoreChange.evict s r _).trans (.same (.endEvent _ _))
  | pollingStopped _ _ => exact .same (.link s _)
  | responseAwaited c p _ _ _ => exact .same (.link s _)
  | pollStarted a c _ _ _ => exact .same (.startPoll s a c)
  | windowOpened _ _ => exact .same (.link s _)
  | byteReceived b _ _ => exact .same (.link s _)
  | exchangeEnded _ _ =>
    exact (StoreChange.takeOutcome s _ _).trans (.same ((SameStore.closeExchange _).trans (.settleAttention _)))
  | nodeRemoved _ =>
    exact (StoreChange.deleteNode s _).trans (.same ((SameStore.closeExchange _).trans (.endEvent _ _)))
  | linkDisabled _ _ _ => exact .same ((SameStore.link s _).trans (.closeExchange _))
  | bitTimeChanged _ _ _ => exact .same ((SameStore.link s _).trans (.closeExchange _))
  | reset => exact .reset ⟨rfl, rfl, rfl, rfl, rfl, rfl, rfl⟩
  | resetEnded => exact .same ⟨rfl, rfl, rfl, rfl, rfl, rfl, rfl⟩

/-- What every change of the store keeps, every step keeps. -/
theorem step_keeps_of_storeChange {P : State → Prop} (hP : ∀ s t, P s → StoreChange s t → P t) {s t : State} (hs : P s)
    (h : step s = .next t) : P t := by
  obtain ⟨rest, hr⟩ := step_stepped h
  refine hP s t hs (.trans (t := { s with pending := rest }) (.same ?_) hr.storeChange)
  exact ⟨rfl, rfl, rfl, rfl, rfl, rfl, rfl⟩

end Sys2Proof.Machine
end

section
/-! The operations on claim records as a sequence of five kinds of work on the store, so that what each kind keeps, all of them keep;
and the directory, which agrees with the live entries after each of them (R5). -/

namespace Sys2Proof.Machine

/-! ### Work on claim records -/

/-- From s to t nothing was done but writing entries without their fixed fields and records of requesters without theirs, writing the
number of free records, freeing slots and queuing notices. -/
inductive ClaimWork : State → State → Prop where
  | refl (s : State) : ClaimWork s s
  | trans {s t u : State} : ClaimWork s t → ClaimWork t u → ClaimWork s u
  | modifyEntry (s : State) (e : EntrySlot) (f : Entry → Entry) : (∀ en, (f en).fixed = en.fixed) →
      ClaimWork s (s.modifyEntry e f)
  | modifyReq (s : State) (r : ReqSlot) (f : Requester → Requester) : (∀ q, (f q).fixed = q.fixed) →
      ClaimWork s (s.modifyReq r f)
  | freeRecords (s : State) (n : Nat) : ClaimWork s { s with freeRecords := n }
  | freeSlot (s : State) (e : EntrySlot) : ClaimWork s (s.freeSlot e)
  | queueNotice (s : State) (r : ReqSlot) (e : EntrySlot) (body : NoticeBody) : ClaimWork s (s.queueNotice r e body)

theorem ClaimWork.foldl {α : Type} (f : State → α → State) (h : ∀ s a, ClaimWork s (f s a)) (l : List α) (s : State) :
    ClaimWork s (l.foldl f s) := by
  induction l generalizing s with
  | nil => exact .refl s
  | cons a l ih => exact (h s a).trans (ih (f s a))

theorem ClaimWork.addCounts (s : State) (r : ReqSlot) (h w : Nat) : ClaimWork s (s.addCounts r h w) :=
  .modifyReq s r _ fun _ => rfl

theorem ClaimWork.subCounts (s : State) (r : ReqSlot) (h w : Nat) : ClaimWork s (s.subCounts r h w) :=
  .modifyReq s r _ fun _ => rfl

theorem ClaimWork.noticeUnless (s : State) (quiet : Bool) (r : ReqSlot) (e : EntrySlot) (body : NoticeBody) :
    ClaimWork s (s.noticeUnless quiet r e body) := by
  unfold State.noticeUnless
  split
  · exact .refl s
  · exact .queueNotice s r e body

theorem ClaimWork.recompute (s : State) (e : EntrySlot) : ClaimWork s (s.recompute e) := by
  unfold State.recompute
  split
  · exact .refl s
  · next en he =>
    split
    · split
      · exact .freeSlot s e
      · exact .refl s
    · have heq : s.setEntry e { en with state := en.derivedState } =
          s.modifyEntry e fun en => { en with state := en.derivedState } := by
        simp [State.modifyEntry, he]
      rw [heq]
      exact .modifyEntry s e _ fun _ => rfl

theorem ClaimWork.recomputeAll (s : State) (es : List EntrySlot) : ClaimWork s (s.recomputeAll es) :=
  .foldl _ .recompute es s

theorem ClaimWork.grantNow (s : State) (r : ReqSlot) (e : EntrySlot) (m : Mode) (id : Option Word16) :
    ClaimWork s (s.grantNow r e m id) := by
  unfold State.grantNow
  refine .trans ?_ (.recompute _ _)
  refine .trans ?_ (.addCounts _ _ _ _)
  refine .trans ?_ (.freeRecords _ _)
  exact .modifyEntry s e _ fun _ => rfl

theorem ClaimWork.place (s : State) (e : EntrySlot) (c : Claim) : ClaimWork s (s.place e c) := by
  unfold State.place
  refine .trans ?_ (.recompute _ _)
  refine .trans ?_ (.addCounts _ _ _ _)
  refine .trans ?_ (.freeRecords _ _)
  exact .modifyEntry s e _ fun _ => rfl

theorem ClaimWork.dropHold (s : State) (r : ReqSlot) (e : EntrySlot) (stale : Bool) : ClaimWork s (s.dropHold r e stale) := by
  unfold State.dropHold
  refine .trans ?_ (.subCounts _ _ _ _)
  refine .trans ?_ (.freeRecords _ _)
  exact .modifyEntry s e _ fun _ => rfl

theorem ClaimWork.dropWait (s : State) (r : ReqSlot) (e : EntrySlot) : ClaimWork s (s.dropWait r e) := by
  unfold State.dropWait
  refine .trans ?_ (.subCounts _ _ _ _)
  refine .trans ?_ (.freeRecords _ _)
  exact .modifyEntry s e _ fun _ => rfl

theorem ClaimWork.dropSet (s : State) (r : ReqSlot) (id : Word16) : ClaimWork s (s.dropSet r id) := by
  unfold State.dropSet
  refine .trans ?_ (.subCounts _ _ _ _)
  refine .trans ?_ (.freeRecords _ _)
  refine .foldl _ (fun s e => ?_) _ s
  exact .modifyEntry s e _ fun _ => rfl

theorem ClaimWork.stripAll (s : State) (r : ReqSlot) (stale : Bool) : ClaimWork s (s.stripAll r stale) := by
  unfold State.stripAll
  refine .trans ?_ (.recomputeAll _ _)
  refine .trans ?_ (.subCounts _ _ _ _)
  refine .trans ?_ (.freeRecords _ _)
  refine .foldl _ (fun s e => ?_) _ s
  exact .modifyEntry s e _ fun _ => rfl

theorem ClaimWork.grantHead (s : State) (q : Quiet) (e : EntrySlot) (c : Claim) : ClaimWork s (s.grantHead q e c) := by
  unfold State.grantHead
  refine .trans ?_ (.noticeUnless _ _ _ _ _)
  refine .trans ?_ (.addCounts _ _ _ _)
  refine .trans ?_ (.subCounts _ _ _ _)
  exact .modifyEntry s e _ fun _ => rfl

theorem ClaimWork.grantMember (s : State) (r : ReqSlot) (id : Word16) (e : EntrySlot) : ClaimWork s (s.grantMember r id e) := by
  refine .modifyEntry s e _ fun en => ?_
  split <;> rfl

theorem ClaimWork.grantSet (s : State) (q : Quiet) (r : ReqSlot) (id : Word16) : ClaimWork s (s.grantSet q r id) := by
  have h := (((ClaimWork.foldl _ (fun s e => .grantMember s r id e) (s.setMembers r id) s).trans
    (.subCounts _ r 0 (s.setMembers r id).length)).trans
    (.addCounts _ r (s.setMembers r id).length 0)).trans (.recomputeAll _ (s.setMembers r id))
  unfold State.grantSet
  dsimp only
  split
  · exact h.trans (.noticeUnless _ _ _ _ _)
  · exact h

theorem ClaimWork.passTurns (q : Quiet) (e : EntrySlot) (n : Nat) (s : State) (list : List EntrySlot) :
    ClaimWork s (passTurns q e n s list).1 := by
  induction n generalizing s list with
  | zero => exact .refl s
  | succ n ih =>
    unfold Machine.passTurns
    split
    · exact .refl s
    · split
      · exact .refl s
      · split
        · split
          · dsimp only
            split
            · exact .grantHead s q e _
            · exact (ClaimWork.grantHead s q e _).trans (ih _ _)
          · exact .refl s
        · split
          · dsimp only
            split
            · exact .grantSet s q _ _
            · exact (ClaimWork.grantSet s q _ _).trans (ih _ _)
          · exact .refl s

theorem ClaimWork.pass (s : State) (q : Quiet) (e : EntrySlot) (list : List EntrySlot) : ClaimWork s (s.pass q e list).1 :=
  (ClaimWork.passTurns q e _ s list).trans (.recompute _ e)

theorem ClaimWork.runPassList (q : Quiet) (n : Nat) (s : State) (list : List EntrySlot) :
    ClaimWork s (runPassList q n s list) := by
  induction n generalizing s list with
  | zero => exact .refl s
  | succ n ih =>
    cases list with
    | nil => exact .refl s
    | cons e rest =>
      unfold Machine.runPassList
      split
      · exact ih _ _
      · exact (ClaimWork.pass s q e rest).trans (ih _ _)

theorem ClaimWork.runPasses (s : State) (q : Quiet) (list : List EntrySlot) : ClaimWork s (s.runPasses q list) :=
  .runPassList q _ s list

theorem ClaimWork.reclaim (s : State) (r : ReqSlot) (stale : Bool) : ClaimWork s (s.reclaim r stale) :=
  (ClaimWork.stripAll s r stale).trans (.runPasses _ _ _)

theorem ClaimWork.notify {notify : State → State} (h : Notifying notify) (s : State) : ClaimWork s (notify s) := by
  cases h with
  | nothing => exact .refl s
  | notice r e body => exact .queueNotice s r e body

theorem ClaimWork.endSet {notify : State → State} (h : Notifying notify) (s : State) (r : ReqSlot) (id : Word16) :
    ClaimWork s (s.endSet r id notify) := by
  unfold State.endSet
  refine .trans ?_ (.runPasses _ _ _)
  refine .trans ?_ (.recomputeAll _ _)
  exact (ClaimWork.dropSet s r id).trans (.notify h _)

theorem ClaimWork.cancelWait (e : EntrySlot) (acc : State × List EntrySlot) (c : Claim) :
    ClaimWork acc.1 (cancelWait e acc c).1 := by
  unfold Machine.cancelWait
  dsimp only
  split
  · exact (ClaimWork.dropWait _ _ _).trans (.queueNotice _ _ _ _)
  · exact ((ClaimWork.dropSet _ _ _).trans (.queueNotice _ _ _ _)).trans (.recomputeAll _ _)

theorem ClaimWork.cancelWaits (s : State) (e : EntrySlot) (en : Entry) : ClaimWork s (s.cancelWaits e en).1 := by
  have hfold : ∀ (l : List Claim) (acc : State × List EntrySlot), ClaimWork acc.1 (l.foldl (Machine.cancelWait e) acc).1 := by
    intro l
    induction l with
    | nil => exact fun acc => .refl acc.1
    | cons c l ih => exact fun acc => (ClaimWork.cancelWait e acc c).trans (ih _)
  exact hfold en.queue (s, [])

theorem ClaimWork.revokeHolds (s : State) (e : EntrySlot) (en : Entry) : ClaimWork s (s.revokeHolds e en) := by
  refine .foldl _ (fun s c => ?_) en.holders s
  exact (ClaimWork.dropHold s c.requester e true).trans (.queueNotice _ _ _ _)

theorem ClaimWork.retireSteps (s : State) (e : EntrySlot) (en : Entry) (force : Bool) :
    ClaimWork s (s.retireSteps e en force).1.1 := by
  have hforce : ClaimWork s (s.forceRetire e en).1 :=
    ((ClaimWork.cancelWaits s e en).trans (.revokeHolds _ e en)).trans (.freeSlot _ e)
  have hdrain : ClaimWork s (s.drainRetire e en).1 := by
    unfold State.drainRetire
    exact (ClaimWork.cancelWaits s e en).trans (.modifyEntry _ e _ fun _ => rfl)
  unfold State.retireSteps
  split
  · exact .freeSlot s e
  · exact (ClaimWork.cancelWaits s e en).trans (.freeSlot _ e)
  · split
    · exact hforce
    · exact hdrain
  · split
    · exact hforce
    · exact hdrain
  · split
    · exact hforce
    · exact .refl s

/-- The placement of a single wait places the record and runs the pass when it stands at the head; the answer is told from the state. -/
theorem placeSingle_fst (r : ReqSlot) (e : EntrySlot) (m : Mode) (limit : Nat) (s : State) :
    (placeSingle r e m limit s).1 =
      if (s.place e ⟨r, m, none, false, waitDeadline limit⟩).atHead r e then
        (s.place e ⟨r, m, none, false, waitDeadline limit⟩).runPasses (.single r e) [e]
      else s.place e ⟨r, m, none, false, waitDeadline limit⟩ := by
  unfold placeSingle
  exact (apply_ite Prod.fst _ _ _).trans (ite_self _)

theorem ClaimWork.placeSingle (r : ReqSlot) (e : EntrySlot) (m : Mode) (limit : Nat) (s : State) :
    ClaimWork s (placeSingle r e m limit s).1 := by
  rw [placeSingle_fst]
  split
  · exact (ClaimWork.place s e _).trans (.runPasses _ _ _)
  · exact .place s e _

/-- The placement of a set takes a set id, places the records and runs passes on some entries; the answer is told from the state. -/
theorem placeSet_fst (r : ReqSlot) (members : List (EntrySlot × Mode)) (limit : Nat) (s : State) :
    (placeSet r members limit s).1 =
      ((setRecords r s.takeSetId.setIdCounter limit members).foldl (fun s p => s.place p.1 p.2) s.takeSetId).runPasses
        (.set r s.takeSetId.setIdCounter)
        (((setRecords r s.takeSetId.setIdCounter limit members).foldl (fun s p => s.place p.1 p.2) s.takeSetId).slotsWhere
          fun en => (en.queue.head?.map fun c => c.inSet r s.takeSetId.setIdCounter).getD false) := by
  unfold placeSet
  exact (apply_ite Prod.fst _ _ _).trans (ite_self _)

/-! ### The directory -/

/-- DIR is legal after a change that keeps it and the tags of the live entries. -/
theorem State.dirLegal_of_tags {s t : State} (hdir : t.dir = s.dir)
    (htag : ∀ e, (t.entry e).map Entry.tag = (s.entry e).map Entry.tag) (h : s.dirLegal) : t.dirLegal := by
  obtain ⟨hpairs, hnodup⟩ := h
  refine ⟨?_, by rwa [hdir]⟩
  rw [hdir, hpairs]
  congr 1
  funext e
  have := htag e
  cases ht : t.entry e <;> cases hs : s.entry e <;> simp_all

theorem State.dirLegal_freeSlot {s : State} (e : EntrySlot) (h : s.dirLegal) : (s.freeSlot e).dirLegal := by
  obtain ⟨hpairs, hnodup⟩ := h
  refine ⟨?_, (List.Sublist.map _ List.filter_sublist).nodup hnodup⟩
  show s.dir.filter _ = _
  rw [hpairs, List.filter_filterMap]
  congr 1
  funext e'
  rw [State.entry_freeSlot]
  by_cases he : e = e'
  · subst he; cases s.entry e <;> simp [Option.filter]
  · have he' : ¬ e' = e := fun h => he h.symm
    cases s.entry e' <;> simp [he, he', Option.filter]

theorem ClaimWork.dirLegal {s t : State} (h : ClaimWork s t) (hs : s.dirLegal) : t.dirLegal := by
  induction h with
  | refl => exact hs
  | trans _ _ ih ih' => exact ih' (ih hs)
  | modifyEntry s e f hf =>
    refine State.dirLegal_of_tags (by simp) (fun e' => ?_) hs
    have htag : ∀ en, (f en).tag = en.tag := fun en => congrArg Prod.fst (hf en)
    rw [State.entry_modifyEntry]
    split
    · next he => subst he; cases s.entry e <;> simp [htag]
    · rfl
  | modifyReq s r f hf => exact State.dirLegal_of_tags (by simp) (fun e => by simp) hs
  | freeRecords s n => exact State.dirLegal_of_tags rfl (fun _ => rfl) hs
  | freeSlot s e => exact State.dirLegal_freeSlot e hs
  | queueNotice s r e body =>
    unfold State.queueNotice
    split
    · exact hs
    · split
      · exact State.dirLegal_of_tags rfl (fun _ => rfl) hs
      · exact State.dirLegal_of_tags (by simp) (fun e => by simp) hs

theorem State.dirLegal_setEntry {s : State} {e : EntrySlot} {en en' : Entry} (he : s.entry e = some en) (htag : en'.tag = en.tag)
    (h : s.dirLegal) : (s.setEntry e en').dirLegal := by
  refine State.dirLegal_of_tags (by simp) (fun e' => ?_) h
  rw [State.entry_setEntry]
  split
  · next hee => subst hee; simp [he, htag]
  · rfl

theorem State.dirLegal_of_sameStore {s t : State} (hst : SameStore s t) (h : s.dirLegal) : t.dirLegal :=
  State.dirLegal_of_tags hst.dir (fun e => by rw [hst.entry]) h

/-- A pair enters DIR at the place of its slot. -/
theorem insertPair_filterMap {g g' : EntrySlot → Option (Tag × EntrySlot)} {p : Tag × EntrySlot} {l : List EntrySlot}
    (hl : l.Pairwise (· < ·)) (hp : p.2 ∈ l) (hslot : ∀ e x, g e = some x → x.2 = e) (hnone : g p.2 = none)
    (hg : ∀ e, g' e = if e = p.2 then some p else g e) : insertPair p (l.filterMap g) = l.filterMap g' := by
  induction l with
  | nil => cases hp
  | cons e l ih =>
    have hlt : ∀ {x}, x ∈ l → e < x := fun hx => List.rel_of_pairwise_cons hl hx
    have hl' := List.Pairwise.of_cons hl
    by_cases he : e = p.2
    · have hsame : l.filterMap g' = l.filterMap g := by
        refine List.filterMap_congr fun x hx => ?_
        have hne : x ≠ p.2 := fun h => absurd (hlt hx) (by rw [he, h]; exact lt_irrefl _)
        rw [hg, if_neg hne]
      rw [List.filterMap_cons, he, hnone, List.filterMap_cons, hg, if_pos rfl, hsame]
      cases hrest : l.filterMap g with
      | nil => rfl
      | cons y ys =>
        have hy : y ∈ l.filterMap g := hrest ▸ List.mem_cons_self
        obtain ⟨x, hx, hgx⟩ := List.mem_filterMap.mp hy
        have hyx : ¬ y.2 < p.2 := by rw [hslot x y hgx, ← he]; exact (hlt hx).le.not_gt
        simp [insertPair, hyx]
    · have hpl : p.2 ∈ l := (List.mem_cons.mp hp).resolve_left fun h => he h.symm
      have hge : g' e = g e := by rw [hg, if_neg he]
      rw [List.filterMap_cons, List.filterMap_cons, hge]
      cases hx : g e with
      | none => exact ih hl' hpl
      | some y =>
        have hylt : y.2 < p.2 := by rw [hslot e y hx]; exact hlt hpl
        simp only [insertPair, hylt, if_true, ih hl' hpl]

theorem insertPair_perm (p : Tag × EntrySlot) (l : List (Tag × EntrySlot)) : (insertPair p l).Perm (p :: l) := by
  induction l with
  | nil => exact List.Perm.refl _
  | cons x l ih =>
    unfold insertPair
    split
    · exact (List.Perm.cons x ih).trans (List.Perm.swap p x l)
    · exact List.Perm.refl _

/-- DEFINE keeps DIR legal: the slot was UNUSED and the tag of no live entry (R5, R8). -/
theorem State.dirLegal_define {s : State} {en : Entry} {e : EntrySlot} (hd : ∀ p ∈ s.dir, p.1 ≠ en.tag)
    (he : s.entry e = none) (h : s.dirLegal) :
    State.dirLegal { s.setEntry e en with dir := insertPair (en.tag, e) s.dir } := by
  obtain ⟨hpairs, hnodup⟩ := h
  constructor
  · show insertPair (en.tag, e) s.dir = _
    rw [hpairs]
    refine insertPair_filterMap (List.pairwise_lt_finRange 256) (List.mem_finRange e) ?_ (by simp [he]) ?_
    · intro e' x hx
      obtain ⟨y, -, rfl⟩ := Option.map_eq_some_iff.mp hx
      rfl
    · intro e'
      show ((s.setEntry e en).entry e').map _ = _
      rw [State.entry_setEntry]
      by_cases hee : e = e'
      · subst hee; simp
      · have hee' : ¬ e' = e := fun h => hee h.symm
        simp [hee, hee']
  · show ((insertPair (en.tag, e) s.dir).map Prod.fst).Nodup
    rw [((insertPair_perm (en.tag, e) s.dir).map Prod.fst).nodup_iff, List.map_cons, List.nodup_cons]
    refine ⟨fun hmem => ?_, hnodup⟩
    obtain ⟨p, hp, hpt⟩ := List.mem_map.mp hmem
    exact hd p hp hpt

theorem State.dirLegal_reset : State.reset.dirLegal := by
  have hnone : ∀ e, State.reset.entry e = none := fun e => by simp [State.entry, State.reset]
  exact ⟨by simp [hnone]; rfl, List.nodup_nil⟩

theorem StoreChange.dirLegal {s t : State} (hs : s.dirLegal) (h : StoreChange s t) : t.dirLegal := by
  induction h with
  | same hst => exact State.dirLegal_of_sameStore hst hs
  | trans _ _ ih ih' => exact ih' (ih hs)
  | rewritten _ _ _ => exact State.dirLegal_of_tags rfl (fun e => by simp) hs
  | opened _ _ _ => exact State.dirLegal_of_tags rfl (fun e => by simp) hs
  | reclaimed s stale _ => exact ClaimWork.dirLegal (.reclaim s _ stale) hs
  | @vacated s r q stale _ =>
    refine State.dirLegal_of_tags (by simp) (fun e => by simp) (s := s.reclaim r stale) ?_
    exact ClaimWork.dirLegal (.reclaim s r stale) hs
  | noticeDropped s r => exact State.dirLegal_of_tags rfl (fun _ => rfl) hs
  | defined _ hd he => exact State.dirLegal_define hd he hs
  | retired force _ => exact ClaimWork.dirLegal ((ClaimWork.retireSteps _ _ _ force).trans (.runPasses _ _ _)) hs
  | limited hold he _ _ _ => exact State.dirLegal_setEntry he (by rfl) hs
  | limitRaised hold he _ _ _ => exact ClaimWork.dirLegal (.runPasses _ _ _) (State.dirLegal_setEntry he (by rfl) hs)
  | noted he _ => exact State.dirLegal_setEntry he (by rfl) hs
  | granted _ _ _ _ => exact ClaimWork.dirLegal (.grantNow _ _ _ _ _) hs
  | placed _ _ _ _ _ => exact ClaimWork.dirLegal (.placeSingle _ _ _ _ _) hs
  | @setGranted s r q members _ _ =>
    refine ClaimWork.dirLegal (.foldl _ (fun u p => .grantNow u _ _ _ _) members s.takeSetId) ?_
    exact State.dirLegal_of_tags rfl (fun e => by simp) hs
  | setPlaced _ _ _ =>
    rw [placeSet_fst]
    refine ClaimWork.dirLegal ((ClaimWork.foldl _ (fun u p => .place u _ _) _ _).trans (.runPasses _ _ _)) ?_
    exact State.dirLegal_of_tags rfl (fun e => by simp) hs
  | holdEnded stale _ _ hn =>
    refine ClaimWork.dirLegal ?_ hs
    exact (((ClaimWork.dropHold _ _ _ _).trans (.notify hn _)).trans (.recompute _ _)).trans (.runPasses _ _ _)
  | waitEnded _ _ _ hn =>
    refine ClaimWork.dirLegal ?_ hs
    exact (((ClaimWork.dropWait _ _ _).trans (.notify hn _)).trans (.recompute _ _)).trans (.runPasses _ _ _)
  | setEnded _ _ _ hn => exact ClaimWork.dirLegal (.endSet hn _ _ _) hs
  | upgraded he _ _ _ => exact ClaimWork.dirLegal (.recompute _ _) (State.dirLegal_setEntry he (by rfl) hs)
  | downgraded he _ =>
    exact ClaimWork.dirLegal ((ClaimWork.recompute _ _).trans (.runPasses _ _ _)) (State.dirLegal_setEntry he (by rfl) hs)
  | ticked s =>
    refine State.dirLegal_of_tags (s := s) rfl (fun e => ?_) hs
    simp [State.entry, State.lowerAll, Option.map_map, Function.comp_def, Entry.tick]
  | reset hst => exact State.dirLegal_of_sameStore hst State.dirLegal_reset

/-- Settles O52: every change of the store keeps DIR legal, so every step does. -/
theorem directoryKept : Obligations.DirectoryKept :=
  fun _ _ hs h => step_keeps_of_storeChange (fun _ _ => StoreChange.dirLegal) hs h

end Sys2Proof.Machine
end

section
/-! Records entering a holder set and a wait queue: where they stand and what order they keep (R12, R31). -/

namespace Sys2Proof.Machine

/-! ### Holder sets -/

theorem insertHolder_perm (c : Claim) (l : List Claim) : (insertHolder c l).Perm (c :: l) := by
  induction l with
  | nil => exact List.Perm.refl _
  | cons d l ih =>
    unfold insertHolder
    split
    · exact (List.Perm.cons d ih).trans (List.Perm.swap c d l)
    · exact List.Perm.refl _

@[simp] theorem mem_insertHolder {c d : Claim} {l : List Claim} : d ∈ insertHolder c l ↔ d = c ∨ d ∈ l := by
  rw [(insertHolder_perm c l).mem_iff, List.mem_cons]

@[simp] theorem length_insertHolder (c : Claim) (l : List Claim) : (insertHolder c l).length = l.length + 1 := by
  rw [(insertHolder_perm c l).length_eq, List.length_cons]

/-- A record of a new requester keeps a holder set in ascending requester slot order. -/
theorem insertHolder_pairwise {c : Claim} {l : List Claim} (hl : l.Pairwise fun x y => x.requester < y.requester)
    (hc : ∀ d ∈ l, d.requester ≠ c.requester) : (insertHolder c l).Pairwise fun x y => x.requester < y.requester := by
  induction l with
  | nil => exact List.pairwise_singleton _ c
  | cons d l ih =>
    have hd := hc d List.mem_cons_self
    obtain ⟨hdl, hl⟩ := List.pairwise_cons.mp hl
    unfold insertHolder
    split
    · next hlt =>
      refine List.pairwise_cons.mpr ⟨fun x hx => ?_, ih hl fun x hx => hc x (List.mem_cons_of_mem d hx)⟩
      obtain rfl | hx := mem_insertHolder.mp hx
      · exact hlt
      · exact hdl x hx
    · next hge =>
      have hlt : c.requester < d.requester := lt_of_le_of_ne (not_lt.mp hge) (Ne.symm hd)
      refine List.pairwise_cons.mpr ⟨fun x hx => ?_, List.pairwise_cons.mpr ⟨hdl, hl⟩⟩
      obtain rfl | hx := List.mem_cons.mp hx
      · exact hlt
      · exact hlt.trans (hdl x hx)

/-! ### Wait queues -/

theorem insertWaiter_perm (priority : ReqSlot → Nat) (c : Claim) (l : List Claim) :
    (insertWaiter priority c l).Perm (c :: l) := by
  induction l with
  | nil => exact List.Perm.refl _
  | cons d l ih =>
    unfold insertWaiter
    split
    · exact (List.Perm.cons d ih).trans (List.Perm.swap c d l)
    · exact List.Perm.refl _

@[simp] theorem mem_insertWaiter {priority : ReqSlot → Nat} {c d : Claim} {l : List Claim} :
    d ∈ insertWaiter priority c l ↔ d = c ∨ d ∈ l := by
  rw [(insertWaiter_perm priority c l).mem_iff, List.mem_cons]

@[simp] theorem length_insertWaiter (priority : ReqSlot → Nat) (c : Claim) (l : List Claim) :
    (insertWaiter priority c l).length = l.length + 1 := by
  rw [(insertWaiter_perm priority c l).length_eq, List.length_cons]

/-- Settles O25: the record goes past the head while the head's priority is as high as its own, by induction on the queue. -/
theorem waiterTakesPlace : Obligations.WaiterTakesPlace := by
  intro priority c queue
  induction queue with
  | nil => exact fun _ => ⟨[], [], rfl, rfl, by simp, by simp⟩
  | cons d queue ih =>
    intro hsorted
    obtain ⟨hd, hsorted⟩ := List.pairwise_cons.mp hsorted
    unfold insertWaiter
    split
    · next hle =>
      obtain ⟨ahead, behind, hq, hins, hahead, hbehind⟩ := ih hsorted
      refine ⟨d :: ahead, behind, by rw [hq]; rfl, by rw [hins]; rfl, fun x hx => ?_, hbehind⟩
      obtain rfl | hx := List.mem_cons.mp hx
      · exact hle
      · exact hahead x hx
    · next hlt =>
      refine ⟨[], d :: queue, rfl, rfl, by simp, fun x hx => ?_⟩
      obtain rfl | hx := List.mem_cons.mp hx
      · omega
      · exact lt_of_le_of_lt (hd x hx) (by omega)

/-- A queue in priority order stays so when a record takes its place (R31). -/
theorem insertWaiter_pairwise {priority : ReqSlot → Nat} {c : Claim} {queue : List Claim}
    (h : queue.Pairwise fun x y => priority y.requester ≤ priority x.requester) :
    (insertWaiter priority c queue).Pairwise fun x y => priority y.requester ≤ priority x.requester := by
  obtain ⟨ahead, behind, rfl, hins, hahead, hbehind⟩ := waiterTakesPlace priority c queue h
  obtain ⟨ha, hb, hab⟩ := List.pairwise_append.mp h
  rw [hins]
  refine List.pairwise_append.mpr ⟨ha, List.pairwise_cons.mpr ⟨fun x hx => (hbehind x hx).le, hb⟩, fun x hx y hy => ?_⟩
  obtain rfl | hy := List.mem_cons.mp hy
  · exact hahead x hx
  · exact hab x hx y hy

end Sys2Proof.Machine
end

section
/-! What the operations on claim records make of each entry, read slot by slot. -/

namespace Sys2Proof.Machine

/-! ### Recomputation -/

/-- What the recomputation makes of an entry (R3, R20): none when it is freed. -/
def Entry.recomputed (en : Entry) : Option Entry :=
  if en.state = .retiring then if en.holders.isEmpty then none else some en
  else some { en with state := en.derivedState }

theorem Entry.derivedState_ne_retiring (en : Entry) : en.derivedState ≠ .retiring := by
  unfold Entry.derivedState
  split
  · split <;> simp
  · split <;> simp

theorem Entry.recomputed_of_ne_retiring {en : Entry} (h : en.state ≠ .retiring) :
    en.recomputed = some { en with state := en.derivedState } :=
  if_neg h

theorem Entry.recomputed_of_retiring {en : Entry} (h : en.state = .retiring) :
    en.recomputed = if en.holders.isEmpty then none else some en :=
  if_pos h

/-- A recomputed entry is left as it is by a second recomputation. -/
theorem Entry.recomputed_recomputed {en en' : Entry} (h : en.recomputed = some en') : en'.recomputed = some en' := by
  by_cases hr : en.state = .retiring
  · rw [Entry.recomputed_of_retiring hr] at h
    split at h
    · cases h
    · next hh => cases h; rw [Entry.recomputed_of_retiring hr, if_neg hh]
  · rw [Entry.recomputed_of_ne_retiring hr] at h
    cases h
    exact Entry.recomputed_of_ne_retiring en.derivedState_ne_retiring

theorem Entry.recomputed_bind (en : Entry) : en.recomputed.bind Entry.recomputed = en.recomputed := by
  cases h : en.recomputed with
  | none => rfl
  | some en' => exact Entry.recomputed_recomputed h

theorem State.entry_recompute (s : State) (e e' : EntrySlot) :
    (s.recompute e).entry e' = if e = e' then (s.entry e).bind Entry.recomputed else s.entry e' := by
  unfold State.recompute
  split
  · next h => split <;> simp_all
  · next en h =>
    split
    · next hr =>
      split
      · next hh => simp [h, Entry.recomputed_of_retiring hr, hh]
      · next hh =>
        split
        · next hee => subst hee; simp [h, Entry.recomputed_of_retiring hr, hh]
        · rfl
    · next hr => simp [h, Entry.recomputed_of_ne_retiring hr]

theorem State.entry_recomputeAll (s : State) (es : List EntrySlot) (e : EntrySlot) :
    (s.recomputeAll es).entry e = if e ∈ es then (s.entry e).bind Entry.recomputed else s.entry e := by
  unfold State.recomputeAll
  induction es generalizing s with
  | nil => simp
  | cons a es ih =>
    rw [List.foldl_cons, ih, State.entry_recompute]
    by_cases hae : a = e
    · subst hae
      have hbind : ((s.entry a).bind Entry.recomputed).bind Entry.recomputed = (s.entry a).bind Entry.recomputed := by
        cases s.entry a with
        | none => rfl
        | some en => exact en.recomputed_bind
      simp [hbind]
    · have hea : ¬ e = a := fun h => hae h.symm
      simp [hae, hea]

/-! ### Changes at several slots -/

theorem State.entry_foldl_modifyEntry {l : List EntrySlot} (hl : l.Nodup) (f : Entry → Entry) (s : State) (e : EntrySlot) :
    (l.foldl (fun s e => s.modifyEntry e f) s).entry e = if e ∈ l then (s.entry e).map f else s.entry e := by
  induction l generalizing s with
  | nil => simp
  | cons a l ih =>
    obtain ⟨ha, hl⟩ := List.nodup_cons.mp hl
    rw [List.foldl_cons, ih hl, State.entry_modifyEntry]
    by_cases hae : a = e
    · subst hae; simp [ha]
    · have hea : ¬ e = a := fun h => hae h.symm
      simp [hae, hea]

/-- The change of the entries of a list that holds every entry that the change touches. -/
theorem State.entry_foldl_modifyEntry_of_id {l : List EntrySlot} (hl : l.Nodup) (f : Entry → Entry) (s : State)
    (hid : ∀ e en, s.entry e = some en → e ∉ l → f en = en) (e : EntrySlot) :
    (l.foldl (fun s e => s.modifyEntry e f) s).entry e = (s.entry e).map f := by
  rw [State.entry_foldl_modifyEntry hl]
  split
  · rfl
  · next he =>
    cases hs : s.entry e with
    | none => rfl
    | some en => rw [Option.map_some, hid e en hs he]

theorem State.nodup_slotsWhere (s : State) (p : Entry → Bool) : (s.slotsWhere p).Nodup :=
  (List.nodup_finRange 256).filter _

theorem State.mem_slotsWhere {s : State} {p : Entry → Bool} {e : EntrySlot} :
    e ∈ s.slotsWhere p ↔ ∃ en, s.entry e = some en ∧ p en = true := by
  unfold State.slotsWhere
  rw [List.mem_filter]
  cases s.entry e <;> simp

theorem State.mem_setMembers {s : State} {r : ReqSlot} {id : Word16} {e : EntrySlot} :
    e ∈ s.setMembers r id ↔ ∃ en, s.entry e = some en ∧ ∃ c ∈ en.queue, c.inSet r id = true := by
  unfold State.setMembers
  simp [State.mem_slotsWhere]

theorem State.nodup_setMembers (s : State) (r : ReqSlot) (id : Word16) : (s.setMembers r id).Nodup :=
  s.nodup_slotsWhere _

/-! ### Removals -/

/-- An entry without the hold of a requester (R14, R39). -/
def Entry.withoutHold (en : Entry) (r : ReqSlot) (stale : Bool) : Entry :=
  { en with
    holders := en.holders.filter fun c => c.requester ≠ r
    noteStale := en.noteStale || (stale && en.holdsExclusive r) }

/-- An entry without the wait of a requester (R41). -/
def Entry.withoutWait (en : Entry) (r : ReqSlot) : Entry :=
  { en with queue := en.queue.filter fun c => c.requester ≠ r }

/-- An entry without the record of a claim set (R62). -/
def Entry.withoutSet (en : Entry) (r : ReqSlot) (id : Word16) : Entry :=
  { en with queue := en.queue.filter fun c => !c.inSet r id }

/-- An entry without any record of a requester (R46, R104). -/
def Entry.stripped (en : Entry) (r : ReqSlot) (stale : Bool) : Entry :=
  { en with
    queue := en.queue.filter fun c => c.requester ≠ r
    holders := en.holders.filter fun c => c.requester ≠ r
    noteStale := en.noteStale || (stale && en.holdsExclusive r) }

theorem State.entry_dropHold (s : State) (r : ReqSlot) (e : EntrySlot) (stale : Bool) (e' : EntrySlot) :
    (s.dropHold r e stale).entry e' = if e = e' then (s.entry e).map (·.withoutHold r stale) else s.entry e' := by
  unfold State.dropHold State.subCounts
  rw [State.entry_modifyReq]
  exact State.entry_modifyEntry s e _ e'

theorem State.entry_dropWait (s : State) (r : ReqSlot) (e e' : EntrySlot) :
    (s.dropWait r e).entry e' = if e = e' then (s.entry e).map (·.withoutWait r) else s.entry e' := by
  unfold State.dropWait State.subCounts
  rw [State.entry_modifyReq]
  exact State.entry_modifyEntry s e _ e'

/-- The removal of a set takes its records from every entry. -/
theorem State.entry_dropSet (s : State) (r : ReqSlot) (id : Word16) (e : EntrySlot) :
    (s.dropSet r id).entry e = (s.entry e).map (·.withoutSet r id) := by
  unfold State.dropSet State.subCounts
  rw [State.entry_modifyReq]
  refine State.entry_foldl_modifyEntry_of_id (s.nodup_setMembers r id) (·.withoutSet r id) s (fun e en he hm => ?_) e
  have hnone : ∀ c ∈ en.queue, c.inSet r id = false := fun c hc => by
    by_contra h
    exact hm (State.mem_setMembers.mpr ⟨en, he, c, hc, by simpa using h⟩)
  have hqueue : en.queue.filter (fun c => !c.inSet r id) = en.queue :=
    List.filter_eq_self.mpr fun c hc => by simp [hnone c hc]
  simp [Entry.withoutSet, hqueue]

theorem Entry.claimed_eq_false {en : Entry} {r : ReqSlot} :
    en.claimed r = false ↔ ∀ c ∈ en.holders ++ en.queue, c.requester ≠ r := by
  simp only [Entry.claimed, Entry.hold, Entry.wait, Bool.or_eq_false_iff, Option.isSome_eq_false_iff, Option.isNone_iff_eq_none,
    List.find?_eq_none, List.mem_append, or_imp, forall_and, decide_eq_true_eq]

theorem Entry.hold_isSome {en : Entry} {r : ReqSlot} : (en.hold r).isSome ↔ ∃ c ∈ en.holders, c.requester = r := by
  simp [Entry.hold, List.find?_isSome]

theorem Entry.wait_isSome {en : Entry} {r : ReqSlot} : (en.wait r).isSome ↔ ∃ c ∈ en.queue, c.requester = r := by
  simp [Entry.wait, List.find?_isSome]

theorem Entry.mem_of_hold {en : Entry} {r : ReqSlot} {c : Claim} (h : en.hold r = some c) : c ∈ en.holders ∧ c.requester = r :=
  ⟨List.mem_of_find?_eq_some h, by simpa using List.find?_some h⟩

theorem Entry.mem_of_wait {en : Entry} {r : ReqSlot} {c : Claim} (h : en.wait r = some c) : c ∈ en.queue ∧ c.requester = r :=
  ⟨List.mem_of_find?_eq_some h, by simpa using List.find?_some h⟩

theorem Entry.holdsExclusive_iff {en : Entry} {r : ReqSlot} :
    en.holdsExclusive r = true ↔ ∃ c ∈ en.holders, c.requester = r ∧ c.mode = .exclusive := by
  simp [Entry.holdsExclusive]

/-- An entry without a record of the requester is left as it is. -/
theorem Entry.stripped_of_unclaimed {en : Entry} {r : ReqSlot} (h : en.claimed r = false) (stale : Bool) :
    en.stripped r stale = en := by
  have hall := Entry.claimed_eq_false.mp h
  have hholders : en.holders.filter (fun c => c.requester ≠ r) = en.holders :=
    List.filter_eq_self.mpr fun c hc => by simpa using hall c (List.mem_append_left _ hc)
  have hqueue : en.queue.filter (fun c => c.requester ≠ r) = en.queue :=
    List.filter_eq_self.mpr fun c hc => by simpa using hall c (List.mem_append_right _ hc)
  have hexclusive : en.holdsExclusive r = false := by
    by_contra hx
    obtain ⟨c, hc, hcr, -⟩ := Entry.holdsExclusive_iff.mp (by simpa using hx)
    exact hall c (List.mem_append_left _ hc) hcr
  simp only [Entry.stripped, hholders, hqueue, hexclusive, Bool.and_false, Bool.or_false]

/-- The removal of all records of a requester takes them from every entry and recomputes those that had one. -/
theorem State.entry_stripAll (s : State) (r : ReqSlot) (stale : Bool) (e : EntrySlot) :
    (s.stripAll r stale).entry e =
      (s.entry e).bind fun en => if en.claimed r then (en.stripped r stale).recomputed else some en := by
  have hstrip : ((s.slotsWhere fun en => en.claimed r).foldl (fun s e => s.strip r stale e) s).entry e =
      (s.entry e).map (·.stripped r stale) := by
    refine State.entry_foldl_modifyEntry_of_id (s.nodup_slotsWhere _) (·.stripped r stale) s (fun e en he hm => ?_) e
    refine Entry.stripped_of_unclaimed ?_ stale
    by_contra hc
    exact hm (State.mem_slotsWhere.mpr ⟨en, he, by simpa using hc⟩)
  unfold State.stripAll
  dsimp only
  rw [State.entry_recomputeAll]
  unfold State.subCounts
  rw [State.entry_modifyReq]
  refine (congrArg (fun x : Option Entry =>
    if e ∈ s.slotsWhere fun en => en.claimed r then x.bind Entry.recomputed else x) hstrip).trans ?_
  cases hs : s.entry e with
  | none => simp
  | some en =>
    have hmem : (e ∈ s.slotsWhere fun en => en.claimed r) ↔ en.claimed r = true := by
      simp [State.mem_slotsWhere, hs]
    by_cases hc : en.claimed r = true
    · simp [hmem.mpr hc, hc]
    · have hm := mt hmem.mp hc
      have hid := Entry.stripped_of_unclaimed (by simpa using hc) stale
      simp [hm, hc, hid]

/-! ### Placements and grants -/

theorem State.entry_enqueue (s : State) (e : EntrySlot) (c : Claim) (e' : EntrySlot) :
    (s.enqueue e c).entry e' =
      if e = e' then (s.entry e).map fun en => { en with queue := insertWaiter s.priority c en.queue } else s.entry e' :=
  State.entry_modifyEntry s e _ e'

theorem State.entry_place (s : State) (e : EntrySlot) (c : Claim) (e' : EntrySlot) :
    (s.place e c).entry e' =
      if e = e' then
        (s.entry e).bind fun en => ({ en with queue := insertWaiter s.priority c en.queue } : Entry).recomputed
      else s.entry e' := by
  unfold State.place
  dsimp only
  rw [State.entry_recompute]
  unfold State.addCounts
  rw [State.entry_modifyReq, State.entry_modifyReq]
  have henq : ∀ x, ({ s.enqueue e c with freeRecords := (s.enqueue e c).freeRecords - 1 } : State).entry x =
      if e = x then (s.entry e).map fun en => { en with queue := insertWaiter s.priority c en.queue } else s.entry x :=
    fun x => State.entry_enqueue s e c x
  rw [henq, henq]
  split
  · rw [if_pos rfl, Option.bind_map]; rfl
  · rfl

theorem State.entry_grantNow (s : State) (r : ReqSlot) (e : EntrySlot) (m : Mode) (id : Option Word16) (e' : EntrySlot) :
    (s.grantNow r e m id).entry e' =
      if e = e' then (s.entry e).bind fun en => (en.gainHolder ⟨r, m, id, false, none⟩).recomputed else s.entry e' := by
  unfold State.grantNow
  dsimp only
  rw [State.entry_recompute]
  unfold State.addCounts
  rw [State.entry_modifyReq, State.entry_modifyReq]
  have hgain : ∀ x, ({ s.modifyEntry e (fun en => en.gainHolder ⟨r, m, id, false, none⟩) with
      freeRecords := (s.modifyEntry e fun en => en.gainHolder ⟨r, m, id, false, none⟩).freeRecords - 1 } : State).entry x =
      if e = x then (s.entry e).map fun en => en.gainHolder ⟨r, m, id, false, none⟩ else s.entry x :=
    fun x => State.entry_modifyEntry s e _ x
  rw [hgain, hgain]
  split
  · rw [if_pos rfl, Option.bind_map]; rfl
  · rfl

@[simp] theorem State.entry_queueNotice (s : State) (r : ReqSlot) (e : EntrySlot) (body : NoticeBody) (e' : EntrySlot) :
    (s.queueNotice r e body).entry e' = s.entry e' := by
  unfold State.queueNotice
  split
  · rfl
  · split
    · rfl
    · exact State.entry_setReq _ _ _ _

@[simp] theorem State.generation_queueNotice (s : State) (r : ReqSlot) (e : EntrySlot) (body : NoticeBody) (e' : EntrySlot) :
    (s.queueNotice r e body).generation e' = s.generation e' := by
  unfold State.queueNotice
  split
  · rfl
  · split
    · rfl
    · exact State.generation_setReq _ _ _ _

@[simp] theorem State.entry_noticeUnless (s : State) (quiet : Bool) (r : ReqSlot) (e : EntrySlot) (body : NoticeBody)
    (e' : EntrySlot) : (s.noticeUnless quiet r e body).entry e' = s.entry e' := by
  unfold State.noticeUnless
  split
  · rfl
  · exact State.entry_queueNotice _ _ _ _ _

theorem Notifying.entry {notify : State → State} (h : Notifying notify) (s : State) (e : EntrySlot) :
    (notify s).entry e = s.entry e := by
  cases h with
  | nothing => rfl
  | notice r e' body => exact State.entry_queueNotice s r e' body e

/-- An entry whose head is granted (R36). -/
def Entry.headGranted (en : Entry) (c : Claim) : Entry := { en with queue := en.queue.tail }.gainHolder c

theorem State.entry_grantHead (s : State) (q : Quiet) (e : EntrySlot) (c : Claim) (e' : EntrySlot) :
    (s.grantHead q e c).entry e' = if e = e' then (s.entry e).map (·.headGranted c) else s.entry e' := by
  unfold State.grantHead State.addCounts State.subCounts
  rw [State.entry_noticeUnless, State.entry_modifyReq, State.entry_modifyReq]
  exact State.entry_modifyEntry s e _ e'

/-- An entry on which a member of a set is granted (R60); one without a record of the set is left as it is. -/
def Entry.memberGranted (en : Entry) (r : ReqSlot) (id : Word16) : Entry :=
  match en.setRecord r id with
  | some c => { en with queue := en.queue.filter fun d => !d.inSet r id }.gainHolder c
  | none => en

theorem State.entry_grantSet (s : State) (q : Quiet) (r : ReqSlot) (id : Word16) (e : EntrySlot) :
    (s.grantSet q r id).entry e =
      if e ∈ s.setMembers r id then (s.entry e).bind fun en => (en.memberGranted r id).recomputed else s.entry e := by
  have hgrant : ∀ l : List EntrySlot, l.Nodup → ∀ u : State, ∀ e,
      (l.foldl (fun s e => s.grantMember r id e) u).entry e =
        if e ∈ l then (u.entry e).map (·.memberGranted r id) else u.entry e :=
    fun l hl u e => State.entry_foldl_modifyEntry hl (·.memberGranted r id) u e
  have hmain : (((((s.setMembers r id).foldl (fun s e => s.grantMember r id e) s).subCounts r 0
      (s.setMembers r id).length).addCounts r (s.setMembers r id).length 0).recomputeAll (s.setMembers r id)).entry e =
      if e ∈ s.setMembers r id then (s.entry e).bind fun en => (en.memberGranted r id).recomputed else s.entry e := by
    rw [State.entry_recomputeAll]
    unfold State.addCounts State.subCounts
    rw [State.entry_modifyReq, State.entry_modifyReq, hgrant _ (s.nodup_setMembers r id)]
    split
    · rw [Option.bind_map]; rfl
    · rfl
  unfold State.grantSet
  dsimp only
  split
  · rw [State.entry_noticeUnless]; exact hmain
  · exact hmain

end Sys2Proof.Machine
end

section
/-! Legal entries: what an entry keeps between the steps of an operation, what the recomputation settles, and the invariant that every
step keeps every live entry legal (R3, R24, R27, R35). -/

namespace Sys2Proof.Machine

/-! ### Sound and settled entries -/

/-- An entry is legal but for its state. -/
structure Entry.Sound (en : Entry) : Prop where
  distinct : ((en.holders ++ en.queue).map Claim.requester).Nodup
  ordered : en.holders.Pairwise fun c d => c.requester < d.requester
  exclusive : ∀ c ∈ en.holders, c.mode = .exclusive → en.holders.length = 1
  within : en.holders.length ≤ en.shareLimit
  shareLow : 1 ≤ en.shareLimit
  shareHigh : en.shareLimit ≤ 8
  note : en.note.length ≤ 8
  unmarked : ∀ c ∈ en.holders, c.firstMember = false

/-- The state of an entry is the one that its records give it (R3). -/
def Entry.Settled (en : Entry) : Prop :=
  if en.state = .retiring then en.holders ≠ [] ∧ en.queue = [] else en.state = en.derivedState

theorem Entry.legal_iff (en : Entry) : en.legal ↔ en.Sound ∧ en.Settled :=
  ⟨fun ⟨h1, h2, h3, h4, h5, h6, h7, h8, h9⟩ => ⟨⟨h1, h2, h3, h4, h5, h6, h7, h8⟩, h9⟩,
    fun ⟨⟨h1, h2, h3, h4, h5, h6, h7, h8⟩, h9⟩ => ⟨h1, h2, h3, h4, h5, h6, h7, h8, h9⟩⟩

theorem Entry.settled_of_retiring {en : Entry} (hr : en.state = .retiring) :
    en.Settled ↔ en.holders ≠ [] ∧ en.queue = [] := by
  rw [Entry.Settled, if_pos hr]

theorem Entry.settled_of_ne_retiring {en : Entry} (hr : en.state ≠ .retiring) : en.Settled ↔ en.state = en.derivedState := by
  rw [Entry.Settled, if_neg hr]

/-- A RETIRING entry has no waiter; what holds of every entry while its state may be due for a recomputation. -/
def Entry.Drained (en : Entry) : Prop := en.state = .retiring → en.queue = []

theorem Entry.Settled.drained {en : Entry} (h : en.Settled) : en.Drained :=
  fun hr => ((Entry.settled_of_retiring hr).mp h).2

theorem Entry.Drained.ne_retiring {en : Entry} (h : en.Drained) (hq : en.queue ≠ []) : en.state ≠ .retiring :=
  fun hr => hq (h hr)

/-! ### The derived state -/

theorem Entry.derivedState_eq_idle {en : Entry} : en.derivedState = .idle ↔ en.holders = [] ∧ en.queue = [] := by
  unfold Entry.derivedState
  split
  · next h =>
    split
    · next hq => simp_all
    · next hq => simp_all
  · next h => split <;> simp_all

theorem Entry.derivedState_eq_shared {en : Entry} :
    en.derivedState = .shared ↔ en.holders ≠ [] ∧ ∀ c ∈ en.holders, c.mode = .shared := by
  have hmode : ∀ c : Claim, c.mode = .shared ↔ c.mode ≠ .exclusive := fun c => by cases c.mode <;> simp
  unfold Entry.derivedState
  split
  · next h => split <;> simp_all
  · next h => split <;> simp_all

theorem Entry.derivedState_eq_exclusive {en : Entry} :
    en.derivedState = .exclusive ↔ ∃ c ∈ en.holders, c.mode = .exclusive := by
  unfold Entry.derivedState
  split
  · next h => split <;> simp_all
  · next h =>
    split
    · next hx => simpa using hx
    · next hx => simpa using hx

/-- The derived state reads the holders and the queue alone. -/
theorem Entry.derivedState_congr {en en' : Entry} (hh : en'.holders = en.holders) (hq : en'.queue = en.queue) :
    en'.derivedState = en.derivedState := by
  simp only [Entry.derivedState, hh, hq]

/-- The derived state reads the modes of the holders and whether anyone waits. -/
theorem Entry.derivedState_congr_modes {en en' : Entry} (hh : en'.holders.map Claim.mode = en.holders.map Claim.mode)
    (hq : en'.queue.length = en.queue.length) : en'.derivedState = en.derivedState := by
  have hany : ∀ l : List Claim, (l.any fun c => c.mode = .exclusive) = (l.map Claim.mode).any fun m => m = .exclusive :=
    fun l => by simp [List.any_map, Function.comp_def]
  have hempty : ∀ l : List Claim, l.isEmpty = decide (l.length = 0) := fun l => by cases l <;> simp
  have hlen : en'.holders.length = en.holders.length := by simpa using congrArg List.length hh
  simp only [Entry.derivedState, hany, hh, hempty, hq, hlen]

/-! ### Recomputation settles -/

theorem Entry.Sound.of_state {en : Entry} (h : en.Sound) (st : EntryState) : Entry.Sound { en with state := st } :=
  ⟨h.distinct, h.ordered, h.exclusive, h.within, h.shareLow, h.shareHigh, h.note, h.unmarked⟩

/-- The recomputation of a sound entry, RETIRING without waiters or not RETIRING, makes it legal. -/
theorem Entry.legal_of_recomputed {en en' : Entry} (h : en.Sound) (hd : en.Drained) (hr : en.recomputed = some en') :
    en'.legal := by
  rw [Entry.legal_iff]
  by_cases hs : en.state = .retiring
  · rw [Entry.recomputed_of_retiring hs] at hr
    split at hr
    · cases hr
    · next hne =>
      cases hr
      exact ⟨h, (Entry.settled_of_retiring hs).mpr ⟨by simpa using hne, hd hs⟩⟩
  · rw [Entry.recomputed_of_ne_retiring hs] at hr
    cases hr
    refine ⟨h.of_state _, (Entry.settled_of_ne_retiring ?_).mpr ?_⟩
    · exact en.derivedState_ne_retiring
    · exact (Entry.derivedState_congr rfl rfl).symm

/-! ### Reduced entries -/

/-- From en to en' records only left. -/
structure Entry.Reduced (en en' : Entry) : Prop where
  holders : en'.holders.Sublist en.holders
  queue : en'.queue.Sublist en.queue
  state : en'.state = en.state
  share : en'.shareLimit = en.shareLimit
  note : en'.note = en.note

theorem Entry.Reduced.refl (en : Entry) : en.Reduced en := ⟨List.Sublist.refl _, List.Sublist.refl _, rfl, rfl, rfl⟩

theorem Entry.Sound.reduce {en en' : Entry} (h : en.Sound) (hr : en.Reduced en') : en'.Sound where
  distinct := ((hr.holders.append hr.queue).map _).nodup h.distinct
  ordered := h.ordered.sublist hr.holders
  exclusive c hc hm := by
    have hone := h.exclusive c (hr.holders.subset hc) hm
    have hle := hr.holders.length_le
    have hpos := List.length_pos_of_mem hc
    omega
  within := by rw [hr.share]; exact hr.holders.length_le.trans h.within
  shareLow := by rw [hr.share]; exact h.shareLow
  shareHigh := by rw [hr.share]; exact h.shareHigh
  note := by rw [hr.note]; exact h.note
  unmarked c hc := h.unmarked c (hr.holders.subset hc)

theorem Entry.Drained.reduce {en en' : Entry} (h : en.Drained) (hr : en.Reduced en') : en'.Drained := fun hs =>
  List.sublist_nil.mp (h (hr.state ▸ hs) ▸ hr.queue)

theorem Entry.reduced_withoutHold (en : Entry) (r : ReqSlot) (stale : Bool) : en.Reduced (en.withoutHold r stale) :=
  ⟨List.filter_sublist, List.Sublist.refl _, rfl, rfl, rfl⟩

theorem Entry.reduced_withoutWait (en : Entry) (r : ReqSlot) : en.Reduced (en.withoutWait r) :=
  ⟨List.Sublist.refl _, List.filter_sublist, rfl, rfl, rfl⟩

theorem Entry.reduced_withoutSet (en : Entry) (r : ReqSlot) (id : Word16) : en.Reduced (en.withoutSet r id) :=
  ⟨List.Sublist.refl _, List.filter_sublist, rfl, rfl, rfl⟩

theorem Entry.reduced_stripped (en : Entry) (r : ReqSlot) (stale : Bool) : en.Reduced (en.stripped r stale) :=
  ⟨List.filter_sublist, List.filter_sublist, rfl, rfl, rfl⟩

/-! ### Entries that gain a record -/

/-- A claim fits beside the holders: there is none, or the claim and all of them are shared and there is room (R35). -/
theorem Entry.fits_iff {en : Entry} {m : Mode} : en.fits m = true ↔
    en.holders = [] ∨ m = .shared ∧ (∀ c ∈ en.holders, c.mode = .shared) ∧ en.holders.length < en.shareLimit := by
  cases m <;> simp [Entry.fits]

theorem Entry.fits_congr {en en' : Entry} (hh : en'.holders = en.holders) (hs : en'.shareLimit = en.shareLimit) (m : Mode) :
    en'.fits m = en.fits m := by
  cases m <;> simp only [Entry.fits, hh, hs]

/-- An entry gains a hold that fits beside its holders, of a requester without a record on it. -/
theorem Entry.Sound.gainHolder {en : Entry} (h : en.Sound) {c : Claim} (hc : en.claimed c.requester = false)
    (hf : en.fits c.mode = true) : (en.gainHolder c).Sound := by
  have hfree := Entry.claimed_eq_false.mp hc
  have hperm : (en.gainHolder c).holders.Perm ({ c with firstMember := false, deadline := armed en.holdLimit } :: en.holders) :=
    insertHolder_perm _ _
  have hlen : (en.gainHolder c).holders.length = en.holders.length + 1 := by rw [hperm.length_eq, List.length_cons]
  refine ⟨?_, ?_, fun d hd hm => ?_, ?_, h.shareLow, h.shareHigh, h.note, fun d hd => ?_⟩
  · have hp := (hperm.append_right en.queue).map Claim.requester
    show (((en.gainHolder c).holders ++ en.queue).map Claim.requester).Nodup
    rw [hp.nodup_iff, List.cons_append, List.map_cons, List.nodup_cons]
    refine ⟨fun hmem => ?_, h.distinct⟩
    obtain ⟨d, hd, hdr⟩ := List.mem_map.mp hmem
    exact hfree d hd hdr
  · exact insertHolder_pairwise h.ordered fun d hd => hfree d (List.mem_append_left _ hd)
  · obtain hnil | ⟨hshared, hall, -⟩ := Entry.fits_iff.mp hf
    · rw [hlen, hnil]; rfl
    · obtain rfl | hd := List.mem_cons.mp (hperm.mem_iff.mp hd)
      · exact absurd (hm.symm.trans hshared) (by simp)
      · exact absurd (hm.symm.trans (hall d hd)) (by simp)
  · show (en.gainHolder c).holders.length ≤ en.shareLimit
    obtain hnil | ⟨-, -, hroom⟩ := Entry.fits_iff.mp hf
    · rw [hlen, hnil]; exact h.shareLow
    · omega
  · obtain rfl | hd := List.mem_cons.mp (hperm.mem_iff.mp hd)
    · rfl
    · exact h.unmarked d hd

/-- An entry gains a wait of a requester without a record on it. -/
theorem Entry.Sound.enqueue {en : Entry} (h : en.Sound) {c : Claim} (hc : en.claimed c.requester = false)
    (priority : ReqSlot → Nat) : Entry.Sound { en with queue := insertWaiter priority c en.queue } := by
  refine ⟨?_, h.ordered, h.exclusive, h.within, h.shareLow, h.shareHigh, h.note, h.unmarked⟩
  have hperm : (en.holders ++ insertWaiter priority c en.queue).Perm (c :: (en.holders ++ en.queue)) :=
    ((insertWaiter_perm priority c en.queue).append_left en.holders).trans List.perm_middle
  rw [(hperm.map Claim.requester).nodup_iff, List.map_cons, List.nodup_cons]
  refine ⟨fun hmem => ?_, h.distinct⟩
  obtain ⟨d, hd, hdr⟩ := List.mem_map.mp hmem
  exact Entry.claimed_eq_false.mp hc d hd hdr

/-- The head of a queue has no other record on its entry (R24). -/
theorem Entry.Sound.tail_unclaimed {en : Entry} (h : en.Sound) {c : Claim} {rest : List Claim} (hq : en.queue = c :: rest) :
    Entry.claimed { en with queue := rest } c.requester = false := by
  rw [Entry.claimed_eq_false]
  intro d hd hdr
  have hperm : (en.holders ++ en.queue).Perm (c :: (en.holders ++ rest)) := hq ▸ List.perm_middle
  have hdist := (hperm.map Claim.requester).nodup_iff.mp h.distinct
  rw [List.map_cons, List.nodup_cons] at hdist
  exact hdist.1 (hdr ▸ List.mem_map_of_mem hd)

/-- The grant of a head that fits keeps an entry sound. -/
theorem Entry.Sound.headGranted {en : Entry} (h : en.Sound) {c : Claim} (hq : en.queue.head? = some c)
    (hf : en.fits c.mode = true) : (en.headGranted c).Sound := by
  obtain ⟨rest, hrest⟩ : ∃ rest, en.queue = c :: rest := ⟨_, List.eq_cons_of_mem_head? hq⟩
  have htail : en.queue.tail = rest := by rw [hrest]; rfl
  have hred : en.Reduced { en with queue := rest } :=
    ⟨List.Sublist.refl _, hrest ▸ List.sublist_cons_self c rest, rfl, rfl, rfl⟩
  unfold Entry.headGranted
  rw [htail]
  exact (h.reduce hred).gainHolder (h.tail_unclaimed hrest) ((Entry.fits_congr rfl rfl c.mode).trans hf)

/-- The grant of a set on an entry at whose head its record stands is the grant of that head. -/
theorem Entry.Sound.memberGranted_eq {en : Entry} (h : en.Sound) {r : ReqSlot} {id : Word16} {c : Claim}
    (hq : en.queue.head? = some c) (hc : c.inSet r id = true) : en.memberGranted r id = en.headGranted c := by
  obtain ⟨rest, hrest⟩ : ∃ rest, en.queue = c :: rest := ⟨_, List.eq_cons_of_mem_head? hq⟩
  have hcr : c.requester = r := by
    simp only [Claim.inSet, Bool.and_eq_true, decide_eq_true_eq] at hc
    exact hc.1
  have hothers : ∀ d ∈ rest, d.inSet r id = false := fun d hd => by
    have hne := Entry.claimed_eq_false.mp (h.tail_unclaimed hrest) d (List.mem_append_right _ hd)
    simp only [Claim.inSet, Bool.and_eq_false_iff, decide_eq_false_iff_not]
    exact .inl fun hdr => hne (hdr.trans hcr.symm)
  have hfind : en.setRecord r id = some c := by simp [Entry.setRecord, hrest, hc]
  have hfilter : en.queue.filter (fun d => !d.inSet r id) = en.queue.tail := by
    rw [hrest, List.filter_cons_of_neg (by simp [hc]), List.tail_cons]
    exact List.filter_eq_self.mpr fun d hd => by simp [hothers d hd]
  simp only [Entry.memberGranted, hfind, hfilter, Entry.headGranted]

/-! ### Legal states with some entries unsettled -/

/-- Every live entry is sound and drained, and settled but for some slots. -/
def State.LegalOff (s : State) (off : Set EntrySlot) : Prop :=
  ∀ e en, s.entry e = some en → en.Sound ∧ en.Drained ∧ (e ∉ off → en.Settled)

theorem State.legalOff_empty (s : State) : s.LegalOff ∅ ↔ s.entriesLegal := by
  constructor
  · intro h e en he
    obtain ⟨hs, -, hst⟩ := h e en he
    exact (en.legal_iff).mpr ⟨hs, hst (Set.notMem_empty e)⟩
  · intro h e en he
    obtain ⟨hs, hst⟩ := (en.legal_iff).mp (h e en he)
    exact ⟨hs, hst.drained, fun _ => hst⟩

theorem State.LegalOff.mono {s : State} {off off' : Set EntrySlot} (h : s.LegalOff off) (hsub : off ⊆ off') : s.LegalOff off' :=
  fun e en he => ⟨(h e en he).1, (h e en he).2.1, fun hn => (h e en he).2.2 fun hm => hn (hsub hm)⟩

theorem State.LegalOff.congr {s t : State} {off : Set EntrySlot} (h : s.LegalOff off) (he : ∀ e, t.entry e = s.entry e) :
    t.LegalOff off :=
  fun e en hen => h e en (by rw [← he]; exact hen)

/-- Records leave entries, of which those outside off stay as they are. -/
theorem State.LegalOff.reduce {s t : State} {off : Set EntrySlot} (h : s.LegalOff off)
    (hr : ∀ e en', t.entry e = some en' → ∃ en, s.entry e = some en ∧ en.Reduced en' ∧ (e ∉ off → en' = en)) :
    t.LegalOff off := by
  intro e en' he
  obtain ⟨en, hen, hred, hid⟩ := hr e en' he
  obtain ⟨hs, hd, hst⟩ := h e en hen
  exact ⟨hs.reduce hred, hd.reduce hred, fun hn => by rw [hid hn]; exact hst hn⟩

/-- The recomputation of some entries settles them. -/
theorem State.LegalOff.recomputeAll {s : State} {off : Set EntrySlot} (h : s.LegalOff off) (es : List EntrySlot) :
    (s.recomputeAll es).LegalOff (off \ {e | e ∈ es}) := by
  intro e en' he
  rw [State.entry_recomputeAll] at he
  split at he
  · next hmem =>
    obtain ⟨en, hen, hrec⟩ := Option.bind_eq_some_iff.mp he
    obtain ⟨hs, hd, -⟩ := h e en hen
    obtain ⟨hs', hst'⟩ := (en'.legal_iff).mp (Entry.legal_of_recomputed hs hd hrec)
    exact ⟨hs', hst'.drained, fun _ => hst'⟩
  · next hmem =>
    obtain ⟨hs, hd, hst⟩ := h e en' he
    exact ⟨hs, hd, fun hn => hst fun hoff => hn ⟨hoff, hmem⟩⟩

theorem State.LegalOff.recompute {s : State} {e : EntrySlot} (h : s.LegalOff {e}) : (s.recompute e).entriesLegal := by
  have hrec := h.recomputeAll [e]
  rw [← State.legalOff_empty]
  exact hrec.mono fun x hx => (hx.2 (by simpa using hx.1)).elim

theorem State.LegalOff.freeSlot {s : State} {e : EntrySlot} (h : s.LegalOff {e}) : (s.freeSlot e).entriesLegal := by
  rw [← State.legalOff_empty]
  intro e' en he
  rw [State.entry_freeSlot] at he
  split at he
  · cases he
  · next hne =>
    obtain ⟨hs, hd, hst⟩ := h e' en he
    exact ⟨hs, hd, fun _ => hst fun hm => hne (Set.mem_singleton_iff.mp hm).symm⟩

/-- One entry is written. -/
theorem State.LegalOff.setEntry {s : State} {off : Set EntrySlot} {e : EntrySlot} {en : Entry} (h : s.LegalOff off)
    (hs : en.Sound) (hd : en.Drained) (hst : e ∉ off → en.Settled) : (s.setEntry e en).LegalOff off := by
  intro e' en' he
  rw [State.entry_setEntry] at he
  split at he
  · next hee => cases he; subst hee; exact ⟨hs, hd, hst⟩
  · exact h e' en' he

theorem State.entriesLegal_setEntry {s : State} {e : EntrySlot} {en : Entry} (h : s.entriesLegal) (hen : en.legal) :
    (s.setEntry e en).entriesLegal := by
  rw [← State.legalOff_empty] at h ⊢
  obtain ⟨hs, hst⟩ := en.legal_iff.mp hen
  exact h.setEntry hs hst.drained fun _ => hst

/-! ### Removals -/

theorem State.LegalOff.dropHold {s : State} {off : Set EntrySlot} (h : s.LegalOff off) {r : ReqSlot} {e : EntrySlot}
    (he : e ∈ off) (stale : Bool) : (s.dropHold r e stale).LegalOff off := by
  refine h.reduce fun e' en' hen' => ?_
  rw [State.entry_dropHold] at hen'
  split at hen'
  · next hee =>
    subst hee
    obtain ⟨en, hen, rfl⟩ := Option.map_eq_some_iff.mp hen'
    exact ⟨en, hen, en.reduced_withoutHold r stale, fun hn => absurd he hn⟩
  · exact ⟨en', hen', .refl en', fun _ => rfl⟩

theorem State.LegalOff.dropWait {s : State} {off : Set EntrySlot} (h : s.LegalOff off) {r : ReqSlot} {e : EntrySlot}
    (he : e ∈ off) : (s.dropWait r e).LegalOff off := by
  refine h.reduce fun e' en' hen' => ?_
  rw [State.entry_dropWait] at hen'
  split at hen'
  · next hee =>
    subst hee
    obtain ⟨en, hen, rfl⟩ := Option.map_eq_some_iff.mp hen'
    exact ⟨en, hen, en.reduced_withoutWait r, fun hn => absurd he hn⟩
  · exact ⟨en', hen', .refl en', fun _ => rfl⟩

theorem Entry.withoutSet_of_none {en : Entry} {r : ReqSlot} {id : Word16} (h : ∀ c ∈ en.queue, c.inSet r id = false) :
    en.withoutSet r id = en := by
  have hqueue : en.queue.filter (fun c => !c.inSet r id) = en.queue :=
    List.filter_eq_self.mpr fun c hc => by simp [h c hc]
  simp only [Entry.withoutSet, hqueue]

theorem State.LegalOff.dropSet {s : State} {off : Set EntrySlot} (h : s.LegalOff off) {r : ReqSlot} {id : Word16}
    (hoff : ∀ e ∈ s.setMembers r id, e ∈ off) : (s.dropSet r id).LegalOff off := by
  refine h.reduce fun e en' hen' => ?_
  rw [State.entry_dropSet] at hen'
  obtain ⟨en, hen, rfl⟩ := Option.map_eq_some_iff.mp hen'
  refine ⟨en, hen, en.reduced_withoutSet r id, fun hn => Entry.withoutSet_of_none fun c hc => ?_⟩
  by_contra hin
  exact hn (hoff e (State.mem_setMembers.mpr ⟨en, hen, c, hc, by simpa using hin⟩))

theorem State.entriesLegal_stripAll {s : State} (h : s.entriesLegal) (r : ReqSlot) (stale : Bool) :
    (s.stripAll r stale).entriesLegal := by
  intro e en' he
  rw [State.entry_stripAll] at he
  obtain ⟨en, hen, hrec⟩ := Option.bind_eq_some_iff.mp he
  split at hrec
  · obtain ⟨hs, hst⟩ := en.legal_iff.mp (h e en hen)
    have hred := en.reduced_stripped r stale
    exact Entry.legal_of_recomputed (hs.reduce hred) (hst.drained.reduce hred) hrec
  · cases hrec
    exact h e en' hen

theorem State.LegalOff.notify {s : State} {off : Set EntrySlot} (h : s.LegalOff off) {notify : State → State}
    (hn : Notifying notify) : (notify s).LegalOff off :=
  h.congr fun e => hn.entry s e

/-! ### Admission passes -/

theorem State.LegalOff.grantHead {s : State} {off : Set EntrySlot} (h : s.LegalOff off) {e : EntrySlot} (he : e ∈ off)
    (q : Quiet) {c : Claim} {en : Entry} (hen : s.entry e = some en) (hq : en.queue.head? = some c)
    (hf : en.fits c.mode = true) : (s.grantHead q e c).LegalOff off := by
  intro e' en' hen'
  rw [State.entry_grantHead] at hen'
  split at hen'
  · next hee =>
    subst hee
    rw [hen, Option.map_some, Option.some.injEq] at hen'
    subst hen'
    obtain ⟨hs, hd, -⟩ := h e en hen
    refine ⟨hs.headGranted hq hf, fun hr => absurd hr (hd.ne_retiring fun hnil => ?_), fun hn => absurd he hn⟩
    simp [hnil] at hq
  · exact h e' en' hen'

/-- What a grantable set is: at every member its record stands at the head and fits (R58). -/
theorem State.grantable_iff {s : State} {r : ReqSlot} {id : Word16} :
    s.grantable r id = true ↔ ∀ e ∈ s.setMembers r id, ∃ en, s.entry e = some en ∧ ∃ c, en.queue.head? = some c ∧
      c.inSet r id = true ∧ en.fits c.mode = true := by
  unfold State.grantable
  rw [List.all_eq_true]
  refine forall₂_congr fun e _ => ?_
  cases s.entry e with
  | none => simp
  | some en => cases hq : en.queue.head? <;> simp [hq]

/-- The grant of a grantable set leaves its members legal. -/
theorem State.LegalOff.grantSet {s : State} {off : Set EntrySlot} (h : s.LegalOff off) (q : Quiet) {r : ReqSlot} {id : Word16}
    (hg : s.grantable r id = true) : (s.grantSet q r id).LegalOff off := by
  intro e en' hen'
  rw [State.entry_grantSet] at hen'
  split at hen'
  · next hmem =>
    obtain ⟨en, hen, hrec⟩ := Option.bind_eq_some_iff.mp hen'
    obtain ⟨en₀, hen₀, c, hq, hin, hf⟩ := State.grantable_iff.mp hg e hmem
    obtain rfl : en = en₀ := Option.some.inj (hen.symm.trans hen₀)
    obtain ⟨hs, hd, -⟩ := h e en hen
    rw [hs.memberGranted_eq hq hin] at hrec
    have hne : (en.headGranted c).state ≠ .retiring := hd.ne_retiring fun hnil => by simp [hnil] at hq
    have hlegal := Entry.legal_of_recomputed (hs.headGranted hq hf) (fun hr => absurd hr hne) hrec
    obtain ⟨hs', hst'⟩ := en'.legal_iff.mp hlegal
    exact ⟨hs', hst'.drained, fun _ => hst'⟩
  · exact h e en' hen'

theorem State.LegalOff.passTurns {e : EntrySlot} (q : Quiet) (n : Nat) {s : State} (h : s.LegalOff {e})
    (list : List EntrySlot) : (passTurns q e n s list).1.LegalOff {e} := by
  induction n generalizing s list with
  | zero => exact h
  | succ n ih =>
    unfold Machine.passTurns
    split
    · exact h
    · next en hen =>
      split
      · exact h
      · next c hc =>
        split
        · split
          · next hf =>
            have hgrant := h.grantHead (Set.mem_singleton e) q hen hc hf
            dsimp only
            split
            · exact hgrant
            · exact ih hgrant _
          · exact h
        · split
          · next hg =>
            have hgrant := h.grantSet q hg
            dsimp only
            split
            · exact hgrant
            · exact ih hgrant _
          · exact h

theorem State.entriesLegal_pass {s : State} (h : s.entriesLegal) (q : Quiet) (e : EntrySlot) (list : List EntrySlot) :
    (s.pass q e list).1.entriesLegal :=
  (State.LegalOff.passTurns q _ ((s.legalOff_empty.mpr h).mono (Set.empty_subset _)) list).recompute

theorem State.entriesLegal_runPassList (q : Quiet) (n : Nat) {s : State} (h : s.entriesLegal) (list : List EntrySlot) :
    (runPassList q n s list).entriesLegal := by
  induction n generalizing s list with
  | zero => exact h
  | succ n ih =>
    cases list with
    | nil => exact h
    | cons e rest =>
      unfold Machine.runPassList
      split
      · exact ih h _
      · exact ih (State.entriesLegal_pass h q e rest) _

theorem State.entriesLegal_runPasses {s : State} (h : s.entriesLegal) (q : Quiet) (list : List EntrySlot) :
    (s.runPasses q list).entriesLegal :=
  State.entriesLegal_runPassList q _ h list

/-! ### Grants at once and placements -/

/-- An entry that grants a claim at once has no waiter, and the claim fits beside its holders (R27). -/
theorem Entry.atOnce_fits {en : Entry} (h : en.legal) {m : Mode} (ho : AtOnce en m) : en.queue = [] ∧ en.fits m = true := by
  obtain ⟨hs, hst⟩ := en.legal_iff.mp h
  rcases ho with hidle | ⟨rfl, hshared, hq, hroom⟩
  · have hder := (Entry.settled_of_ne_retiring (by simp [hidle])).mp hst
    obtain ⟨hholders, hqueue⟩ := Entry.derivedState_eq_idle.mp (hder ▸ hidle)
    exact ⟨hqueue, Entry.fits_iff.mpr (.inl hholders)⟩
  · have hder := (Entry.settled_of_ne_retiring (by simp [hshared])).mp hst
    obtain ⟨-, hall⟩ := Entry.derivedState_eq_shared.mp (hder ▸ hshared)
    exact ⟨hq, Entry.fits_iff.mpr (.inr ⟨rfl, hall, hroom⟩)⟩

theorem Entry.atOnce_ne_retiring {en : Entry} {m : Mode} (ho : AtOnce en m) : en.state ≠ .retiring := by
  rcases ho with hidle | ⟨-, hshared, -⟩
  · simp [hidle]
  · simp [hshared]

theorem State.entriesLegal_grantNow {s : State} (h : s.entriesLegal) {r : ReqSlot} {e : EntrySlot} {en : Entry} {m : Mode}
    (hen : s.entry e = some en) (hc : en.claimed r = false) (ho : AtOnce en m) (id : Option Word16) :
    (s.grantNow r e m id).entriesLegal := by
  intro e' en' hen'
  rw [State.entry_grantNow] at hen'
  split at hen'
  · rw [hen, Option.bind_some] at hen'
    have hlegal := h e en hen
    obtain ⟨hs, -⟩ := en.legal_iff.mp hlegal
    refine Entry.legal_of_recomputed (hs.gainHolder hc (Entry.atOnce_fits hlegal ho).2) (fun hr => ?_) hen'
    exact absurd (show en.state = .retiring from hr) (Entry.atOnce_ne_retiring ho)
  · exact h e' en' hen'

theorem State.entriesLegal_place {s : State} (h : s.entriesLegal) {e : EntrySlot} {c : Claim} {en : Entry}
    (hen : s.entry e = some en) (hc : en.claimed c.requester = false) (hr : en.state ≠ .retiring) :
    (s.place e c).entriesLegal := by
  intro e' en' hen'
  rw [State.entry_place] at hen'
  split at hen'
  · rw [hen, Option.bind_some] at hen'
    obtain ⟨hs, -⟩ := en.legal_iff.mp (h e en hen)
    exact Entry.legal_of_recomputed (hs.enqueue hc s.priority) (fun hret => absurd hret hr) hen'
  · exact h e' en' hen'

/-- Members of distinct slots, each granted at once as the state stands, are granted one after another. -/
theorem State.entriesLegal_grantAll {s : State} (h : s.entriesLegal) {r : ReqSlot} (id : Option Word16)
    {members : List (EntrySlot × Mode)} (hd : (members.map Prod.fst).Nodup)
    (hm : ∀ p ∈ members, ∃ en, s.entry p.1 = some en ∧ en.claimed r = false ∧ AtOnce en p.2) :
    (members.foldl (fun u p => u.grantNow r p.1 p.2 id) s).entriesLegal := by
  induction members generalizing s with
  | nil => exact h
  | cons p members ih =>
    obtain ⟨hp, hd⟩ := List.nodup_cons.mp hd
    obtain ⟨en, hen, hc, ho⟩ := hm p List.mem_cons_self
    refine ih (State.entriesLegal_grantNow h hen hc ho id) hd fun p' hp' => ?_
    have hne : p.1 ≠ p'.1 := fun heq => hp (heq ▸ List.mem_map_of_mem hp')
    rw [State.entry_grantNow, if_neg hne]
    exact hm p' (List.mem_cons_of_mem p hp')

/-- Records of one requester at distinct slots, each placeable as the state stands, are placed one after another. -/
theorem State.entriesLegal_placeAll {s : State} (h : s.entriesLegal) {r : ReqSlot} {records : List (EntrySlot × Claim)}
    (hd : (records.map Prod.fst).Nodup)
    (hm : ∀ p ∈ records, p.2.requester = r ∧ ∃ en, s.entry p.1 = some en ∧ en.claimed r = false ∧ en.state ≠ .retiring) :
    (records.foldl (fun u p => u.place p.1 p.2) s).entriesLegal := by
  induction records generalizing s with
  | nil => exact h
  | cons p records ih =>
    obtain ⟨hp, hd⟩ := List.nodup_cons.mp hd
    obtain ⟨hr, en, hen, hc, hret⟩ := hm p List.mem_cons_self
    refine ih (State.entriesLegal_place h hen (hr ▸ hc) hret) hd fun p' hp' => ?_
    have hne : p.1 ≠ p'.1 := fun heq => hp (heq ▸ List.mem_map_of_mem hp')
    rw [State.entry_place, if_neg hne]
    exact hm p' (List.mem_cons_of_mem p hp')

theorem setRecords_map_fst (r : ReqSlot) (id : Word16) (limit : Nat) (members : List (EntrySlot × Mode)) :
    (setRecords r id limit members).map Prod.fst = members.map Prod.fst := by
  cases members with
  | nil => rfl
  | cons p rest => simp [setRecords]

/-- The records of a set are the requester's, under the set's id. -/
theorem mem_setRecords {r : ReqSlot} {id : Word16} {limit : Nat} {members : List (EntrySlot × Mode)} {x : EntrySlot × Claim}
    (hx : x ∈ setRecords r id limit members) :
    (x.1, x.2.mode) ∈ members ∧ x.2.requester = r ∧ x.2.setId = some id := by
  cases members with
  | nil => cases hx
  | cons p rest =>
    obtain rfl | hx := List.mem_cons.mp hx
    · exact ⟨List.mem_cons_self, rfl, rfl⟩
    · obtain ⟨q, hq, rfl⟩ := List.mem_map.mp hx
      exact ⟨List.mem_cons_of_mem p hq, rfl, rfl⟩

theorem State.allAtOnce_iff {s : State} {members : List (EntrySlot × Mode)} :
    s.allAtOnce members = true ↔ ∀ p ∈ members, ∃ en, s.entry p.1 = some en ∧ AtOnce en p.2 := by
  unfold State.allAtOnce
  rw [List.all_eq_true]
  refine forall₂_congr fun p _ => ?_
  cases s.entry p.1 <;> simp [Entry.grantsAtOnce_iff]

/-! ### Retiring -/

/-- The cancellation of waits leaves the retired entry with what is left of its queue, and settles every other. -/
structure CancelFrame (e : EntrySlot) (en : Entry) (done : List Claim) (u : State) : Prop where
  legal : u.LegalOff {e}
  entry : ∃ queue, u.entry e = some { en with queue := queue } ∧ queue.Sublist en.queue ∧ ∀ c ∈ done, c ∉ queue

theorem CancelFrame.cancelWait {e : EntrySlot} {en : Entry} {done : List Claim} {acc : State × List EntrySlot}
    (h : CancelFrame e en done acc.1) (c : Claim) : CancelFrame e en (done ++ [c]) (cancelWait e acc c).1 := by
  obtain ⟨queue, hen, hsub, hdone⟩ := h.entry
  unfold Machine.cancelWait
  dsimp only
  split
  · refine ⟨(h.legal.dropWait (Set.mem_singleton e)).notify (.notice _ _ _),
      queue.filter fun d => d.requester ≠ c.requester, ?_, List.filter_sublist.trans hsub,
      fun d hd hmem => ?_⟩
    · rw [State.entry_queueNotice, State.entry_dropWait, if_pos rfl, hen]; rfl
    · obtain ⟨hmem, hne⟩ := List.mem_filter.mp hmem
      obtain hd | hd := List.mem_append.mp hd
      · exact hdone d hd hmem
      · simp [List.mem_singleton.mp hd] at hne
  · next id hid =>
    constructor
    · have hdrop : (acc.1.dropSet c.requester id).LegalOff ({e} ∪ {x | x ∈ acc.1.setMembers c.requester id}) :=
        (h.legal.mono Set.subset_union_left).dropSet fun x hx => Or.inr hx
      have hnotice := hdrop.notify (.notice c.requester
        (match acc.1.firstMember c.requester id with | some (f, _) => f | none => e) (.waitCancelled (some id)))
      refine (hnotice.recomputeAll ((acc.1.setMembers c.requester id).filter fun m => m ≠ e)).mono fun x hx => ?_
      obtain ⟨hx | hx, hn⟩ := hx
      · exact hx
      · by_contra hne
        exact hn (List.mem_filter.mpr ⟨hx, by simpa using hne⟩)
    · refine ⟨queue.filter fun d => !d.inSet c.requester id, ?_, List.filter_sublist.trans hsub, fun d hd hmem => ?_⟩
      · rw [State.entry_recomputeAll, if_neg (by simp), State.entry_queueNotice, State.entry_dropSet, hen]; rfl
      · obtain ⟨hmem, hne⟩ := List.mem_filter.mp hmem
        obtain hd | hd := List.mem_append.mp hd
        · exact hdone d hd hmem
        · obtain rfl := List.mem_singleton.mp hd
          simp [Claim.inSet, hid] at hne

/-- After all waits of an entry are cancelled its queue is empty and the rest of it as it was. -/
theorem State.cancelWaits_frame {s : State} (h : s.entriesLegal) {e : EntrySlot} {en : Entry} (hen : s.entry e = some en) :
    (s.cancelWaits e en).1.LegalOff {e} ∧ (s.cancelWaits e en).1.entry e = some { en with queue := [] } := by
  have hfold : ∀ (l done : List Claim) (acc : State × List EntrySlot), CancelFrame e en done acc.1 →
      CancelFrame e en (done ++ l) (l.foldl (Machine.cancelWait e) acc).1 := by
    intro l
    induction l with
    | nil => intro done acc hacc; simpa using hacc
    | cons c l ih =>
      intro done acc hacc
      have := ih (done ++ [c]) _ (hacc.cancelWait c)
      simpa using this
  have hstart : CancelFrame e en [] s :=
    ⟨(s.legalOff_empty.mpr h).mono (Set.empty_subset _), en.queue, hen, List.Sublist.refl _, by simp⟩
  obtain ⟨hlegal, queue, hqueue, hsub, hdone⟩ := hfold en.queue [] (s, []) hstart
  have hnil : queue = [] := List.eq_nil_iff_forall_not_mem.mpr fun c hc => hdone c (hsub.subset hc) hc
  exact ⟨hlegal, hnil ▸ hqueue⟩

theorem State.LegalOff.revokeHolds {s : State} {e : EntrySlot} (h : s.LegalOff {e}) (en : Entry) :
    (s.revokeHolds e en).LegalOff {e} := by
  unfold State.revokeHolds
  induction en.holders generalizing s with
  | nil => exact h
  | cons c l ih => exact ih ((h.dropHold (Set.mem_singleton e) true).notify (.notice _ _ _))

theorem State.entriesLegal_retireSteps {s : State} (h : s.entriesLegal) {e : EntrySlot} {en : Entry}
    (hen : s.entry e = some en) (force : Bool) : (s.retireSteps e en force).1.1.entriesLegal := by
  obtain ⟨hcancel, hentry⟩ := State.cancelWaits_frame h hen
  obtain ⟨hs, hst⟩ := en.legal_iff.mp (h e en hen)
  have hforce : (s.forceRetire e en).1.entriesLegal := (hcancel.revokeHolds en).freeSlot
  have hdrain : en.holders ≠ [] → (s.drainRetire e en).1.entriesLegal := fun hne => by
    have heq : (s.drainRetire e en).1 = (s.cancelWaits e en).1.setEntry e { en with queue := [], state := .retiring } := by
      simp [State.drainRetire, State.modifyEntry, hentry]
    have hsound := hs.reduce (en' := { en with queue := [] }) ⟨List.Sublist.refl _, List.nil_sublist _, rfl, rfl, rfl⟩
    rw [heq, ← State.legalOff_empty]
    have hset := hcancel.setEntry (hsound.of_state .retiring) (fun _ => rfl) fun hn => absurd (Set.mem_singleton e) hn
    intro e' en' he'
    obtain ⟨hs', hd', hst'⟩ := hset e' en' he'
    refine ⟨hs', hd', fun _ => ?_⟩
    by_cases hee : e' = e
    · subst hee
      rw [State.entry_setEntry, if_pos rfl, Option.some.injEq] at he'
      subst he'
      exact (Entry.settled_of_retiring rfl).mpr ⟨hne, rfl⟩
    · exact hst' hee
  have hheld : en.state = .exclusive ∨ en.state = .shared → en.holders ≠ [] := fun hx hnil => by
    have hder := (Entry.settled_of_ne_retiring (by rcases hx with hx | hx <;> simp [hx])).mp hst
    rcases hx with hx | hx
    · obtain ⟨c, hc, -⟩ := Entry.derivedState_eq_exclusive.mp (hder ▸ hx)
      simp [hnil] at hc
    · exact (Entry.derivedState_eq_shared.mp (hder ▸ hx)).1 hnil
  unfold State.retireSteps
  split
  · exact ((s.legalOff_empty.mpr h).mono (Set.empty_subset _)).freeSlot
  · exact hcancel.freeSlot
  · next hx =>
    split
    · exact hforce
    · exact hdrain (hheld (.inl hx))
  · next hx =>
    split
    · exact hforce
    · exact hdrain (hheld (.inr hx))
  · split
    · exact hforce
    · exact h

/-! ### Single writes -/

theorem Entry.legal_defined {f : DefineFields} (hf : shareLimitBad f.shareLimit = false) : (definedEntry f).legal := by
  simp only [shareLimitBad, Bool.or_eq_false_iff, decide_eq_false_iff_not] at hf
  refine (Entry.legal_iff _).mpr ⟨⟨List.nodup_nil, List.Pairwise.nil, by simp [definedEntry], by simp [definedEntry], ?_, ?_,
    by simp [definedEntry], by simp [definedEntry]⟩, rfl⟩
  · simp only [definedEntry]; omega
  · simp only [definedEntry]; omega

/-- A legal entry takes other limits that its holders are within. -/
theorem Entry.legal_limited {en : Entry} (h : en.legal) {share : Nat} (hbad : shareLimitBad share = false)
    (hlen : en.holders.length ≤ share) (hold : Nat) : Entry.legal { en with shareLimit := share, holdLimit := hold } := by
  simp only [shareLimitBad, Bool.or_eq_false_iff, decide_eq_false_iff_not] at hbad
  obtain ⟨hs, hst⟩ := en.legal_iff.mp h
  refine (Entry.legal_iff _).mpr ⟨⟨hs.distinct, hs.ordered, hs.exclusive, hlen, ?_, ?_, hs.note, hs.unmarked⟩, hst⟩
  · show 1 ≤ share; omega
  · show share ≤ 8; omega

theorem Entry.legal_noted {en : Entry} (h : en.legal) {note : List Byte} (hn : note.length ≤ 8) (stale : Bool) :
    Entry.legal { en with note := note, noteStale := stale } := by
  obtain ⟨hs, hst⟩ := en.legal_iff.mp h
  exact (Entry.legal_iff _).mpr
    ⟨⟨hs.distinct, hs.ordered, hs.exclusive, hs.within, hs.shareLow, hs.shareHigh, hn, hs.unmarked⟩, hst⟩

/-- A change of the records that keeps their requesters, modes and marks in place keeps an entry legal. -/
theorem Entry.legal_of_same_records {en en' : Entry} (h : en.legal)
    (hh : en'.holders.map (fun c => (c.requester, c.mode, c.firstMember)) =
      en.holders.map fun c => (c.requester, c.mode, c.firstMember))
    (hq : en'.queue.map Claim.requester = en.queue.map Claim.requester)
    (hf : (en'.state, en'.shareLimit, en'.note) = (en.state, en.shareLimit, en.note)) : en'.legal := by
  simp only [Prod.mk.injEq] at hf
  obtain ⟨hstate, hshare, hnote⟩ := hf
  obtain ⟨hs, hst⟩ := en.legal_iff.mp h
  have hreq : en'.holders.map Claim.requester = en.holders.map Claim.requester := by
    simpa [Function.comp_def] using congrArg (List.map Prod.fst) hh
  have hmode : en'.holders.map Claim.mode = en.holders.map Claim.mode := by
    simpa [Function.comp_def] using congrArg (List.map fun x => x.2.1) hh
  have hlen : en'.holders.length = en.holders.length := by simpa using congrArg List.length hh
  have hqlen : en'.queue.length = en.queue.length := by simpa using congrArg List.length hq
  have hmem : ∀ c ∈ en'.holders, ∃ d ∈ en.holders, d.mode = c.mode ∧ d.firstMember = c.firstMember := fun c hc => by
    have hc' : (c.requester, c.mode, c.firstMember) ∈ en.holders.map fun c => (c.requester, c.mode, c.firstMember) :=
      hh ▸ List.mem_map_of_mem hc
    obtain ⟨d, hd, hdc⟩ := List.mem_map.mp hc'
    simp only [Prod.mk.injEq] at hdc
    exact ⟨d, hd, hdc.2.1, hdc.2.2⟩
  refine (Entry.legal_iff _).mpr ⟨⟨?_, ?_, fun c hc hm => ?_, by omega, by rw [hshare]; exact hs.shareLow,
    by rw [hshare]; exact hs.shareHigh, by rw [hnote]; exact hs.note, fun c hc => ?_⟩, ?_⟩
  · rw [List.map_append, hreq, hq, ← List.map_append]; exact hs.distinct
  · have hord := List.pairwise_map.mpr hs.ordered
    rw [← hreq] at hord
    exact List.pairwise_map.mp hord
  · obtain ⟨d, hd, hdm, -⟩ := hmem c hc
    rw [hlen]; exact hs.exclusive d hd (hdm.trans hm)
  · obtain ⟨d, hd, -, hdf⟩ := hmem c hc
    rw [← hdf]; exact hs.unmarked d hd
  · by_cases hr : en'.state = .retiring
    · obtain ⟨hne, hnil⟩ := (Entry.settled_of_retiring (hstate ▸ hr)).mp hst
      refine (Entry.settled_of_retiring hr).mpr ⟨fun hnil' => hne ?_, ?_⟩
      · rw [← List.length_eq_zero_iff, ← hlen, hnil', List.length_nil]
      · rw [← List.length_eq_zero_iff, hqlen, hnil, List.length_nil]
    · have hder := (Entry.settled_of_ne_retiring (hstate ▸ hr)).mp hst
      refine (Entry.settled_of_ne_retiring hr).mpr ?_
      rw [hstate, hder, Entry.derivedState_congr_modes hmode hqlen]

theorem Entry.legal_tick {en : Entry} (h : en.legal) : en.tick.legal :=
  Entry.legal_of_same_records h (by simp [Entry.tick, Function.comp_def]) (by simp [Entry.tick, Function.comp_def]) rfl

/-- The hold of the only holder takes another mode (R43, R44). -/
theorem Entry.Sound.setHoldMode {en : Entry} (h : en.Sound) {r : ReqSlot} (hone : en.holders.length = 1) (m : Mode) :
    (en.setHoldMode r m).Sound := by
  obtain ⟨c, hc⟩ := List.length_eq_one_iff.mp hone
  have hholders : (en.setHoldMode r m).holders = [if c.requester = r then { c with mode := m } else c] := by
    simp [Entry.setHoldMode, hc]
  have hreq : (if c.requester = r then { c with mode := m } else c).requester = c.requester := by split <;> rfl
  have hmark : (if c.requester = r then { c with mode := m } else c).firstMember = c.firstMember := by split <;> rfl
  refine ⟨?_, ?_, fun _ _ _ => ?_, ?_, h.shareLow, h.shareHigh, h.note, fun d hd => ?_⟩
  · have hd := h.distinct
    rw [hc] at hd
    show (((en.setHoldMode r m).holders ++ en.queue).map Claim.requester).Nodup
    rw [hholders]
    simpa [hreq] using hd
  · rw [hholders]; exact List.pairwise_singleton _ _
  · rw [hholders]; rfl
  · rw [hholders]; exact h.shareLow
  · rw [hholders] at hd
    rw [List.mem_singleton.mp hd, hmark]
    exact h.unmarked c (hc ▸ List.mem_cons_self)

/-- When the requester of a hold is the only one among the holders, that hold is the only one. -/
theorem Entry.Sound.holders_length_of_sole {en : Entry} (h : en.Sound) {r : ReqSlot} {c : Claim} (hc : en.hold r = some c)
    (hsole : ∀ d ∈ en.holders, d.requester = r) : en.holders.length = 1 := by
  have hdist := (List.nodup_append.mp (List.map_append (f := Claim.requester) ▸ h.distinct)).1
  have hmem := (Entry.mem_of_hold hc).1
  match hlist : en.holders with
  | [] => simp [hlist] at hmem
  | [_] => rfl
  | a :: b :: rest =>
    rw [hlist] at hdist hsole
    have ha := hsole a List.mem_cons_self
    have hb := hsole b (List.mem_cons_of_mem a List.mem_cons_self)
    simp [ha, hb] at hdist

/-- The change of the mode of the only hold, and the recomputation (R43, R44). -/
theorem State.entriesLegal_setHoldMode {s : State} (h : s.entriesLegal) {e : EntrySlot} {en : Entry} (hen : s.entry e = some en)
    (r : ReqSlot) (hone : en.holders.length = 1) (m : Mode) : ((s.setEntry e (en.setHoldMode r m)).recompute e).entriesLegal := by
  obtain ⟨hs, hst⟩ := en.legal_iff.mp (h e en hen)
  refine State.LegalOff.recompute (((s.legalOff_empty.mpr h).mono (Set.empty_subset _)).setEntry (hs.setHoldMode hone m)
    hst.drained fun hn => absurd (Set.mem_singleton e) hn)

/-! ### The invariant -/

theorem State.entriesLegal_of_entry {s t : State} (h : s.entriesLegal) (he : ∀ e, t.entry e = s.entry e) : t.entriesLegal :=
  fun e en hen => h e en (by rw [← he]; exact hen)

theorem State.entriesLegal_reset : State.reset.entriesLegal := fun e en he => by simp [State.entry, State.reset] at he

theorem State.entriesLegal_reclaim {s : State} (h : s.entriesLegal) (r : ReqSlot) (stale : Bool) :
    (s.reclaim r stale).entriesLegal :=
  State.entriesLegal_runPasses (State.entriesLegal_stripAll h r stale) _ _

theorem State.entry_lowerAll (s : State) (e : EntrySlot) : s.lowerAll.entry e = (s.entry e).map Entry.tick := by
  simp [State.entry, State.lowerAll]

theorem StoreChange.entriesLegal {s t : State} (hs : s.entriesLegal) (h : StoreChange s t) : t.entriesLegal := by
  induction h with
  | same hst => exact State.entriesLegal_of_entry hs hst.entry
  | trans _ _ ih ih' => exact ih' (ih hs)
  | rewritten _ _ _ => exact State.entriesLegal_of_entry hs fun e => by simp
  | opened _ _ _ => exact State.entriesLegal_of_entry hs fun e => by simp
  | reclaimed s stale _ => exact State.entriesLegal_reclaim hs _ stale
  | @vacated s r q stale _ => exact State.entriesLegal_of_entry (State.entriesLegal_reclaim hs r stale) fun e => by simp
  | noticeDropped s r => exact State.entriesLegal_of_entry hs fun e => by simp
  | defined hf _ _ => exact State.entriesLegal_setEntry hs (Entry.legal_defined hf)
  | retired force he => exact State.entriesLegal_runPasses (State.entriesLegal_retireSteps hs he force) _ _
  | limited hold he hb hl _ => exact State.entriesLegal_setEntry hs (Entry.legal_limited (hs _ _ he) hb hl hold)
  | limitRaised hold he hb hl _ =>
    exact State.entriesLegal_runPasses (State.entriesLegal_setEntry hs (Entry.legal_limited (hs _ _ he) hb hl hold)) _ _
  | noted he hn => exact State.entriesLegal_setEntry hs (Entry.legal_noted (hs _ _ he) hn false)
  | granted he _ ha ho => exact State.entriesLegal_grantNow hs he ha.2.1 ho none
  | @placed s r q e en m limit he _ ha _ _ =>
    have hplace := State.entriesLegal_place hs (c := ⟨r, m, none, false, waitDeadline limit⟩) he ha.2.1 ha.1
    rw [placeSingle_fst]
    split
    · exact State.entriesLegal_runPasses hplace _ _
    · exact hplace
  | setGranted ha ho =>
    refine State.entriesLegal_grantAll (State.entriesLegal_of_entry hs fun e => by simp) _ ha.distinct fun p hp => ?_
    obtain ⟨en, hen, -, hc⟩ := ha.live p hp
    obtain ⟨en', hen', ho'⟩ := State.allAtOnce_iff.mp ho p hp
    obtain rfl : en = en' := Option.some.inj (hen.symm.trans hen')
    exact ⟨en, by simpa using hen, hc, ho'⟩
  | @setPlaced s r q members limit ha _ _ =>
    rw [placeSet_fst]
    refine State.entriesLegal_runPasses (State.entriesLegal_placeAll (r := r) (State.entriesLegal_of_entry hs fun e => by simp)
      (by rw [setRecords_map_fst]; exact ha.distinct) fun p hp => ?_) _ _
    obtain ⟨hmem, hr, -⟩ := mem_setRecords hp
    obtain ⟨en, hen, hret, hc⟩ := ha.live _ hmem
    exact ⟨hr, en, by simpa using hen, hc, hret⟩
  | @holdEnded s r e _ _ stale _ _ hn =>
    have hoff : s.LegalOff {e} := ((State.legalOff_empty _).mpr hs).mono (Set.empty_subset _)
    exact State.entriesLegal_runPasses ((hoff.dropHold (Set.mem_singleton _) stale).notify hn).recompute _ _
  | @waitEnded s r e _ _ _ _ _ _ hn =>
    have hoff : s.LegalOff {e} := ((State.legalOff_empty _).mpr hs).mono (Set.empty_subset _)
    exact State.entriesLegal_runPasses ((hoff.dropWait (Set.mem_singleton _)).notify hn).recompute _ _
  | @setEnded s r e en c id notify _ _ _ hn =>
    have hoff : s.LegalOff {x | x ∈ s.setMembers r id} := (s.legalOff_empty.mpr hs).mono (Set.empty_subset _)
    have hend := ((hoff.dropSet fun x hx => hx).notify hn).recomputeAll (s.setMembers r id)
    rw [Set.sdiff_self, State.legalOff_empty] at hend
    exact State.entriesLegal_runPasses hend _ _
  | upgraded he hh _ hsole =>
    have hsound := ((Entry.legal_iff _).mp (hs _ _ he)).1
    exact State.entriesLegal_setHoldMode hs he _ (hsound.holders_length_of_sole hh hsole) _
  | downgraded he hx =>
    have hsound := ((Entry.legal_iff _).mp (hs _ _ he)).1
    obtain ⟨c, hc, -, hm⟩ := Entry.holdsExclusive_iff.mp hx
    exact State.entriesLegal_runPasses (State.entriesLegal_setHoldMode hs he _ (hsound.exclusive c hc hm) _) _ _
  | ticked s =>
    intro e en' he
    rw [State.entry_lowerAll] at he
    obtain ⟨en, hen, rfl⟩ := Option.map_eq_some_iff.mp he
    exact Entry.legal_tick (hs e en hen)
  | reset hst => exact State.entriesLegal_of_entry State.entriesLegal_reset hst.entry

/-- Settles O53: every change of the store keeps every entry legal, so every step does. -/
theorem entriesKept : Obligations.EntriesKept :=
  fun _ _ hs h => step_keeps_of_storeChange (fun _ _ => StoreChange.entriesLegal) hs h

end Sys2Proof.Machine
end

section
/-! The claim table as a ledger: the records that stand at each slot, their sums over all slots, and when a change keeps the pool, the
counts, the sets and the order of the queues (R22, R23, R25, R31, R50, R99). -/

namespace Sys2Proof.Machine

/-! ### The records of a slot -/

/-- The holders of a slot, none while it is UNUSED. -/
def State.holdersAt (s : State) (e : EntrySlot) : List Claim := (s.entry e).elim [] Entry.holders

/-- The wait queue of a slot, empty while it is UNUSED. -/
def State.queueAt (s : State) (e : EntrySlot) : List Claim := (s.entry e).elim [] Entry.queue

theorem State.holdersAt_of_entry {s : State} {e : EntrySlot} {en : Entry} (h : s.entry e = some en) : s.holdersAt e = en.holders := by
  simp [State.holdersAt, h]

theorem State.queueAt_of_entry {s : State} {e : EntrySlot} {en : Entry} (h : s.entry e = some en) : s.queueAt e = en.queue := by
  simp [State.queueAt, h]

theorem State.mem_holdersAt {s : State} {e : EntrySlot} {c : Claim} :
    c ∈ s.holdersAt e ↔ ∃ en, s.entry e = some en ∧ c ∈ en.holders := by
  unfold State.holdersAt
  cases s.entry e <;> simp

theorem State.mem_queueAt {s : State} {e : EntrySlot} {c : Claim} : c ∈ s.queueAt e ↔ ∃ en, s.entry e = some en ∧ c ∈ en.queue := by
  unfold State.queueAt
  cases s.entry e <;> simp

theorem State.holdersAt_congr {s t : State} {e : EntrySlot} (h : t.entry e = s.entry e) : t.holdersAt e = s.holdersAt e := by
  simp only [State.holdersAt, h]

theorem State.queueAt_congr {s t : State} {e : EntrySlot} (h : t.entry e = s.entry e) : t.queueAt e = s.queueAt e := by
  simp only [State.queueAt, h]

/-! ### Sums over all slots -/

/-- The number of holds of a requester. -/
def State.holdTotal (s : State) (r : ReqSlot) : Nat := ∑ e, (s.holdersAt e).countP fun c => c.requester = r

/-- The number of waits of a requester. -/
def State.waitTotal (s : State) (r : ReqSlot) : Nat := ∑ e, (s.queueAt e).countP fun c => c.requester = r

/-- The number of records in use. -/
def State.inUse (s : State) : Nat := ∑ e, ((s.holdersAt e).length + (s.queueAt e).length)

/-- A sum over the slots, when a list of them gains b and loses a each. -/
theorem sum_shift {f g : EntrySlot → Nat} {l : List EntrySlot} (hl : l.Nodup) {a b : Nat}
    (h : ∀ e, g e + (if e ∈ l then a else 0) = f e + (if e ∈ l then b else 0)) :
    ∑ e, g e + l.length * a = ∑ e, f e + l.length * b := by
  have hsum : ∀ n, (∑ e : EntrySlot, if e ∈ l then n else 0) = l.length * n := fun n => by
    have hmem : ∀ e : EntrySlot, (if e ∈ l then n else 0) = if e ∈ l.toFinset then n else 0 := fun e => by simp
    simp only [hmem, Finset.sum_ite_mem, Finset.univ_inter, Finset.sum_const, List.toFinset_card_of_nodup hl, smul_eq_mul]
  rw [← hsum a, ← hsum b, ← Finset.sum_add_distrib, ← Finset.sum_add_distrib]
  exact Finset.sum_congr rfl fun e _ => h e

/-- The case of one slot. -/
theorem sum_shift_one {f g : EntrySlot → Nat} (e : EntrySlot) {a b : Nat} (he : g e + a = f e + b)
    (h : ∀ e', e' ≠ e → g e' = f e') : ∑ e, g e + a = ∑ e, f e + b := by
  have := sum_shift (List.nodup_singleton e) (f := f) (g := g) (a := a) (b := b) fun e' => by
    by_cases hee : e' = e
    · subst hee; simpa using he
    · simpa [hee] using h e' hee
  simpa using this

theorem State.holdTotal_shift {s t : State} (r : ReqSlot) {l : List EntrySlot} (hl : l.Nodup) {a b : Nat}
    (h : ∀ e, (t.holdersAt e).countP (fun c => c.requester = r) + (if e ∈ l then a else 0) =
      (s.holdersAt e).countP (fun c => c.requester = r) + (if e ∈ l then b else 0)) :
    t.holdTotal r + l.length * a = s.holdTotal r + l.length * b := by
  unfold State.holdTotal
  exact sum_shift hl h

theorem State.waitTotal_shift {s t : State} (r : ReqSlot) {l : List EntrySlot} (hl : l.Nodup) {a b : Nat}
    (h : ∀ e, (t.queueAt e).countP (fun c => c.requester = r) + (if e ∈ l then a else 0) =
      (s.queueAt e).countP (fun c => c.requester = r) + (if e ∈ l then b else 0)) :
    t.waitTotal r + l.length * a = s.waitTotal r + l.length * b := by
  unfold State.waitTotal
  exact sum_shift hl h

theorem State.inUse_shift {s t : State} {l : List EntrySlot} (hl : l.Nodup) {a b : Nat}
    (h : ∀ e, (t.holdersAt e).length + (t.queueAt e).length + (if e ∈ l then a else 0) =
      (s.holdersAt e).length + (s.queueAt e).length + (if e ∈ l then b else 0)) :
    t.inUse + l.length * a = s.inUse + l.length * b := by
  unfold State.inUse
  exact sum_shift hl h

theorem State.holdTotal_shift_one {s t : State} (r : ReqSlot) (e : EntrySlot) {a b : Nat}
    (he : (t.holdersAt e).countP (fun c => c.requester = r) + a = (s.holdersAt e).countP (fun c => c.requester = r) + b)
    (h : ∀ e', e' ≠ e → t.holdersAt e' = s.holdersAt e') : t.holdTotal r + a = s.holdTotal r + b := by
  unfold State.holdTotal
  exact sum_shift_one e he fun e' hne => by rw [h e' hne]

theorem State.waitTotal_shift_one {s t : State} (r : ReqSlot) (e : EntrySlot) {a b : Nat}
    (he : (t.queueAt e).countP (fun c => c.requester = r) + a = (s.queueAt e).countP (fun c => c.requester = r) + b)
    (h : ∀ e', e' ≠ e → t.queueAt e' = s.queueAt e') : t.waitTotal r + a = s.waitTotal r + b := by
  unfold State.waitTotal
  exact sum_shift_one e he fun e' hne => by rw [h e' hne]

theorem State.inUse_shift_one {s t : State} (e : EntrySlot) {a b : Nat}
    (he : (t.holdersAt e).length + (t.queueAt e).length + a = (s.holdersAt e).length + (s.queueAt e).length + b)
    (h : ∀ e', e' ≠ e → t.holdersAt e' = s.holdersAt e') (h' : ∀ e', e' ≠ e → t.queueAt e' = s.queueAt e') :
    t.inUse + a = s.inUse + b := by
  unfold State.inUse
  exact sum_shift_one e he fun e' hne => by rw [h e' hne, h' e' hne]

theorem State.holdTotal_congr {s t : State} (h : ∀ e, t.holdersAt e = s.holdersAt e) (r : ReqSlot) : t.holdTotal r = s.holdTotal r := by
  simp only [State.holdTotal, h]

theorem State.waitTotal_congr {s t : State} (h : ∀ e, t.queueAt e = s.queueAt e) (r : ReqSlot) : t.waitTotal r = s.waitTotal r := by
  simp only [State.waitTotal, h]

/-! ### Coherent sets -/

/-- The claim sets are coherent, slot by slot. -/
structure State.Coherent (s : State) : Prop where
  single : ∀ e c, c ∈ s.queueAt e → c.setId = none → c.firstMember = false
  owner : ∀ e e' c c', c ∈ s.queueAt e → c' ∈ s.queueAt e' → c.setId ≠ none → c'.setId = c.setId → c'.requester = c.requester
  marked : ∀ e c, c ∈ s.queueAt e → c.setId ≠ none → ∃ e', ∃ c' ∈ s.queueAt e', c'.setId = c.setId ∧ c'.firstMember = true
  unique : ∀ e e' c c', c ∈ s.queueAt e → c' ∈ s.queueAt e' → c.setId ≠ none → c'.setId = c.setId →
    c.firstMember = true → c'.firstMember = true → e' = e ∧ c' = c
  countdown : ∀ e c, c ∈ s.queueAt e → c.setId ≠ none → c.firstMember = false → c.deadline = none

theorem State.waitRecords_eq (s : State) : s.waitRecords = (List.finRange 256).flatMap fun e => (s.queueAt e).map fun c => (e, c) := by
  unfold State.waitRecords
  refine List.flatMap_congr fun e _ => ?_
  unfold State.queueAt
  cases s.entry e <;> rfl

theorem State.mem_waitRecords {s : State} {e : EntrySlot} {c : Claim} : (e, c) ∈ s.waitRecords ↔ c ∈ s.queueAt e := by
  simp [s.waitRecords_eq]

/-- Of a list without repetitions exactly one element has a property. -/
theorem length_filter_eq_one {α : Type} {l : List α} (hl : l.Nodup) (p : α → Bool) :
    (l.filter p).length = 1 ↔ ∃ a ∈ l, p a = true ∧ ∀ b ∈ l, p b = true → b = a := by
  rw [List.length_eq_one_iff]
  constructor
  · rintro ⟨a, ha⟩
    have hmem : ∀ b, b ∈ l ∧ p b = true ↔ b = a := fun b => by rw [← List.mem_filter, ha, List.mem_singleton]
    obtain ⟨hal, hpa⟩ := (hmem a).mpr rfl
    exact ⟨a, hal, hpa, fun b hb hpb => (hmem b).mp ⟨hb, hpb⟩⟩
  · rintro ⟨a, hal, hpa, huniq⟩
    refine ⟨a, (List.perm_singleton.mp ?_)⟩
    rw [List.perm_ext_iff_of_nodup (hl.filter p) (List.nodup_singleton a)]
    intro b
    rw [List.mem_filter, List.mem_singleton]
    exact ⟨fun ⟨hb, hpb⟩ => huniq b hb hpb, fun hb => hb ▸ ⟨hal, hpa⟩⟩

/-- Every entry is sound. -/
def State.Sound (s : State) : Prop := ∀ e en, s.entry e = some en → en.Sound

theorem State.sound_of_entriesLegal {s : State} (h : s.entriesLegal) : s.Sound := fun e en he => (en.legal_iff.mp (h e en he)).1

theorem State.LegalOff.sound {s : State} {off : Set EntrySlot} (h : s.LegalOff off) : s.Sound := fun e en he => (h e en he).1

/-- A requester has at most one record on a slot. -/
theorem State.Sound.distinctAt {s : State} (h : s.Sound) (e : EntrySlot) :
    ((s.holdersAt e ++ s.queueAt e).map Claim.requester).Nodup := by
  unfold State.holdersAt State.queueAt
  cases he : s.entry e with
  | none => simp
  | some en => exact (h e en he).distinct

theorem State.Sound.nodup_holders {s : State} (h : s.Sound) (e : EntrySlot) : ((s.holdersAt e).map Claim.requester).Nodup := by
  have := h.distinctAt e
  rw [List.map_append] at this
  exact this.of_append_left

theorem State.Sound.nodup_queue {s : State} (h : s.Sound) (e : EntrySlot) : ((s.queueAt e).map Claim.requester).Nodup := by
  have := h.distinctAt e
  rw [List.map_append] at this
  exact this.of_append_right

/-- The requester tells the waiting records of a slot apart. -/
theorem State.Sound.wait_unique {s : State} (h : s.Sound) {e : EntrySlot} {c d : Claim} (hc : c ∈ s.queueAt e)
    (hd : d ∈ s.queueAt e) (hr : c.requester = d.requester) : c = d :=
  List.inj_on_of_nodup_map (h.nodup_queue e) hc hd hr

theorem State.Sound.nodup_waitRecords {s : State} (h : s.Sound) : s.waitRecords.Nodup := by
  rw [s.waitRecords_eq, List.nodup_flatMap]
  refine ⟨fun e _ => ?_, (List.nodup_finRange 256).imp fun hne x hx hx' => ?_⟩
  · exact ((h.nodup_queue e).of_map _).map fun c d hcd => (Prod.mk.inj hcd).2
  · obtain ⟨c, -, rfl⟩ := List.mem_map.mp hx
    obtain ⟨d, -, hd⟩ := List.mem_map.mp hx'
    exact hne (Prod.mk.inj hd).1.symm

theorem State.Sound.setsLegal_iff {s : State} (h : s.Sound) : s.setsLegal ↔ s.Coherent := by
  have hone := fun id : Option Word16 => length_filter_eq_one h.nodup_waitRecords fun y => decide (y.2.setId = id) && y.2.firstMember
  constructor
  · intro hl
    have hset : ∀ e c, c ∈ s.queueAt e → c.setId ≠ none → _ := fun e c hc hn =>
      (by simpa [hn] using hl (e, c) (State.mem_waitRecords.mpr hc) :
        (∀ e' d, (e', d) ∈ s.waitRecords → d.setId = c.setId → d.requester = c.requester) ∧
        (s.waitRecords.filter fun y => decide (y.2.setId = c.setId) && y.2.firstMember).length = 1 ∧
        (c.firstMember = false → c.deadline = none))
    refine ⟨fun e c hc hn => ?_, fun e e' c c' hc hc' hn hid => ?_, fun e c hc hn => ?_, fun e e' c c' hc hc' hn hid hf hf' => ?_,
      fun e c hc hn hf => (hset e c hc hn).2.2 hf⟩
    · simpa [hn] using hl (e, c) (State.mem_waitRecords.mpr hc)
    · exact (hset e c hc hn).1 e' c' (State.mem_waitRecords.mpr hc') hid
    · obtain ⟨-, hlen, -⟩ := hset e c hc hn
      obtain ⟨⟨e', c'⟩, hm, hp, -⟩ := (hone c.setId).mp hlen
      obtain ⟨hid, hf⟩ := Bool.and_eq_true_iff.mp hp
      exact ⟨e', c', State.mem_waitRecords.mp hm, by simpa using hid, hf⟩
    · obtain ⟨-, hlen, -⟩ := hset e c hc hn
      obtain ⟨a, -, -, huniq⟩ := (hone c.setId).mp hlen
      have h₁ := huniq (e, c) (State.mem_waitRecords.mpr hc) (by simp [hf])
      have h₂ := huniq (e', c') (State.mem_waitRecords.mpr hc') (by simp [hid, hf'])
      exact Prod.mk.inj (h₂.trans h₁.symm)
  · rintro hc ⟨e, c⟩ hm
    have hmem := State.mem_waitRecords.mp hm
    dsimp only
    split
    · next hn => exact hc.single e c hmem hn
    · next hn =>
      refine ⟨fun ⟨e', d⟩ hd hid => hc.owner e e' c d hmem (State.mem_waitRecords.mp hd) hn hid, ?_, hc.countdown e c hmem hn⟩
      obtain ⟨e', c', hc', hid, hf⟩ := hc.marked e c hmem hn
      refine (hone c.setId).mpr ⟨(e', c'), State.mem_waitRecords.mpr hc', by simp [hid, hf], ?_⟩
      rintro ⟨e'', d⟩ hd hp
      obtain ⟨hid', hf'⟩ := Bool.and_eq_true_iff.mp hp
      obtain ⟨he, hd⟩ := hc.unique e' e'' c' d hc' (State.mem_waitRecords.mp hd) (hid ▸ hn)
        ((by simpa using hid' : d.setId = c.setId).trans hid.symm) hf hf'
      rw [he, hd]

/-! ### A legal table -/

/-- The claim table without what makes its entries legal. -/
structure State.TableLegal (s : State) : Prop where
  owned : ∀ e, ∀ c ∈ s.holdersAt e ++ s.queueAt e, (s.req c.requester).isSome
  ordered : ∀ e, (s.queueAt e).Pairwise fun c d => s.priority d.requester ≤ s.priority c.requester
  sets : s.Coherent
  pool : s.freeRecords + s.inUse = Config.poolSize
  counts : ∀ r q, s.req r = some q → q.holdCount = s.holdTotal r ∧ q.waitCount = s.waitTotal r
  budget : ∀ r q, s.req r = some q → q.holdCount + q.waitCount ≤ q.budget

theorem length_filter_eq_sum (p : EntrySlot → Bool) :
    ((List.finRange 256).filter p).length = ∑ e, if p e = true then 1 else 0 := by
  rw [Fin.sum_univ_def, ← List.countP_eq_length_filter]
  induction List.finRange 256 with
  | nil => rfl
  | cons a l ih => rw [List.countP_cons, List.map_cons, List.sum_cons, ih, Nat.add_comm]

theorem countP_requester {l : List Claim} (hl : (l.map Claim.requester).Nodup) (r : ReqSlot) :
    l.countP (fun c => c.requester = r) = if (l.find? fun c => c.requester = r).isSome then 1 else 0 := by
  have hcount : l.countP (fun c => c.requester = r) = (l.map Claim.requester).count r := by
    rw [List.count, List.countP_map]
    exact List.countP_congr fun c _ => by simp
  rw [hcount, hl.count]
  simp [List.find?_isSome]

theorem State.recordsInUse_eq (s : State) : s.recordsInUse = s.inUse := by
  unfold State.recordsInUse State.inUse
  rw [Fin.sum_univ_def]
  congr 1
  refine List.map_congr_left fun e _ => ?_
  unfold State.holdersAt State.queueAt
  cases s.entry e <;> rfl

theorem State.Sound.holdsOf_eq {s : State} (h : s.Sound) (r : ReqSlot) : s.holdsOf r = s.holdTotal r := by
  unfold State.holdsOf State.slotsWhere State.holdTotal
  rw [length_filter_eq_sum]
  refine Finset.sum_congr rfl fun e _ => ?_
  rw [countP_requester (h.nodup_holders e)]
  unfold State.holdersAt
  cases s.entry e <;> rfl

theorem State.Sound.waitsOf_eq {s : State} (h : s.Sound) (r : ReqSlot) : s.waitsOf r = s.waitTotal r := by
  unfold State.waitsOf State.slotsWhere State.waitTotal
  rw [length_filter_eq_sum]
  refine Finset.sum_congr rfl fun e _ => ?_
  rw [countP_requester (h.nodup_queue e)]
  unfold State.queueAt
  cases s.entry e <;> rfl

/-- A consistent claim table is one of legal entries that is a legal table. -/
theorem State.claimsLegal_iff (s : State) : s.claimsLegal ↔ s.entriesLegal ∧ s.TableLegal := by
  constructor
  · rintro ⟨hen, hrec, hsets, hpool, hcounts⟩
    have hsound := State.sound_of_entriesLegal hen
    refine ⟨hen, fun e c hc => ?_, fun e => ?_, hsound.setsLegal_iff.mp hsets, by rw [← s.recordsInUse_eq]; exact hpool,
      fun r q hq => ?_, fun r q hq => (hcounts r q hq).2.2⟩
    · unfold State.holdersAt State.queueAt at hc
      cases he : s.entry e with
      | none => simp [he] at hc
      | some en => exact (hrec e en he).1 c (by simpa [he] using hc)
    · unfold State.queueAt
      cases he : s.entry e with
      | none => exact List.Pairwise.nil
      | some en => exact (hrec e en he).2
    · obtain ⟨hh, hw, -⟩ := hcounts r q hq
      exact ⟨hh.trans (hsound.holdsOf_eq r), hw.trans (hsound.waitsOf_eq r)⟩
  · rintro ⟨hen, ht⟩
    have hsound := State.sound_of_entriesLegal hen
    refine ⟨hen, fun e en he => ⟨fun c hc => ht.owned e c ?_, ?_⟩, hsound.setsLegal_iff.mpr ht.sets,
      by rw [s.recordsInUse_eq]; exact ht.pool, fun r q hq => ?_⟩
    · rwa [State.holdersAt_of_entry he, State.queueAt_of_entry he]
    · have := ht.ordered e
      rwa [State.queueAt_of_entry he] at this
    · obtain ⟨hh, hw⟩ := ht.counts r q hq
      exact ⟨hh.trans (hsound.holdsOf_eq r).symm, hw.trans (hsound.waitsOf_eq r).symm, ht.budget r q hq⟩

/-! ### Changes that keep a legal table -/

theorem State.Coherent.congr {s t : State} (h : s.Coherent) (hq : ∀ e, t.queueAt e = s.queueAt e) : t.Coherent := by
  constructor <;> simp only [hq]
  · exact h.single
  · exact h.owner
  · exact h.marked
  · exact h.unique
  · exact h.countdown

/-- Records leave the queues, of a set all or none. -/
theorem State.Coherent.shrink {s t : State} (h : s.Coherent) (hsub : ∀ e, ∀ c ∈ t.queueAt e, c ∈ s.queueAt e)
    (hwhole : ∀ e e' c c', c ∈ t.queueAt e → c' ∈ s.queueAt e' → c.setId ≠ none → c'.setId = c.setId → c' ∈ t.queueAt e') :
    t.Coherent where
  single e c hc := h.single e c (hsub e c hc)
  owner e e' c c' hc hc' := h.owner e e' c c' (hsub e c hc) (hsub e' c' hc')
  marked e c hc hn := by
    obtain ⟨e', c', hc', hid, hf⟩ := h.marked e c (hsub e c hc) hn
    exact ⟨e', c', hwhole e e' c c' hc hc' hn hid, hid, hf⟩
  unique e e' c c' hc hc' := h.unique e e' c c' (hsub e c hc) (hsub e' c' hc')
  countdown e c hc := h.countdown e c (hsub e c hc)

/-- What a requester record says of its place in the claim table. -/
def Requester.standing (q : Requester) : Nat × Nat := (q.priority, q.budget)

theorem ClaimFrame.standing {s t : State} (h : ClaimFrame s t) (r : ReqSlot) :
    (t.req r).map Requester.standing = (s.req r).map Requester.standing := by
  have hf := congrArg (Option.map fun f : (Origin × Byte × Nat) × Nat × Nat × Option Nat => (f.1.2.2, f.2.1)) (h.requesters r)
  rw [Option.map_map, Option.map_map] at hf
  exact hf

theorem State.priority_of_standing {s t : State} (h : ∀ r, (t.req r).map Requester.standing = (s.req r).map Requester.standing) :
    t.priority = s.priority := by
  funext r
  have hr := h r
  unfold State.priority
  cases hs : s.req r <;> cases ht : t.req r <;> simp_all [Requester.standing]

theorem State.isSome_of_standing {s t : State} (h : ∀ r, (t.req r).map Requester.standing = (s.req r).map Requester.standing)
    (r : ReqSlot) : (t.req r).isSome = (s.req r).isSome := by
  have hr := congrArg Option.isSome (h r)
  simpa using hr

/-- The change of a table in which records leave queues, and enter holder sets for such, keeps it legal when the pool and the counts
follow the records. -/
theorem State.TableLegal.move {s t : State} (h : s.TableLegal)
    (hreq : ∀ r, (t.req r).map Requester.standing = (s.req r).map Requester.standing)
    (hqueue : ∀ e, (t.queueAt e).Sublist (s.queueAt e))
    (hholders : ∀ e, ∀ c ∈ t.holdersAt e, ∃ d ∈ s.holdersAt e ++ s.queueAt e, d.requester = c.requester)
    (hwhole : ∀ e e' c c', c ∈ t.queueAt e → c' ∈ s.queueAt e' → c.setId ≠ none → c'.setId = c.setId → c' ∈ t.queueAt e')
    (hpool : t.freeRecords + t.inUse = s.freeRecords + s.inUse)
    (hcounts : ∀ r q q', s.req r = some q → t.req r = some q' → q'.holdCount = t.holdTotal r ∧ q'.waitCount = t.waitTotal r ∧
      q'.holdCount + q'.waitCount ≤ q.holdCount + q.waitCount) : t.TableLegal := by
  have hfrom : ∀ r q', t.req r = some q' → ∃ q, s.req r = some q ∧ q'.budget = q.budget := fun r q' hq' => by
    have hr := hreq r
    rw [hq', Option.map_some] at hr
    obtain ⟨q, hq, hst⟩ := Option.map_eq_some_iff.mp hr.symm
    exact ⟨q, hq, (Prod.mk.inj hst).2.symm⟩
  refine ⟨fun e c hc => ?_, fun e => ?_, h.sets.shrink (fun e c hc => (hqueue e).subset hc) hwhole, hpool.trans h.pool,
    fun r q' hq' => ?_, fun r q' hq' => ?_⟩
  · rw [State.isSome_of_standing hreq]
    obtain hc | hc := List.mem_append.mp hc
    · obtain ⟨d, hd, hdr⟩ := hholders e c hc
      exact hdr ▸ h.owned e d hd
    · exact h.owned e c (List.mem_append_right _ ((hqueue e).subset hc))
  · rw [State.priority_of_standing hreq]
    exact (h.ordered e).sublist (hqueue e)
  · obtain ⟨q, hq, -⟩ := hfrom r q' hq'
    obtain ⟨hh, hw, -⟩ := hcounts r q q' hq hq'
    exact ⟨hh, hw⟩
  · obtain ⟨q, hq, hb⟩ := hfrom r q' hq'
    obtain ⟨-, -, hle⟩ := hcounts r q q' hq hq'
    rw [hb]
    exact hle.trans (h.budget r q hq)

/-- What the claim table reads of a requester record. -/
def Requester.ledger (q : Requester) : Nat × Nat × Nat × Nat := (q.priority, q.budget, q.holdCount, q.waitCount)

theorem Requester.ledger_eq_iff {q q' : Requester} : q'.ledger = q.ledger ↔
    q'.priority = q.priority ∧ q'.budget = q.budget ∧ q'.holdCount = q.holdCount ∧ q'.waitCount = q.waitCount := by
  simp [Requester.ledger]

/-- The table reads the records of the slots, the pool, and of a requester its ledger. -/
theorem State.TableLegal.congr {s t : State} (h : s.TableLegal) (hh : ∀ e, t.holdersAt e = s.holdersAt e)
    (hq : ∀ e, t.queueAt e = s.queueAt e) (hf : t.freeRecords = s.freeRecords)
    (hr : ∀ r, (t.req r).map Requester.ledger = (s.req r).map Requester.ledger) : t.TableLegal := by
  have hstanding : ∀ r, (t.req r).map Requester.standing = (s.req r).map Requester.standing := fun r => by
    have := congrArg (Option.map fun x : Nat × Nat × Nat × Nat => (x.1, x.2.1)) (hr r)
    rwa [Option.map_map, Option.map_map] at this
  refine h.move hstanding (fun e => by rw [hq]) (fun e c hc => ⟨c, List.mem_append_left _ (hh e ▸ hc), rfl⟩)
    (fun e e' c c' _ hc' _ _ => by rwa [hq]) (by simp only [State.inUse, hh, hq, hf]) fun r q q' hs ht => ?_
  have hr' := hr r
  rw [hs, ht, Option.map_some, Option.map_some, Option.some.injEq, Requester.ledger_eq_iff] at hr'
  obtain ⟨-, -, hhold, hwait⟩ := hr'
  obtain ⟨hc, hw⟩ := h.counts r q hs
  rw [State.holdTotal_congr hh, State.waitTotal_congr hq]
  omega

end Sys2Proof.Machine
end

section
/-! The reasoning rules of the ledger: what each operation on claim records makes of the holders, the queue, the pool and the counts,
and that it keeps the table legal. -/

namespace Sys2Proof.Machine

/-! ### The recomputation leaves the table as it is -/

@[simp] theorem State.req_recompute (s : State) (e : EntrySlot) (r : ReqSlot) : (s.recompute e).req r = s.req r := by
  unfold State.recompute
  split
  · rfl
  · split
    · split <;> simp
    · simp

@[simp] theorem State.freeRecords_recompute (s : State) (e : EntrySlot) : (s.recompute e).freeRecords = s.freeRecords := by
  unfold State.recompute
  split
  · rfl
  · split
    · split <;> simp
    · simp

@[simp] theorem State.req_recomputeAll (s : State) (es : List EntrySlot) (r : ReqSlot) : (s.recomputeAll es).req r = s.req r := by
  unfold State.recomputeAll
  induction es generalizing s with
  | nil => rfl
  | cons e es ih => rw [List.foldl_cons, ih, State.req_recompute]

@[simp] theorem State.freeRecords_recomputeAll (s : State) (es : List EntrySlot) :
    (s.recomputeAll es).freeRecords = s.freeRecords := by
  unfold State.recomputeAll
  induction es generalizing s with
  | nil => rfl
  | cons e es ih => rw [List.foldl_cons, ih, State.freeRecords_recompute]

theorem Entry.holders_recomputed (en : Entry) : en.recomputed.elim [] Entry.holders = en.holders := by
  unfold Entry.recomputed
  split
  · split
    · next h => exact (List.isEmpty_iff.mp h).symm
    · rfl
  · rfl

theorem Entry.Drained.queue_recomputed {en : Entry} (h : en.Drained) : en.recomputed.elim [] Entry.queue = en.queue := by
  unfold Entry.recomputed
  split
  · next hr => split <;> simp [h hr]
  · rfl

/-- Every entry is drained. -/
def State.Drained (s : State) : Prop := ∀ e en, s.entry e = some en → en.Drained

theorem State.LegalOff.allDrained {s : State} {off : Set EntrySlot} (h : s.LegalOff off) : s.Drained := fun e en he => (h e en he).2.1

theorem State.holdersAt_recomputeAll (s : State) (es : List EntrySlot) (e : EntrySlot) :
    (s.recomputeAll es).holdersAt e = s.holdersAt e := by
  unfold State.holdersAt
  rw [State.entry_recomputeAll]
  split
  · cases s.entry e with
    | none => rfl
    | some en => exact en.holders_recomputed
  · rfl

theorem State.Drained.queueAt_recomputeAll {s : State} (h : s.Drained) (es : List EntrySlot) (e : EntrySlot) :
    (s.recomputeAll es).queueAt e = s.queueAt e := by
  unfold State.queueAt
  rw [State.entry_recomputeAll]
  split
  · cases he : s.entry e with
    | none => rfl
    | some en => exact (h e en he).queue_recomputed
  · rfl

theorem State.TableLegal.recomputeAll {s : State} (h : s.TableLegal) (hd : s.Drained) (es : List EntrySlot) :
    (s.recomputeAll es).TableLegal :=
  h.congr (s.holdersAt_recomputeAll es) (hd.queueAt_recomputeAll es) (by simp) fun r => by simp

theorem State.TableLegal.recompute {s : State} (h : s.TableLegal) (hd : s.Drained) (e : EntrySlot) : (s.recompute e).TableLegal :=
  h.recomputeAll hd [e]

/-! ### Notices leave the table as it is -/

/-- A notice changes of a requester record the overrun flag alone. -/
theorem State.req_queueNotice (s : State) (r : ReqSlot) (e : EntrySlot) (body : NoticeBody) (r' : ReqSlot) :
    (s.queueNotice r e body).req r' = (s.req r').map fun q =>
      { q with overrun := q.overrun || decide (r = r' ∧ Config.noticeCapacity ≤ (s.noticeQueue r).length) } := by
  unfold State.queueNotice
  split
  · next h =>
    cases hr' : s.req r' with
    | none => rfl
    | some q =>
      have hne : r ≠ r' := fun hr => by simp [← hr, h] at hr'
      simp [hne]
  · next q h =>
    split
    · next hlt =>
      show s.req r' = _
      have : ¬ Config.noticeCapacity ≤ (s.noticeQueue r).length := by omega
      cases s.req r' <;> simp [this]
    · next hge =>
      rw [State.req_setReq]
      have hfull : Config.noticeCapacity ≤ (s.noticeQueue r).length := by omega
      split
      · next hr => subst hr; simp [h, hfull]
      · next hr => cases s.req r' <;> simp [hr]

@[simp] theorem State.freeRecords_queueNotice (s : State) (r : ReqSlot) (e : EntrySlot) (body : NoticeBody) :
    (s.queueNotice r e body).freeRecords = s.freeRecords := by
  unfold State.queueNotice
  split
  · rfl
  · split <;> rfl

theorem State.TableLegal.queueNotice {s : State} (h : s.TableLegal) (r : ReqSlot) (e : EntrySlot) (body : NoticeBody) :
    (s.queueNotice r e body).TableLegal :=
  h.congr (fun e' => State.holdersAt_congr (by simp)) (fun e' => State.queueAt_congr (by simp)) (by simp) fun r' => by
    rw [State.req_queueNotice, Option.map_map]; rfl

theorem State.TableLegal.noticeUnless {s : State} (h : s.TableLegal) (quiet : Bool) (r : ReqSlot) (e : EntrySlot)
    (body : NoticeBody) : (s.noticeUnless quiet r e body).TableLegal := by
  unfold State.noticeUnless
  split
  · exact h
  · exact h.queueNotice r e body

theorem State.TableLegal.notify {s : State} (h : s.TableLegal) {notify : State → State} (hn : Notifying notify) :
    (notify s).TableLegal := by
  cases hn with
  | nothing => exact h
  | notice r e body => exact h.queueNotice r e body

/-! ### Counting records that leave a list -/

theorem countP_filter_ne (l : List Claim) (r r' : ReqSlot) :
    (l.filter fun c => c.requester ≠ r).countP (fun c => c.requester = r') +
      (if r = r' then l.countP fun c => c.requester = r else 0) = l.countP fun c => c.requester = r' := by
  induction l with
  | nil => simp
  | cons c l ih =>
    by_cases hr : r = r'
    · subst hr
      by_cases hc : c.requester = r <;> simp_all
    · by_cases hc : c.requester = r
      · simp_all
      · simp_all [List.countP_cons]

theorem length_filter_ne (l : List Claim) (r : ReqSlot) :
    (l.filter fun c => c.requester ≠ r).length + l.countP (fun c => c.requester = r) = l.length := by
  have := List.length_eq_countP_add_countP (fun c : Claim => decide (c.requester ≠ r)) (l := l)
  rw [← List.countP_eq_length_filter, this]
  congr 1
  exact List.countP_congr fun c _ => by simp

theorem countP_filter_inSet (l : List Claim) (r : ReqSlot) (id : Word16) (r' : ReqSlot) :
    (l.filter fun c => !c.inSet r id).countP (fun c => c.requester = r') +
      (if r = r' then l.countP fun c => c.inSet r id else 0) = l.countP fun c => c.requester = r' := by
  have hin : ∀ c : Claim, c.inSet r id = true → c.requester = r := fun c hc => by simp [Claim.inSet] at hc; exact hc.1
  rw [List.countP_filter]
  by_cases hr : r = r'
  · subst hr
    have hsplit := List.countP_eq_countP_filter_add l (fun c => decide (c.requester = r)) fun c => !c.inSet r id
    rw [if_pos rfl, hsplit, List.countP_filter, List.countP_filter]
    congr 1
    refine List.countP_congr fun c _ => ?_
    by_cases hc : c.inSet r id = true
    · simp [hc, hin c hc]
    · simp [hc]
  · rw [if_neg hr, Nat.add_zero]
    refine List.countP_congr fun c _ => ?_
    by_cases hc : c.inSet r id = true
    · simp [hc, hin c hc, hr]
    · simp [hc]

theorem length_filter_inSet (l : List Claim) (r : ReqSlot) (id : Word16) :
    (l.filter fun c => !c.inSet r id).length + l.countP (fun c => c.inSet r id) = l.length := by
  have := List.length_eq_countP_add_countP (fun c : Claim => !c.inSet r id) (l := l)
  rw [← List.countP_eq_length_filter, this]
  congr 1
  exact List.countP_congr fun c _ => by simp

theorem countP_requester_of_mem {l : List Claim} (hl : (l.map Claim.requester).Nodup) {c : Claim} (hc : c ∈ l) :
    l.countP (fun d => d.requester = c.requester) = 1 := by
  rw [countP_requester hl, if_pos]
  rw [List.find?_isSome]
  exact ⟨c, hc, by simp⟩

theorem countP_inSet_of_mem {l : List Claim} (hl : (l.map Claim.requester).Nodup) {c : Claim} (hc : c ∈ l) {r : ReqSlot} {id : Word16}
    (hin : c.inSet r id = true) : l.countP (fun d => d.inSet r id) = 1 := by
  have hcr : c.requester = r := by simp [Claim.inSet] at hin; exact hin.1
  subst hcr
  refine Nat.le_antisymm ?_ (List.countP_pos_iff.mpr ⟨c, hc, hin⟩)
  rw [← countP_requester_of_mem hl hc]
  refine List.countP_mono_left fun d _ hd => ?_
  simp [Claim.inSet] at hd
  simpa using hd.1

/-! ### The removal of a hold and of a wait -/

theorem State.req_dropHold (s : State) (r : ReqSlot) (e : EntrySlot) (stale : Bool) (r' : ReqSlot) :
    (s.dropHold r e stale).req r' =
      if r = r' then (s.req r).map fun q => { q with holdCount := q.holdCount - 1, waitCount := q.waitCount - 0 } else s.req r' := by
  unfold State.dropHold State.subCounts
  rw [State.req_modifyReq]
  have hreq : ∀ x, ({ s.modifyEntry e (·.withoutHold r stale) with
      freeRecords := (s.modifyEntry e (·.withoutHold r stale)).freeRecords + 1 } : State).req x = s.req x :=
    fun x => State.req_modifyEntry s e _ x
  exact congrArg₂ (fun a b => if r = r' then Option.map _ a else b) (hreq r) (hreq r')

@[simp] theorem State.freeRecords_dropHold (s : State) (r : ReqSlot) (e : EntrySlot) (stale : Bool) :
    (s.dropHold r e stale).freeRecords = s.freeRecords + 1 := by
  simp [State.dropHold, State.subCounts]

theorem State.req_dropWait (s : State) (r : ReqSlot) (e : EntrySlot) (r' : ReqSlot) :
    (s.dropWait r e).req r' =
      if r = r' then (s.req r).map fun q => { q with holdCount := q.holdCount - 0, waitCount := q.waitCount - 1 } else s.req r' := by
  unfold State.dropWait State.subCounts
  rw [State.req_modifyReq]
  have hreq : ∀ x, ({ s.modifyEntry e (·.withoutWait r) with
      freeRecords := (s.modifyEntry e (·.withoutWait r)).freeRecords + 1 } : State).req x = s.req x :=
    fun x => State.req_modifyEntry s e _ x
  exact congrArg₂ (fun a b => if r = r' then Option.map _ a else b) (hreq r) (hreq r')

@[simp] theorem State.freeRecords_dropWait (s : State) (r : ReqSlot) (e : EntrySlot) :
    (s.dropWait r e).freeRecords = s.freeRecords + 1 := by
  simp [State.dropWait, State.subCounts]

theorem State.holdersAt_dropHold (s : State) (r : ReqSlot) (e : EntrySlot) (stale : Bool) (e' : EntrySlot) :
    (s.dropHold r e stale).holdersAt e' =
      if e = e' then (s.holdersAt e).filter fun c => c.requester ≠ r else s.holdersAt e' := by
  unfold State.holdersAt
  rw [State.entry_dropHold]
  split
  · cases s.entry e <;> rfl
  · rfl

theorem State.queueAt_dropHold (s : State) (r : ReqSlot) (e : EntrySlot) (stale : Bool) (e' : EntrySlot) :
    (s.dropHold r e stale).queueAt e' = s.queueAt e' := by
  unfold State.queueAt
  rw [State.entry_dropHold]
  split
  · next h => subst h; cases s.entry e <;> rfl
  · rfl

theorem State.holdersAt_dropWait (s : State) (r : ReqSlot) (e e' : EntrySlot) : (s.dropWait r e).holdersAt e' = s.holdersAt e' := by
  unfold State.holdersAt
  rw [State.entry_dropWait]
  split
  · next h => subst h; cases s.entry e <;> rfl
  · rfl

theorem State.queueAt_dropWait (s : State) (r : ReqSlot) (e e' : EntrySlot) :
    (s.dropWait r e).queueAt e' = if e = e' then (s.queueAt e).filter fun c => c.requester ≠ r else s.queueAt e' := by
  unfold State.queueAt
  rw [State.entry_dropWait]
  split
  · cases s.entry e <;> rfl
  · rfl

theorem State.TableLegal.dropHold {s : State} (h : s.TableLegal) (hs : s.Sound) {r : ReqSlot} {e : EntrySlot} {c : Claim}
    (hc : c ∈ s.holdersAt e) (hr : c.requester = r) (stale : Bool) : (s.dropHold r e stale).TableLegal := by
  subst hr
  have hcount := countP_requester_of_mem (hs.nodup_holders e) hc
  have hhold : ∀ r', (s.dropHold c.requester e stale).holdTotal r' + (if c.requester = r' then 1 else 0) = s.holdTotal r' :=
    fun r' => by
      rw [← Nat.add_zero (s.holdTotal r')]
      refine State.holdTotal_shift_one r' e (b := 0) ?_ fun e' he' => ?_
      · rw [State.holdersAt_dropHold, if_pos rfl]
        have := countP_filter_ne (s.holdersAt e) c.requester r'
        rw [hcount] at this
        exact this
      · rw [State.holdersAt_dropHold, if_neg (Ne.symm he')]
  have huse : (s.dropHold c.requester e stale).inUse + 1 = s.inUse := by
    rw [← Nat.add_zero s.inUse]
    refine State.inUse_shift_one e (b := 0) ?_ (fun e' he' => ?_) fun e' _ => s.queueAt_dropHold _ e stale e'
    · rw [State.holdersAt_dropHold, if_pos rfl, State.queueAt_dropHold]
      have := length_filter_ne (s.holdersAt e) c.requester
      omega
    · rw [State.holdersAt_dropHold, if_neg (Ne.symm he')]
  refine h.move (ClaimFrame.dropHold s _ e stale).standing (fun e' => by rw [State.queueAt_dropHold]) (fun e' d hd => ?_)
    (fun _ e' _ c' _ hc' _ _ => by rwa [State.queueAt_dropHold]) (by simp only [State.freeRecords_dropHold]; omega)
    fun r' q q' hq hq' => ?_
  · rw [State.holdersAt_dropHold] at hd
    split at hd
    · next he => subst he; exact ⟨d, List.mem_append_left _ (List.mem_of_mem_filter hd), rfl⟩
    · exact ⟨d, List.mem_append_left _ hd, rfl⟩
  · rw [State.req_dropHold] at hq'
    obtain ⟨hh, hw⟩ := h.counts r' q hq
    have htotal := hhold r'
    have hwait := State.waitTotal_congr (s.queueAt_dropHold c.requester e stale) r'
    split at hq'
    · next hr =>
      subst hr
      rw [hq, Option.map_some, Option.some.injEq] at hq'
      subst hq'
      rw [if_pos rfl] at htotal
      dsimp only
      omega
    · next hr =>
      obtain rfl : q = q' := Option.some.inj (hq.symm.trans hq')
      rw [if_neg hr] at htotal
      omega

theorem State.TableLegal.dropWait {s : State} (h : s.TableLegal) (hs : s.Sound) {r : ReqSlot} {e : EntrySlot} {c : Claim}
    (hc : c ∈ s.queueAt e) (hr : c.requester = r) (hid : c.setId = none) : (s.dropWait r e).TableLegal := by
  subst hr
  have hcount := countP_requester_of_mem (hs.nodup_queue e) hc
  have hwait : ∀ r', (s.dropWait c.requester e).waitTotal r' + (if c.requester = r' then 1 else 0) = s.waitTotal r' :=
    fun r' => by
      rw [← Nat.add_zero (s.waitTotal r')]
      refine State.waitTotal_shift_one r' e (b := 0) ?_ fun e' he' => ?_
      · rw [State.queueAt_dropWait, if_pos rfl]
        have := countP_filter_ne (s.queueAt e) c.requester r'
        rw [hcount] at this
        exact this
      · rw [State.queueAt_dropWait, if_neg (Ne.symm he')]
  have huse : (s.dropWait c.requester e).inUse + 1 = s.inUse := by
    rw [← Nat.add_zero s.inUse]
    refine State.inUse_shift_one e (b := 0) ?_ (fun e' _ => s.holdersAt_dropWait _ e e') fun e' he' => ?_
    · rw [State.queueAt_dropWait, if_pos rfl, State.holdersAt_dropWait]
      have := length_filter_ne (s.queueAt e) c.requester
      omega
    · rw [State.queueAt_dropWait, if_neg (Ne.symm he')]
  refine h.move (ClaimFrame.dropWait s _ e).standing (fun e' => ?_)
    (fun e' d hd => ⟨d, List.mem_append_left _ (by rwa [State.holdersAt_dropWait] at hd), rfl⟩)
    (fun e₁ e' c₁ c' hc₁ hc' hn hid' => ?_) (by simp only [State.freeRecords_dropWait]; omega) fun r' q q' hq hq' => ?_
  · rw [State.queueAt_dropWait]
    split
    · next he => subst he; exact List.filter_sublist
    · exact List.Sublist.refl _
  · rw [State.queueAt_dropWait]
    split
    · next he =>
      subst he
      refine List.mem_filter.mpr ⟨hc', decide_eq_true fun hr => ?_⟩
      obtain rfl := hs.wait_unique hc' hc hr
      exact hn (hid'.symm.trans hid)
    · exact hc'
  · rw [State.req_dropWait] at hq'
    obtain ⟨hh, hw⟩ := h.counts r' q hq
    have htotal := hwait r'
    have hhold := State.holdTotal_congr (s.holdersAt_dropWait c.requester e) r'
    split at hq'
    · next hr =>
      subst hr
      rw [hq, Option.map_some, Option.some.injEq] at hq'
      subst hq'
      rw [if_pos rfl] at htotal
      dsimp only
      omega
    · next hr =>
      obtain rfl : q = q' := Option.some.inj (hq.symm.trans hq')
      rw [if_neg hr] at htotal
      omega

/-! ### The removal of a set -/

@[simp] theorem State.req_foldl_modifyEntry (s : State) (l : List EntrySlot) (f : Entry → Entry) (r : ReqSlot) :
    (l.foldl (fun s e => s.modifyEntry e f) s).req r = s.req r := by
  induction l generalizing s with
  | nil => rfl
  | cons e l ih => rw [List.foldl_cons, ih, State.req_modifyEntry]

@[simp] theorem State.freeRecords_foldl_modifyEntry (s : State) (l : List EntrySlot) (f : Entry → Entry) :
    (l.foldl (fun s e => s.modifyEntry e f) s).freeRecords = s.freeRecords := by
  induction l generalizing s with
  | nil => rfl
  | cons e l ih => rw [List.foldl_cons, ih, State.modifyEntry_freeRecords]

theorem State.req_dropSet (s : State) (r : ReqSlot) (id : Word16) (r' : ReqSlot) :
    (s.dropSet r id).req r' =
      if r = r' then (s.req r).map fun q =>
        { q with holdCount := q.holdCount - 0, waitCount := q.waitCount - (s.setMembers r id).length }
      else s.req r' := by
  unfold State.dropSet State.subCounts
  rw [State.req_modifyReq]
  exact congrArg₂ (fun a b => if r = r' then Option.map _ a else b) (s.req_foldl_modifyEntry _ _ r) (s.req_foldl_modifyEntry _ _ r')

@[simp] theorem State.freeRecords_dropSet (s : State) (r : ReqSlot) (id : Word16) :
    (s.dropSet r id).freeRecords = s.freeRecords + (s.setMembers r id).length := by
  unfold State.dropSet State.subCounts
  rw [State.modifyReq_freeRecords]
  exact congrArg (· + _) (s.freeRecords_foldl_modifyEntry _ _)

theorem State.holdersAt_dropSet (s : State) (r : ReqSlot) (id : Word16) (e : EntrySlot) :
    (s.dropSet r id).holdersAt e = s.holdersAt e := by
  unfold State.holdersAt
  rw [State.entry_dropSet]
  cases s.entry e <;> rfl

theorem State.queueAt_dropSet (s : State) (r : ReqSlot) (id : Word16) (e : EntrySlot) :
    (s.dropSet r id).queueAt e = (s.queueAt e).filter fun c => !c.inSet r id := by
  unfold State.queueAt
  rw [State.entry_dropSet]
  cases s.entry e <;> rfl

theorem State.mem_setMembers_iff {s : State} {r : ReqSlot} {id : Word16} {e : EntrySlot} :
    e ∈ s.setMembers r id ↔ ∃ c ∈ s.queueAt e, c.inSet r id = true := by
  rw [State.mem_setMembers]
  unfold State.queueAt
  cases s.entry e <;> simp

theorem State.Sound.countP_inSet {s : State} (h : s.Sound) (r : ReqSlot) (id : Word16) (e : EntrySlot) :
    (s.queueAt e).countP (fun c => c.inSet r id) = if e ∈ s.setMembers r id then 1 else 0 := by
  split
  · next hm =>
    obtain ⟨c, hc, hin⟩ := State.mem_setMembers_iff.mp hm
    exact countP_inSet_of_mem (h.nodup_queue e) hc hin
  · next hm =>
    rw [List.countP_eq_zero]
    exact fun c hc hin => hm (State.mem_setMembers_iff.mpr ⟨c, hc, hin⟩)

/-- Records with one set id stand in the set of the requester of one of them. -/
theorem State.Coherent.inSet {s : State} (h : s.Coherent) {e e' : EntrySlot} {c c' : Claim} {r : ReqSlot} {id : Word16}
    (hc : c ∈ s.queueAt e) (hc' : c' ∈ s.queueAt e') (hin : c.inSet r id = true) (hid : c'.setId = c.setId) :
    c'.inSet r id = true := by
  simp only [Claim.inSet, Bool.and_eq_true, decide_eq_true_eq] at hin ⊢
  obtain ⟨hr, hset⟩ := hin
  exact ⟨(h.owner e e' c c' hc hc' (by simp [hset]) hid).trans hr, hid.trans hset⟩

theorem State.TableLegal.dropSet {s : State} (h : s.TableLegal) (hs : s.Sound) (r : ReqSlot) (id : Word16) :
    (s.dropSet r id).TableLegal := by
  have hcount := hs.countP_inSet r id
  have hwait : ∀ r', (s.dropSet r id).waitTotal r' + (if r = r' then (s.setMembers r id).length else 0) = s.waitTotal r' :=
    fun r' => by
      have hshift := State.waitTotal_shift (s := s) (t := s.dropSet r id) r' (s.nodup_setMembers r id)
        (a := if r = r' then 1 else 0) (b := 0) fun e => by
          rw [State.queueAt_dropSet, ← countP_filter_inSet (s.queueAt e) r id r', hcount e]
          split <;> split <;> rfl
      have hmul : (s.setMembers r id).length * (if r = r' then 1 else 0) = if r = r' then (s.setMembers r id).length else 0 := by
        split <;> simp
      rw [hmul, Nat.mul_zero, Nat.add_zero] at hshift
      exact hshift
  have huse : (s.dropSet r id).inUse + (s.setMembers r id).length = s.inUse := by
    have hshift := State.inUse_shift (s := s) (t := s.dropSet r id) (s.nodup_setMembers r id) (a := 1) (b := 0) fun e => by
      rw [State.queueAt_dropSet, State.holdersAt_dropSet]
      have hlen := length_filter_inSet (s.queueAt e) r id
      have hone := hcount e
      split
      · simp_all
        omega
      · simp_all
    simpa using hshift
  refine h.move (ClaimFrame.dropSet s r id).standing (fun e => by rw [State.queueAt_dropSet]; exact List.filter_sublist)
    (fun e d hd => ⟨d, List.mem_append_left _ (by rwa [State.holdersAt_dropSet] at hd), rfl⟩)
    (fun e e' c c' hc hc' hn hid => ?_) (by rw [State.freeRecords_dropSet]; omega) fun r' q q' hq hq' => ?_
  · rw [State.queueAt_dropSet] at hc ⊢
    obtain ⟨hc, hout⟩ := List.mem_filter.mp hc
    refine List.mem_filter.mpr ⟨hc', ?_⟩
    by_contra hin
    have := h.sets.inSet hc' hc (by simpa using hin) hid.symm
    simp [this] at hout
  · rw [State.req_dropSet] at hq'
    obtain ⟨hh, hw⟩ := h.counts r' q hq
    have htotal := hwait r'
    have hhold := State.holdTotal_congr (s.holdersAt_dropSet r id) r'
    split at hq'
    · next hr =>
      subst hr
      rw [hq, Option.map_some, Option.some.injEq] at hq'
      subst hq'
      rw [if_pos rfl] at htotal
      dsimp only
      omega
    · next hr =>
      obtain rfl : q = q' := Option.some.inj (hq.symm.trans hq')
      rw [if_neg hr] at htotal
      omega

end Sys2Proof.Machine
end

section
/-! The reasoning rules of the ledger, continued: grants from a queue, the removal of all records of a requester, grants at once and
placements, and the freshness of a new set id. -/

namespace Sys2Proof.Machine

/-! ### Grants from a queue -/

/-- The grant of a head before its notice (R36). -/
def State.headMoved (s : State) (e : EntrySlot) (c : Claim) : State :=
  ((s.modifyEntry e fun en => en.headGranted c).subCounts c.requester 0 1).addCounts c.requester 1 0

theorem State.grantHead_eq (s : State) (q : Quiet) (e : EntrySlot) (c : Claim) :
    s.grantHead q e c =
      (s.headMoved e c).noticeUnless (decide (q = .single c.requester e)) c.requester e (.granted c.mode none) := rfl

/-- The grant of a set before its notice (R60). -/
def State.setMoved (s : State) (r : ReqSlot) (id : Word16) : State :=
  ((((s.setMembers r id).foldl (fun s e => s.grantMember r id e) s).subCounts r 0 (s.setMembers r id).length).addCounts r
    (s.setMembers r id).length 0).recomputeAll (s.setMembers r id)

theorem State.grantSet_eq (s : State) (q : Quiet) (r : ReqSlot) (id : Word16) {e : EntrySlot} {m : Mode}
    (h : s.firstMember r id = some (e, m)) :
    s.grantSet q r id = (s.setMoved r id).noticeUnless (decide (q = .set r id)) r e (.granted m (some id)) := by
  unfold State.grantSet
  rw [h]
  rfl

theorem State.grantSet_of_none (s : State) (q : Quiet) (r : ReqSlot) (id : Word16) (h : s.firstMember r id = none) :
    s.grantSet q r id = s.setMoved r id := by
  unfold State.grantSet
  rw [h]
  rfl

theorem State.entry_headMoved (s : State) (e : EntrySlot) (c : Claim) (e' : EntrySlot) :
    (s.headMoved e c).entry e' = if e = e' then (s.entry e).map (·.headGranted c) else s.entry e' := by
  unfold State.headMoved State.addCounts State.subCounts
  rw [State.entry_modifyReq, State.entry_modifyReq]
  exact State.entry_modifyEntry s e _ e'

theorem State.entry_setMoved (s : State) (r : ReqSlot) (id : Word16) (e : EntrySlot) :
    (s.setMoved r id).entry e =
      if e ∈ s.setMembers r id then (s.entry e).bind fun en => (en.memberGranted r id).recomputed else s.entry e := by
  rw [← State.entry_grantSet s .loud r id e]
  cases h : s.firstMember r id with
  | none => rw [State.grantSet_of_none s .loud r id h]
  | some p => rw [State.grantSet_eq s .loud r id h, State.entry_noticeUnless]

theorem State.req_addCounts (s : State) (r : ReqSlot) (holds waits : Nat) (r' : ReqSlot) :
    (s.addCounts r holds waits).req r' =
      if r = r' then (s.req r).map fun q => { q with holdCount := q.holdCount + holds, waitCount := q.waitCount + waits }
      else s.req r' :=
  State.req_modifyReq s r _ r'

theorem State.req_subCounts (s : State) (r : ReqSlot) (holds waits : Nat) (r' : ReqSlot) :
    (s.subCounts r holds waits).req r' =
      if r = r' then (s.req r).map fun q => { q with holdCount := q.holdCount - holds, waitCount := q.waitCount - waits }
      else s.req r' :=
  State.req_modifyReq s r _ r'

/-- A grant moves n records of a requester from its waits to its holds. -/
def Requester.moved (n : Nat) (q : Requester) : Requester := { q with holdCount := q.holdCount + n, waitCount := q.waitCount - n }

theorem State.req_headMoved (s : State) (e : EntrySlot) (c : Claim) (r : ReqSlot) :
    (s.headMoved e c).req r = if c.requester = r then (s.req c.requester).map (Requester.moved 1) else s.req r := by
  unfold State.headMoved
  rw [State.req_addCounts, State.req_subCounts, State.req_subCounts, State.req_modifyEntry, State.req_modifyEntry]
  split
  · rw [if_pos rfl, Option.map_map]
    cases s.req c.requester <;> simp [Requester.moved]
  · rfl

theorem State.req_setMoved (s : State) (r : ReqSlot) (id : Word16) (r' : ReqSlot) :
    (s.setMoved r id).req r' = if r = r' then (s.req r).map (Requester.moved (s.setMembers r id).length) else s.req r' := by
  have hfold : ∀ x, ((s.setMembers r id).foldl (fun s e => s.grantMember r id e) s).req x = s.req x :=
    s.req_foldl_modifyEntry _ _
  unfold State.setMoved
  rw [State.req_recomputeAll, State.req_addCounts, State.req_subCounts, State.req_subCounts, hfold, hfold]
  split
  · rw [if_pos rfl, Option.map_map]
    cases s.req r <;> simp [Requester.moved]
  · rfl

@[simp] theorem State.freeRecords_headMoved (s : State) (e : EntrySlot) (c : Claim) :
    (s.headMoved e c).freeRecords = s.freeRecords := by
  simp [State.headMoved, State.addCounts, State.subCounts]

@[simp] theorem State.freeRecords_setMoved (s : State) (r : ReqSlot) (id : Word16) :
    (s.setMoved r id).freeRecords = s.freeRecords := by
  unfold State.setMoved State.addCounts State.subCounts
  rw [State.freeRecords_recomputeAll, State.modifyReq_freeRecords, State.modifyReq_freeRecords]
  exact s.freeRecords_foldl_modifyEntry _ _

/-- A record as it stands in the holder set after its grant (R36). -/
def Claim.held (c : Claim) (holdLimit : Nat) : Claim := { c with firstMember := false, deadline := armed holdLimit }

theorem countP_insertHolder (c : Claim) (l : List Claim) (r : ReqSlot) :
    (insertHolder c l).countP (fun d => d.requester = r) =
      l.countP (fun d => d.requester = r) + if c.requester = r then 1 else 0 := by
  rw [(insertHolder_perm c l).countP_eq, List.countP_cons]
  simp

/-- What the grant of a head makes of the records of its slot. -/
structure HeadGrant (s t : State) (e : EntrySlot) (c : Claim) : Prop where
  queue : s.queueAt e = c :: t.queueAt e
  holders : ∃ limit, t.holdersAt e = insertHolder (c.held limit) (s.holdersAt e)

theorem HeadGrant.of_headGranted {s t : State} {e : EntrySlot} {en : Entry} {c : Claim} (hs : s.entry e = some en)
    (hq : en.queue.head? = some c) (hh : t.holdersAt e = (en.headGranted c).holders) (ht : t.queueAt e = (en.headGranted c).queue) :
    HeadGrant s t e c := by
  refine ⟨?_, en.holdLimit, ?_⟩
  · rw [State.queueAt_of_entry hs, ht]
    exact List.eq_cons_of_mem_head? hq
  · rw [State.holdersAt_of_entry hs, hh]; rfl

/-- The grant of the heads of some slots, all of one requester, as one change of the table. -/
theorem State.TableLegal.grantHeads {s t : State} (h : s.TableLegal) {l : List EntrySlot} (hl : l.Nodup) {r : ReqSlot}
    (head : EntrySlot → Claim) (hr : ∀ e ∈ l, (head e).requester = r) (hgrant : ∀ e ∈ l, HeadGrant s t e (head e))
    (hholders : ∀ e, e ∉ l → t.holdersAt e = s.holdersAt e) (hqueue : ∀ e, e ∉ l → t.queueAt e = s.queueAt e)
    (hwhole : ∀ e e' c c', c ∈ t.queueAt e → c' ∈ s.queueAt e' → c.setId ≠ none → c'.setId = c.setId → c' ∈ t.queueAt e')
    (hfree : t.freeRecords = s.freeRecords)
    (hreq : ∀ r', t.req r' = if r = r' then (s.req r).map (Requester.moved l.length) else s.req r') : t.TableLegal := by
  have hhold : ∀ r', t.holdTotal r' = s.holdTotal r' + l.length * (if r = r' then 1 else 0) := fun r' => by
    have hshift := State.holdTotal_shift (s := s) (t := t) r' hl (a := 0) (b := if r = r' then 1 else 0) fun e => by
      by_cases he : e ∈ l
      · obtain ⟨limit, hh⟩ := (hgrant e he).holders
        simp [he, hh, countP_insertHolder, Claim.held, hr e he]
      · simp [he, hholders e he]
    simpa using hshift
  have hwait : ∀ r', t.waitTotal r' + l.length * (if r = r' then 1 else 0) = s.waitTotal r' := fun r' => by
    have hshift := State.waitTotal_shift (s := s) (t := t) r' hl (a := if r = r' then 1 else 0) (b := 0) fun e => by
      by_cases he : e ∈ l
      · simp [he, (hgrant e he).queue, List.countP_cons, hr e he]
      · simp [he, hqueue e he]
    simpa using hshift
  have huse : t.inUse = s.inUse := by
    have hshift := State.inUse_shift (s := s) (t := t) hl (a := 0) (b := 0) fun e => by
      by_cases he : e ∈ l
      · obtain ⟨limit, hh⟩ := (hgrant e he).holders
        simp only [he, if_true, hh, (hgrant e he).queue, (insertHolder_perm _ _).length_eq, List.length_cons]
        omega
      · simp [he, hqueue e he, hholders e he]
    simpa using hshift
  refine h.move (fun r' => ?_) (fun e => ?_) (fun e c hc => ?_) hwhole (by rw [hfree, huse]) fun r' q q' hq hq' => ?_
  · rw [hreq]
    split
    · next hrr => subst hrr; rw [Option.map_map]; rfl
    · rfl
  · by_cases he : e ∈ l
    · rw [(hgrant e he).queue]; exact List.sublist_cons_self _ _
    · rw [hqueue e he]
  · by_cases he : e ∈ l
    · obtain ⟨limit, hh⟩ := (hgrant e he).holders
      rw [hh] at hc
      obtain rfl | hc := List.mem_cons.mp ((insertHolder_perm _ _).mem_iff.mp hc)
      · exact ⟨head e, List.mem_append_right _ ((hgrant e he).queue ▸ List.mem_cons_self), rfl⟩
      · exact ⟨c, List.mem_append_left _ hc, rfl⟩
    · exact ⟨c, List.mem_append_left _ (hholders e he ▸ hc), rfl⟩
  · obtain ⟨hh, hw⟩ := h.counts r' q hq
    have htotal := hhold r'
    have hwaits := hwait r'
    rw [hreq] at hq'
    split at hq'
    · next hrr =>
      subst hrr
      rw [hq, Option.map_some, Option.some.injEq] at hq'
      subst hq'
      simp only [if_pos, Nat.mul_one] at htotal hwaits
      simp only [Requester.moved]
      omega
    · next hrr =>
      obtain rfl : q = q' := Option.some.inj (hq.symm.trans hq')
      simp only [if_neg hrr, Nat.mul_zero, Nat.add_zero] at htotal hwaits
      omega

theorem State.headGrant_headMoved {s : State} {e : EntrySlot} {en : Entry} {c : Claim} (hen : s.entry e = some en)
    (hq : en.queue.head? = some c) : HeadGrant s (s.headMoved e c) e c := by
  have hentry : (s.headMoved e c).entry e = some (en.headGranted c) := by rw [State.entry_headMoved, if_pos rfl, hen]; rfl
  exact .of_headGranted hen hq (State.holdersAt_of_entry hentry) (State.queueAt_of_entry hentry)

theorem State.TableLegal.headMoved {s : State} (h : s.TableLegal) {e : EntrySlot} {en : Entry} {c : Claim}
    (hen : s.entry e = some en) (hq : en.queue.head? = some c) (hid : c.setId = none) : (s.headMoved e c).TableLegal := by
  have hgrant := State.headGrant_headMoved hen hq
  have hother : ∀ e', e' ≠ e → (s.headMoved e c).entry e' = s.entry e' := fun e' he' => by
    rw [State.entry_headMoved, if_neg (Ne.symm he')]
  refine h.grantHeads (List.nodup_singleton e) (fun _ => c) (r := c.requester) (fun _ _ => rfl) (by simpa using hgrant)
    (fun e' he' => State.holdersAt_congr (hother e' (by simpa using he')))
    (fun e' he' => State.queueAt_congr (hother e' (by simpa using he'))) (fun e₁ e' c₁ c' hc₁ hc' hn hid' => ?_) (by simp)
    fun r => by rw [State.req_headMoved]; rfl
  by_cases he : e' = e
  · subst he
    rw [hgrant.queue] at hc'
    obtain rfl | hc' := List.mem_cons.mp hc'
    · exact absurd (hid'.symm.trans hid) hn
    · exact hc'
  · rwa [State.queueAt_congr (hother e' he)]

/-- The record of a grantable set at the head of a member's queue. -/
theorem State.LegalOff.setMoved_grant {s : State} {off : Set EntrySlot} (h : s.LegalOff off) {r : ReqSlot} {id : Word16}
    (hg : s.grantable r id = true) {e : EntrySlot} (he : e ∈ s.setMembers r id) :
    ∃ en c, s.entry e = some en ∧ en.queue.head? = some c ∧ c.inSet r id = true ∧ en.fits c.mode = true ∧
      (s.setMoved r id).entry e = some { en.headGranted c with state := (en.headGranted c).derivedState } := by
  obtain ⟨en, hen, c, hq, hin, hf⟩ := State.grantable_iff.mp hg e he
  obtain ⟨hs, hd, -⟩ := h e en hen
  have hne : (en.headGranted c).state ≠ .retiring := hd.ne_retiring fun hnil => by simp [hnil] at hq
  refine ⟨en, c, hen, hq, hin, hf, ?_⟩
  rw [State.entry_setMoved, if_pos he, hen, Option.bind_some, hs.memberGranted_eq hq hin, Entry.recomputed_of_ne_retiring hne]

theorem State.TableLegal.setMoved {s : State} {off : Set EntrySlot} (h : s.TableLegal) (hs : s.LegalOff off) {r : ReqSlot}
    {id : Word16} (hg : s.grantable r id = true) : (s.setMoved r id).TableLegal := by
  have hfind := fun e (he : e ∈ s.setMembers r id) => hs.setMoved_grant hg he
  have hhead : ∀ e, ∃ c : Claim, e ∈ s.setMembers r id → c.inSet r id = true ∧ HeadGrant s (s.setMoved r id) e c := fun e => by
    by_cases he : e ∈ s.setMembers r id
    · obtain ⟨en, c, hen, hq, hin, -, ht⟩ := hfind e he
      exact ⟨c, fun _ => ⟨hin, .of_headGranted hen hq ((State.holdersAt_of_entry ht).trans rfl)
        ((State.queueAt_of_entry ht).trans rfl)⟩⟩
    · exact ⟨⟨r, .shared, none, false, none⟩, fun hm => absurd hm he⟩
  obtain ⟨head, hhead⟩ := Classical.skolem.mp hhead
  have hother : ∀ e, e ∉ s.setMembers r id → (s.setMoved r id).entry e = s.entry e := fun e he => by
    rw [State.entry_setMoved, if_neg he]
  refine h.grantHeads (s.nodup_setMembers r id) head (r := r) (fun e he => ?_) (fun e he => (hhead e he).2)
    (fun e he => State.holdersAt_congr (hother e he)) (fun e he => State.queueAt_congr (hother e he))
    (fun e e' c c' hc hc' hn hid => ?_) (by simp) (s.req_setMoved r id)
  · have hin := (hhead e he).1
    simp only [Claim.inSet, Bool.and_eq_true, decide_eq_true_eq] at hin
    exact hin.1
  · have hcs : c ∈ s.queueAt e := by
      by_cases he : e ∈ s.setMembers r id
      · rw [(hhead e he).2.queue]; exact List.mem_cons_of_mem _ hc
      · rwa [State.queueAt_congr (hother e he)] at hc
    by_cases he' : e' ∈ s.setMembers r id
    · obtain ⟨hin, hgrant⟩ := hhead e' he'
      have hq := hc'
      rw [hgrant.queue] at hq
      obtain rfl | hq := List.mem_cons.mp hq
      · have hcin := h.sets.inSet hc' hcs hin hid.symm
        have he : e ∈ s.setMembers r id := State.mem_setMembers_iff.mpr ⟨c, hcs, hcin⟩
        obtain ⟨hin', hgrant'⟩ := hhead e he
        have hnodup := hs.sound.nodup_queue e
        rw [hgrant'.queue, List.map_cons, List.nodup_cons] at hnodup
        simp only [Claim.inSet, Bool.and_eq_true, decide_eq_true_eq] at hcin hin'
        exact absurd (List.mem_map.mpr ⟨c, hc, hcin.1.trans hin'.1.symm⟩) hnodup.1
      · exact hq
    · rwa [State.queueAt_congr (hother e' he')]

theorem State.TableLegal.grantHead {s : State} (h : s.TableLegal) (q : Quiet) {e : EntrySlot} {en : Entry} {c : Claim}
    (hen : s.entry e = some en) (hq : en.queue.head? = some c) (hid : c.setId = none) : (s.grantHead q e c).TableLegal :=
  (h.headMoved hen hq hid).noticeUnless _ _ _ _

theorem State.TableLegal.grantSet {s : State} {off : Set EntrySlot} (h : s.TableLegal) (hs : s.LegalOff off) (q : Quiet)
    {r : ReqSlot} {id : Word16} (hg : s.grantable r id = true) : (s.grantSet q r id).TableLegal := by
  have hmoved := h.setMoved hs hg
  cases hf : s.firstMember r id with
  | none => rwa [State.grantSet_of_none s q r id hf]
  | some p =>
    rw [State.grantSet_eq s q r id hf]
    exact hmoved.noticeUnless _ _ _ _

/-! ### The removal of all records of a requester -/

theorem State.req_stripAll (s : State) (r : ReqSlot) (stale : Bool) (r' : ReqSlot) :
    (s.stripAll r stale).req r' =
      if r = r' then (s.req r).map fun q =>
        { q with holdCount := q.holdCount - s.holdsOf r, waitCount := q.waitCount - s.waitsOf r }
      else s.req r' := by
  unfold State.stripAll
  dsimp only
  rw [State.req_recomputeAll, State.req_subCounts]
  exact congrArg₂ (fun a b => if r = r' then Option.map _ a else b) (s.req_foldl_modifyEntry _ _ r) (s.req_foldl_modifyEntry _ _ r')

theorem State.freeRecords_stripAll (s : State) (r : ReqSlot) (stale : Bool) :
    (s.stripAll r stale).freeRecords = s.freeRecords + s.holdsOf r + s.waitsOf r := by
  unfold State.stripAll State.subCounts
  dsimp only
  rw [State.freeRecords_recomputeAll, State.modifyReq_freeRecords]
  exact congrArg (· + _ + _) (s.freeRecords_foldl_modifyEntry _ _)

theorem State.holdersAt_stripAll (s : State) (r : ReqSlot) (stale : Bool) (e : EntrySlot) :
    (s.stripAll r stale).holdersAt e = (s.holdersAt e).filter fun c => c.requester ≠ r := by
  unfold State.holdersAt
  rw [State.entry_stripAll]
  cases s.entry e with
  | none => rfl
  | some en =>
    rw [Option.bind_some]
    split
    · exact (en.stripped r stale).holders_recomputed
    · next hc =>
      have hid := congrArg Entry.holders (Entry.stripped_of_unclaimed (by simpa using hc) stale)
      exact hid.symm

theorem State.Drained.queueAt_stripAll {s : State} (h : s.Drained) (r : ReqSlot) (stale : Bool) (e : EntrySlot) :
    (s.stripAll r stale).queueAt e = (s.queueAt e).filter fun c => c.requester ≠ r := by
  unfold State.queueAt
  rw [State.entry_stripAll]
  cases hen : s.entry e with
  | none => rfl
  | some en =>
    rw [Option.bind_some]
    split
    · exact ((h e en hen).reduce (en.reduced_stripped r stale)).queue_recomputed
    · next hc =>
      have hid := congrArg Entry.queue (Entry.stripped_of_unclaimed (by simpa using hc) stale)
      exact hid.symm

theorem State.TableLegal.stripAll {s : State} (h : s.TableLegal) (hs : s.entriesLegal) (r : ReqSlot) (stale : Bool) :
    (s.stripAll r stale).TableLegal := by
  have hsound := State.sound_of_entriesLegal hs
  have hdrained : s.Drained := ((s.legalOff_empty).mpr hs).allDrained
  have hqueueAt := hdrained.queueAt_stripAll r stale
  have hholdersAt := s.holdersAt_stripAll r stale
  have hhold : ∀ r', (s.stripAll r stale).holdTotal r' + (if r = r' then s.holdTotal r else 0) = s.holdTotal r' := fun r' => by
    unfold State.holdTotal
    rw [show (if r = r' then ∑ e, (s.holdersAt e).countP (fun c => c.requester = r) else 0) =
      ∑ e, if r = r' then (s.holdersAt e).countP (fun c => c.requester = r) else 0 by split <;> simp, ← Finset.sum_add_distrib]
    exact Finset.sum_congr rfl fun e _ => by rw [hholdersAt]; exact countP_filter_ne _ r r'
  have hwait : ∀ r', (s.stripAll r stale).waitTotal r' + (if r = r' then s.waitTotal r else 0) = s.waitTotal r' := fun r' => by
    unfold State.waitTotal
    rw [show (if r = r' then ∑ e, (s.queueAt e).countP (fun c => c.requester = r) else 0) =
      ∑ e, if r = r' then (s.queueAt e).countP (fun c => c.requester = r) else 0 by split <;> simp, ← Finset.sum_add_distrib]
    exact Finset.sum_congr rfl fun e _ => by rw [hqueueAt]; exact countP_filter_ne _ r r'
  have huse : (s.stripAll r stale).inUse + (s.holdTotal r + s.waitTotal r) = s.inUse := by
    unfold State.inUse State.holdTotal State.waitTotal
    rw [← Finset.sum_add_distrib, ← Finset.sum_add_distrib]
    refine Finset.sum_congr rfl fun e _ => ?_
    rw [hholdersAt, hqueueAt]
    have h₁ := length_filter_ne (s.holdersAt e) r
    have h₂ := length_filter_ne (s.queueAt e) r
    omega
  refine h.move (ClaimFrame.stripAll s r stale).standing (fun e => by rw [hqueueAt]; exact List.filter_sublist)
    (fun e d hd => ?_) (fun e e' c c' hc hc' hn hid => ?_) ?_ fun r' q q' hq hq' => ?_
  · rw [hholdersAt] at hd
    exact ⟨d, List.mem_append_left _ (List.mem_of_mem_filter hd), rfl⟩
  · rw [hqueueAt] at hc ⊢
    obtain ⟨hc, hcr⟩ := List.mem_filter.mp hc
    refine List.mem_filter.mpr ⟨hc', ?_⟩
    rwa [h.sets.owner e e' c c' hc hc' hn hid]
  · rw [State.freeRecords_stripAll, hsound.holdsOf_eq, hsound.waitsOf_eq]
    omega
  · obtain ⟨hh, hw⟩ := h.counts r' q hq
    have htotal := hhold r'
    have hwaits := hwait r'
    rw [State.req_stripAll, hsound.holdsOf_eq, hsound.waitsOf_eq] at hq'
    split at hq'
    · next hr =>
      subst hr
      rw [hq, Option.map_some, Option.some.injEq] at hq'
      subst hq'
      rw [if_pos rfl] at htotal hwaits
      dsimp only
      omega
    · next hr =>
      obtain rfl : q = q' := Option.some.inj (hq.symm.trans hq')
      rw [if_neg hr] at htotal hwaits
      omega

end Sys2Proof.Machine
end

section
/-! What grants from the queues do, as a relation that composes: one grant after another keeps it, and the admission passes of an event
are such grants (R34 to R38, R58 to R61). -/

namespace Sys2Proof.Machine

/-! ### Changes of the claim table alone -/

/-- From u to t only slots, requester records and notices changed. -/
def State.OnlyClaims (u t : State) : Prop :=
  t = { u with
    slots := t.slots, requesters := t.requesters, notices := t.notices, noticeSerial := t.noticeSerial }

theorem State.OnlyClaims.refl (u : State) : u.OnlyClaims u := rfl

theorem State.OnlyClaims.trans {u v t : State} (h : u.OnlyClaims v) (g : v.OnlyClaims t) : u.OnlyClaims t := by
  unfold State.OnlyClaims at h g ⊢
  have hv := congrArg (fun x : State => { x with
    slots := t.slots, requesters := t.requesters, notices := t.notices, noticeSerial := t.noticeSerial }) h
  exact g.trans hv

theorem State.OnlyClaims.setEntry (u : State) (e : EntrySlot) (en : Entry) : u.OnlyClaims (u.setEntry e en) := rfl

theorem State.OnlyClaims.modifyEntry (u : State) (e : EntrySlot) (f : Entry → Entry) : u.OnlyClaims (u.modifyEntry e f) := by
  unfold State.modifyEntry
  split
  · rfl
  · rfl

theorem State.OnlyClaims.modifyReq (u : State) (r : ReqSlot) (f : Requester → Requester) : u.OnlyClaims (u.modifyReq r f) := by
  unfold State.modifyReq
  split
  · rfl
  · rfl

theorem State.OnlyClaims.queueNotice (u : State) (r : ReqSlot) (e : EntrySlot) (body : NoticeBody) :
    u.OnlyClaims (u.queueNotice r e body) := by
  unfold State.queueNotice
  split
  · rfl
  · split <;> rfl

theorem State.OnlyClaims.noticeUnless (u : State) (quiet : Bool) (r : ReqSlot) (e : EntrySlot) (body : NoticeBody) :
    u.OnlyClaims (u.noticeUnless quiet r e body) := by
  unfold State.noticeUnless
  split
  · rfl
  · exact .queueNotice u r e body

theorem State.OnlyClaims.foldl_modifyEntry (u : State) (l : List EntrySlot) (f : Entry → Entry) :
    u.OnlyClaims (l.foldl (fun s e => s.modifyEntry e f) u) := by
  induction l generalizing u with
  | nil => exact .refl u
  | cons e l ih => exact (State.OnlyClaims.modifyEntry u e f).trans (ih _)

/-! ### Recomputation where no slot is freed -/

/-- No entry is due to be freed: a RETIRING one has a holder. -/
def State.Kept (s : State) : Prop := ∀ e en, s.entry e = some en → en.state = .retiring → en.holders ≠ []

/-- The recomputation of an entry that is not freed. -/
def Entry.settle (en : Entry) : Entry := if en.state = .retiring then en else { en with state := en.derivedState }

theorem Entry.settle_holders (en : Entry) : en.settle.holders = en.holders := by
  unfold Entry.settle; split <;> rfl

theorem Entry.settle_queue (en : Entry) : en.settle.queue = en.queue := by
  unfold Entry.settle; split <;> rfl

theorem Entry.settle_shareLimit (en : Entry) : en.settle.shareLimit = en.shareLimit := by
  unfold Entry.settle; split <;> rfl

theorem Entry.settle_retiring (en : Entry) : en.settle.state = .retiring ↔ en.state = .retiring := by
  unfold Entry.settle
  split
  · rfl
  · next h => simp [h, en.derivedState_ne_retiring]

theorem State.setEntry_self {s : State} {e : EntrySlot} {en : Entry} (h : s.entry e = some en) : s.setEntry e en = s := by
  have hslot : (⟨s.generation e, some en⟩ : Slot) = s.slots[e.val] := by
    rw [← h]; rfl
  unfold State.setEntry
  rw [hslot, Vector.set_getElem_self]

theorem State.recompute_of_kept {s : State} {e : EntrySlot}
    (h : ∀ en, s.entry e = some en → en.state = .retiring → en.holders ≠ []) : s.recompute e = s.modifyEntry e Entry.settle := by
  unfold State.recompute State.modifyEntry
  cases hen : s.entry e with
  | none => rfl
  | some en =>
    dsimp only
    unfold Entry.settle
    split
    · next hr =>
      rw [if_neg (by simpa using h en hen hr), State.setEntry_self hen]
    · rfl

theorem State.Kept.modifyEntry {s : State} (h : s.Kept) {e : EntrySlot} {f : Entry → Entry}
    (hf : ∀ en, (en.state = .retiring → en.holders ≠ []) → (f en).state = .retiring → (f en).holders ≠ []) :
    (s.modifyEntry e f).Kept := by
  intro e' en' he'
  rw [State.entry_modifyEntry] at he'
  split at he'
  · next hee =>
    subst hee
    obtain ⟨en, hen, rfl⟩ := Option.map_eq_some_iff.mp he'
    exact hf en (h e en hen)
  · exact h e' en' he'

theorem State.Kept.recomputeAll_eq {s : State} (h : s.Kept) (es : List EntrySlot) :
    s.recomputeAll es = es.foldl (fun s e => s.modifyEntry e Entry.settle) s := by
  unfold State.recomputeAll
  induction es generalizing s with
  | nil => rfl
  | cons e es ih =>
    rw [List.foldl_cons, List.foldl_cons, State.recompute_of_kept (h e)]
    exact ih (h.modifyEntry fun en hk hr => by
      rw [Entry.settle_holders]; exact hk (en.settle_retiring.mp hr))

theorem State.generation_foldl_modifyEntry (s : State) (l : List EntrySlot) (f : Entry → Entry) (e : EntrySlot) :
    (l.foldl (fun s e => s.modifyEntry e f) s).generation e = s.generation e := by
  induction l generalizing s with
  | nil => rfl
  | cons a l ih => rw [List.foldl_cons, ih, State.generation_modifyEntry]

theorem State.kept_of_entriesLegal {s : State} (h : s.entriesLegal) : s.Kept := fun e en he hr =>
  ((Entry.settled_of_retiring hr).mp (en.legal_iff.mp (h e en he)).2).1

/-! ### Entries that advance -/

/-- Waiting records left the queue of an entry from its head and stand in the holder set. -/
structure Entry.Advanced (en en' : Entry) : Prop where
  fixed : en'.tag = en.tag ∧ en'.shareLimit = en.shareLimit ∧ en'.holdLimit = en.holdLimit ∧ en'.note = en.note ∧
    en'.noteStale = en.noteStale
  queue : en'.queue <:+ en.queue
  holders : ∀ c, c ∈ en'.holders ↔ c ∈ en.holders ∨ ∃ w ∈ en.queue, w ∉ en'.queue ∧ c = w.held en.holdLimit
  grantCount : en'.grantCount = en.grantCount + BitVec.ofNat 16 (en.queue.length - en'.queue.length)
  retiring : en'.state = .retiring ↔ en.state = .retiring

theorem Entry.Advanced.refl (en : Entry) : en.Advanced en := by
  refine ⟨⟨rfl, rfl, rfl, rfl, rfl⟩, List.suffix_rfl, fun c => ⟨.inl, ?_⟩, by simp, Iff.rfl⟩
  rintro (hc | ⟨w, hw, hnw, -⟩)
  · exact hc
  · exact absurd hw hnw

theorem Entry.Advanced.trans {en en' en'' : Entry} (h : en.Advanced en') (g : en'.Advanced en'') : en.Advanced en'' := by
  obtain ⟨htag, hshare, hlimit, hnote, hstale⟩ := h.fixed
  obtain ⟨htag', hshare', hlimit', hnote', hstale'⟩ := g.fixed
  refine ⟨⟨htag'.trans htag, hshare'.trans hshare, hlimit'.trans hlimit, hnote'.trans hnote, hstale'.trans hstale⟩,
    g.queue.trans h.queue, fun c => ?_, ?_, g.retiring.trans h.retiring⟩
  · rw [g.holders, h.holders, hlimit]
    constructor
    · rintro ((hc | ⟨w, hw, hnw, rfl⟩) | ⟨w, hw, hnw, rfl⟩)
      · exact .inl hc
      · exact .inr ⟨w, hw, fun hm => hnw (g.queue.subset hm), rfl⟩
      · exact .inr ⟨w, h.queue.subset hw, hnw, rfl⟩
    · rintro (hc | ⟨w, hw, hnw, rfl⟩)
      · exact .inl (.inl hc)
      · by_cases hm : w ∈ en'.queue
        · exact .inr ⟨w, hm, hnw, rfl⟩
        · exact .inl (.inr ⟨w, hw, hm, rfl⟩)
  · have hle := h.queue.length_le
    have hle' := g.queue.length_le
    rw [g.grantCount, h.grantCount, BitVec.add_assoc, ← BitVec.ofNat_add]
    congr 2
    omega

theorem Entry.Advanced.settle (en : Entry) : en.Advanced en.settle := by
  have hrefl := Entry.Advanced.refl en
  unfold Entry.settle
  split
  · exact hrefl
  · next hr =>
    exact ⟨hrefl.fixed, hrefl.queue, hrefl.holders, hrefl.grantCount, by simp [hr, en.derivedState_ne_retiring]⟩

/-- The grant of the head, of an entry on which a requester has one record at most. -/
theorem Entry.Sound.advanced_headGranted {en : Entry} (h : en.Sound) {c : Claim} (hq : en.queue.head? = some c) :
    en.Advanced (en.headGranted c) := by
  have hcons : en.queue = c :: en.queue.tail := List.eq_cons_of_mem_head? hq
  have hnot : c ∉ en.queue.tail := fun hm => by
    have hne := Entry.claimed_eq_false.mp (h.tail_unclaimed hcons) c (List.mem_append_right _ hm)
    exact hne rfl
  refine ⟨⟨rfl, rfl, rfl, rfl, rfl⟩, List.tail_suffix _, fun d => ?_, ?_, Iff.rfl⟩
  · show d ∈ insertHolder (c.held en.holdLimit) en.holders ↔ _
    rw [(insertHolder_perm _ _).mem_iff, List.mem_cons]
    constructor
    · rintro (rfl | hd)
      · exact .inr ⟨c, hcons ▸ List.mem_cons_self, hnot, rfl⟩
      · exact .inl hd
    · rintro (hd | ⟨w, hw, hnw, rfl⟩)
      · exact .inr hd
      · rw [hcons] at hw
        obtain rfl | hw := List.mem_cons.mp hw
        · exact .inl rfl
        · exact absurd hw hnw
  · show en.grantCount + 1 = en.grantCount + BitVec.ofNat 16 (en.queue.length - en.queue.tail.length)
    have hlen : en.queue.length - en.queue.tail.length = 1 := by
      rw [List.length_tail]
      have : 0 < en.queue.length := by rw [hcons]; simp
      omega
    rw [hlen]
    rfl

/-! ### Grants, told -/

theorem granted_iff {u t : State} (hlive : ∀ e, (t.entry e).isSome = (u.entry e).isSome) {e : EntrySlot} {w : Claim} :
    Granted u t e w ↔ w ∈ u.queueAt e ∧ w ∉ t.queueAt e := by
  have he := hlive e
  unfold Granted State.queueAt
  cases hu : u.entry e <;> cases ht : t.entry e <;> simp_all

/-- What a queued notice leaves of the notices. -/
theorem State.notices_queueNotice (s : State) (r : ReqSlot) (e : EntrySlot) (body : NoticeBody) :
    (s.queueNotice r e body).notices = s.notices ++
      if (s.req r).isSome ∧ (s.noticeQueue r).length < Config.noticeCapacity then
        [⟨r, s.noticeSerial, e, s.generation e, body⟩] else [] := by
  unfold State.queueNotice
  split
  · next h => simp [h]
  · next q h =>
    split
    · next hlt => rw [if_pos ⟨by simp [h], hlt⟩]
    · next hge => rw [if_neg fun hc => hge hc.2]; simp

theorem State.noticeQueue_of_append {u t : State} {new : List Notice} (h : t.notices = u.notices ++ new) (r : ReqSlot) :
    t.noticeQueue r = u.noticeQueue r ++ new.filter fun n => n.owner = r := by
  unfold State.noticeQueue
  rw [h, List.filter_append]

theorem newNotices_of_append {u t : State} {new : List Notice} (h : t.notices = u.notices ++ new) : newNotices u t = new := by
  unfold newNotices
  rw [h, List.drop_left]

/-! ### Passes -/

/-- A grant that is told: of a single wait, or of a set for its first member, and not reported by the placing command's answer. -/
def Tellable (quiet : Quiet) (e : EntrySlot) (w : Claim) : Prop :=
  (w.setId = none ∨ w.firstMember = true) ∧ quiet.covers e w = false

/-- Grants from the heads of the queues took u to t. -/
structure Passed (quiet : Quiet) (u t : State) : Prop where
  generations : ∀ e, t.generation e = u.generation e
  live : ∀ e, (t.entry e).isSome = (u.entry e).isSome
  entries : ∀ e en en', u.entry e = some en → t.entry e = some en' → en.Advanced en'
  whole : ∀ e w e' w', Granted u t e w → w' ∈ u.queueAt e' → w.setId ≠ none → w'.setId = w.setId → Granted u t e' w'
  requesters : ∀ r, ∃ holds waits overrun,
    t.req r = (u.req r).map (fun q =>
      { q with holdCount := holds, waitCount := waits, overrun := q.overrun || overrun }) ∧
    (overrun = true → Config.noticeCapacity ≤ (t.noticeQueue r).length ∧
      ∃ e w, Granted u t e w ∧ w.requester = r ∧ Tellable quiet e w ∧ ∀ n ∈ newNotices u t, n.owner = r → n.slot ≠ e)
  told : ∀ e w, Granted u t e w → Tellable quiet e w → Told u t w.requester e (u.generation e) (.granted w.mode w.setId)
  notices : ∃ new, t.notices = u.notices ++ new ∧ (new.map fun n => (n.owner, n.slot)).Nodup ∧
    ∀ n ∈ new, n.generation = u.generation n.slot ∧
      ∃ w, Granted u t n.slot w ∧ w.requester = n.owner ∧ n.body = .granted w.mode w.setId ∧ Tellable quiet n.slot w
  rest : u.OnlyClaims t

theorem Passed.queueAt {quiet : Quiet} {u t : State} (h : Passed quiet u t) (e : EntrySlot) : t.queueAt e <:+ u.queueAt e := by
  have hlive := h.live e
  unfold State.queueAt
  cases hu : u.entry e with
  | none =>
    rw [hu] at hlive
    have ht : t.entry e = none := by rw [← Option.not_isSome_iff_eq_none, hlive]; simp
    rw [ht]
  | some en =>
    rw [hu] at hlive
    obtain ⟨en', ht⟩ := Option.isSome_iff_exists.mp hlive
    rw [ht]
    exact (h.entries e en en' hu ht).queue

theorem Passed.granted {quiet : Quiet} {u t : State} (h : Passed quiet u t) {e : EntrySlot} {w : Claim} :
    Granted u t e w ↔ w ∈ u.queueAt e ∧ w ∉ t.queueAt e :=
  granted_iff h.live

/-- No grant happened: entries are at most settled. -/
theorem Passed.of_settled {quiet : Quiet} {u t : State} (hgen : ∀ e, t.generation e = u.generation e)
    (hen : ∀ e, t.entry e = u.entry e ∨ t.entry e = (u.entry e).map Entry.settle) (hreq : ∀ r, t.req r = u.req r)
    (hnot : t.notices = u.notices) (hrest : u.OnlyClaims t) : Passed quiet u t := by
  have hlive : ∀ e, (t.entry e).isSome = (u.entry e).isSome := fun e => by
    obtain h | h := hen e <;> simp [h]
  have hqueue : ∀ e, t.queueAt e = u.queueAt e := fun e => by
    unfold State.queueAt
    obtain h | h := hen e
    · rw [h]
    · rw [h]
      cases u.entry e with
      | none => rfl
      | some en => exact en.settle_queue
  have hnone : ∀ e w, ¬ Granted u t e w := fun e w hg => by
    rw [granted_iff hlive, hqueue] at hg
    exact hg.2 hg.1
  refine ⟨hgen, hlive, fun e en en' hu ht => ?_, fun e w _ _ hg => absurd hg (hnone e w), fun r => ?_,
    fun e w hg => absurd hg (hnone e w), ⟨[], by simp [hnot], by simp, by simp⟩, hrest⟩
  · obtain h | h := hen e
    · rw [hu, ht] at h
      cases h
      exact .refl en
    · rw [hu, ht] at h
      cases h
      exact .settle en
  · cases hq : u.req r with
    | none => exact ⟨0, 0, false, by rw [hreq, hq]; rfl, by simp⟩
    | some q => exact ⟨q.holdCount, q.waitCount, false, by rw [hreq, hq]; simp, by simp⟩

theorem Passed.refl (quiet : Quiet) (u : State) : Passed quiet u u :=
  .of_settled (fun _ => rfl) (fun _ => .inl rfl) (fun _ => rfl) rfl (.refl u)

theorem Passed.recompute (quiet : Quiet) {u : State} (h : u.Kept) (e : EntrySlot) : Passed quiet u (u.recompute e) := by
  rw [State.recompute_of_kept (h e)]
  refine .of_settled (fun e' => by simp) (fun e' => ?_) (fun r => by simp) (by simp) (.modifyEntry u e _)
  rw [State.entry_modifyEntry]
  split
  · next hee => subst hee; exact .inr rfl
  · exact .inl rfl

theorem Passed.kept {quiet : Quiet} {u t : State} (h : Passed quiet u t) (hu : u.Kept) : t.Kept := by
  intro e en' ht hr
  have hlive := h.live e
  rw [ht] at hlive
  obtain ⟨en, hen⟩ := Option.isSome_iff_exists.mp hlive.symm
  have hadv := h.entries e en en' hen ht
  obtain ⟨c, hc⟩ := List.exists_mem_of_ne_nil _ (hu e en hen (hadv.retiring.mp hr))
  exact List.ne_nil_of_mem ((hadv.holders c).mpr (.inl hc))

/-! ### One grant after another -/

theorem Passed.granted_trans {quiet : Quiet} {u v t : State} (h : Passed quiet u v) (g : Passed quiet v t) {e : EntrySlot} {w : Claim} :
    Granted u t e w ↔ Granted u v e w ∨ Granted v t e w := by
  rw [granted_iff fun e => (g.live e).trans (h.live e), h.granted, g.granted]
  have hsub := (h.queueAt e).subset (a := w)
  have hsub' := (g.queueAt e).subset (a := w)
  tauto

/-- A requester has no grant on an entry in two parts of a pass. -/
theorem Passed.granted_once {quiet : Quiet} {u v t : State} (hu : u.Sound) (h : Passed quiet u v) (g : Passed quiet v t) {e : EntrySlot}
    {w w' : Claim} (hw : Granted u v e w) (hw' : Granted v t e w') : w.requester ≠ w'.requester := by
  intro hr
  rw [h.granted] at hw
  rw [g.granted] at hw'
  obtain rfl := hu.wait_unique hw.1 ((h.queueAt e).subset hw'.1) hr
  exact hw.2 hw'.1

theorem Told.trans {u v t : State} {new new' : List Notice} (hv : v.notices = u.notices ++ new) (ht : t.notices = v.notices ++ new')
    {r : ReqSlot} (hover : ∀ q, v.req r = some q → q.overrun = true → ∃ q', t.req r = some q' ∧ q'.overrun = true)
    {e : EntrySlot} {g : Byte} {body : NoticeBody} (h : Told u v r e g body ∨ Told v t r e g body) : Told u t r e g body := by
  have hall : t.notices = u.notices ++ (new ++ new') := by rw [ht, hv, List.append_assoc]
  unfold Told at h ⊢
  rw [newNotices_of_append hv, newNotices_of_append ht] at h
  rw [newNotices_of_append hall]
  rcases h with (⟨n, hn, hrest⟩ | ⟨hfull, q, hq, ho⟩) | ⟨n, hn, hrest⟩ | hfull
  · exact .inl ⟨n, List.mem_append_left _ hn, hrest⟩
  · refine .inr ⟨?_, hover q hq ho⟩
    rw [State.noticeQueue_of_append ht, List.length_append]
    omega
  · exact .inl ⟨n, List.mem_append_right _ hn, hrest⟩
  · exact .inr hfull

theorem Passed.overrun_kept {quiet : Quiet} {u t : State} (h : Passed quiet u t) {r : ReqSlot} {q : Requester} (hq : u.req r = some q)
    (ho : q.overrun = true) : ∃ q', t.req r = some q' ∧ q'.overrun = true := by
  obtain ⟨holds, waits, overrun, ht, -⟩ := h.requesters r
  rw [hq] at ht
  exact ⟨_, ht, by simp [ho]⟩

theorem Passed.trans {quiet : Quiet} {u v t : State} (hu : u.Sound) (h : Passed quiet u v) (g : Passed quiet v t) :
    Passed quiet u t := by
  obtain ⟨new, hnew, hnodup, hmade⟩ := h.notices
  obtain ⟨new', hnew', hnodup', hmade'⟩ := g.notices
  have hall : t.notices = u.notices ++ (new ++ new') := by rw [hnew', hnew, List.append_assoc]
  have hgranted := fun {e : EntrySlot} {w : Claim} => h.granted_trans g (e := e) (w := w)
  refine ⟨fun e => (g.generations e).trans (h.generations e), fun e => (g.live e).trans (h.live e), fun e en en'' hen ht => ?_,
    fun e w e' w' hw hw' hn hid => ?_, fun r => ?_, fun e w hw htell => ?_, ⟨new ++ new', hall, ?_, fun n hn => ?_⟩,
    h.rest.trans g.rest⟩
  · have hlive := h.live e
    rw [hen] at hlive
    obtain ⟨en', hv⟩ := Option.isSome_iff_exists.mp hlive
    exact (h.entries e en en' hen hv).trans (g.entries e en' en'' hv ht)
  · rw [hgranted] at hw ⊢
    obtain hw | hw := hw
    · exact .inl (h.whole e w e' w' hw hw' hn hid)
    · by_cases hv : w' ∈ v.queueAt e'
      · exact .inr (g.whole e w e' w' hw hv hn hid)
      · exact .inl (h.granted.mpr ⟨hw', hv⟩)
  · obtain ⟨_, _, overrun, hv, hover⟩ := h.requesters r
    obtain ⟨holds, waits, overrun', ht, hover'⟩ := g.requesters r
    refine ⟨holds, waits, overrun || overrun', ?_, fun ho => ?_⟩
    · rw [ht, hv, Option.map_map]
      cases u.req r <;> simp [Bool.or_assoc]
    · rw [newNotices_of_append hall]
      obtain ho | ho := Bool.or_eq_true_iff.mp ho
      · obtain ⟨hfull, e, w, hw, hr, htell, hno⟩ := hover ho
        rw [newNotices_of_append hnew] at hno
        refine ⟨?_, e, w, hgranted.mpr (.inl hw), hr, htell, fun n hn hown hslot => ?_⟩
        · rw [State.noticeQueue_of_append hnew', List.length_append]
          omega
        · obtain hn | hn := List.mem_append.mp hn
          · exact hno n hn hown hslot
          · obtain ⟨-, w', hw', hr', -⟩ := hmade' n hn
            exact h.granted_once hu g hw (hslot ▸ hw') (hr.trans (hown.symm.trans hr'.symm))
      · obtain ⟨hfull, e, w, hw, hr, htell, hno⟩ := hover' ho
        rw [newNotices_of_append hnew'] at hno
        refine ⟨hfull, e, w, hgranted.mpr (.inr hw), hr, htell, fun n hn hown hslot => ?_⟩
        obtain hn | hn := List.mem_append.mp hn
        · obtain ⟨-, w', hw', hr', -⟩ := hmade n hn
          exact h.granted_once hu g (hslot ▸ hw') hw (hr'.trans (hown.trans hr.symm))
        · exact hno n hn hown hslot
  · refine Told.trans hnew hnew' (fun q hq ho => g.overrun_kept hq ho) ?_
    obtain hw | hw := hgranted.mp hw
    · exact .inl (h.told e w hw htell)
    · rw [← h.generations e]
      exact .inr (g.told e w hw htell)
  · rw [List.map_append, List.nodup_append]
    refine ⟨hnodup, hnodup', fun p hp p' hp' hpp => ?_⟩
    obtain ⟨n, hn, rfl⟩ := List.mem_map.mp hp
    obtain ⟨n', hn', rfl⟩ := List.mem_map.mp hp'
    obtain ⟨hown, hslot⟩ := Prod.mk.inj hpp
    obtain ⟨-, w, hw, hr, -⟩ := hmade n hn
    obtain ⟨-, w', hw', hr', -⟩ := hmade' n' hn'
    exact h.granted_once hu g (hslot ▸ hw) hw' (hr.trans (hown.trans hr'.symm))
  · obtain hn | hn := List.mem_append.mp hn
    · obtain ⟨hgen, w, hw, hrest⟩ := hmade n hn
      exact ⟨hgen, w, hgranted.mpr (.inl hw), hrest⟩
    · obtain ⟨hgen, w, hw, hrest⟩ := hmade' n hn
      exact ⟨hgen.trans (h.generations _), w, hgranted.mpr (.inr hw), hrest⟩

end Sys2Proof.Machine
end

section
/-! The admission passes: what the grant of a head and of a set is, the turns of a pass, and the run of the pass list until it is empty,
which leaves no head that could be granted (R34 to R38, R58 to R61). -/

namespace Sys2Proof.Machine

/-! ### The grant of a head and of a set -/

theorem Granted.congr {u t t' : State} (h : ∀ e, t'.entry e = t.entry e) {e : EntrySlot} {w : Claim} :
    Granted u t' e w ↔ Granted u t e w := by
  unfold Granted
  rw [h]

/-- Grants made without a notice, followed by the one notice that is due for them. -/
theorem Passed.grant {quiet : Quiet} {u m : State} {e₀ : EntrySlot} {w₀ : Claim} (hgen : ∀ e, m.generation e = u.generation e)
    (hlive : ∀ e, (m.entry e).isSome = (u.entry e).isSome)
    (hentries : ∀ e en en', u.entry e = some en → m.entry e = some en' → en.Advanced en')
    (hwhole : ∀ e w e' w', Granted u m e w → w' ∈ u.queueAt e' → w.setId ≠ none → w'.setId = w.setId → Granted u m e' w')
    (hreq : ∀ r, ∃ n, m.req r = (u.req r).map (Requester.moved n)) (hnot : m.notices = u.notices) (hrest : u.OnlyClaims m)
    (hgranted : Granted u m e₀ w₀) (hfirst : w₀.setId = none ∨ w₀.firstMember = true)
    (hone : ∀ e w, Granted u m e w → w.setId = none ∨ w.firstMember = true → e = e₀ ∧ w = w₀)
    (hopen : (u.req w₀.requester).isSome) :
    Passed quiet u (m.noticeUnless (quiet.covers e₀ w₀) w₀.requester e₀ (.granted w₀.mode w₀.setId)) := by
  have hentry := fun e => m.entry_noticeUnless (quiet.covers e₀ w₀) w₀.requester e₀ (.granted w₀.mode w₀.setId) e
  have hrest' := hrest.trans (.noticeUnless m (quiet.covers e₀ w₀) w₀.requester e₀ (.granted w₀.mode w₀.setId))
  cases hquiet : quiet.covers e₀ w₀ with
  | true =>
    have htell : ∀ e w, Granted u m e w → ¬ Tellable quiet e w := fun e w hg ht => by
      obtain ⟨rfl, rfl⟩ := hone e w hg ht.1
      exact absurd (hquiet.symm.trans ht.2) (by simp)
    show Passed quiet u m
    refine ⟨hgen, hlive, hentries, hwhole, fun r => ?_, fun e w hg ht => absurd ht (htell e w hg), ⟨[], by simp [hnot], by simp, by simp⟩,
      hrest⟩
    obtain ⟨n, hn⟩ := hreq r
    cases hq : u.req r with
    | none => exact ⟨0, 0, false, by rw [hn, hq]; rfl, by simp⟩
    | some q => exact ⟨q.holdCount + n, q.waitCount - n, false, by rw [hn, hq]; simp [Requester.moved], by simp⟩
  | false =>
    rw [hquiet] at hentry hrest'
    have hcongr := fun {e : EntrySlot} {w : Claim} => Granted.congr (u := u) hentry (e := e) (w := w)
    simp only [State.noticeUnless, Bool.false_eq_true, if_false] at hentry hrest' hcongr ⊢
    have hopen' : (m.req w₀.requester).isSome := by
      obtain ⟨n, hn⟩ := hreq w₀.requester
      rw [hn]; simpa using hopen
    have hnotices := m.notices_queueNotice w₀.requester e₀ (.granted w₀.mode w₀.setId)
    have hgen' := fun e => (m.generation_queueNotice w₀.requester e₀ (.granted w₀.mode w₀.setId) e).trans (hgen e)
    have htell : Tellable quiet e₀ w₀ := ⟨hfirst, hquiet⟩
    have hreqs : ∀ r, ∃ n, (m.queueNotice w₀.requester e₀ (.granted w₀.mode w₀.setId)).req r = (u.req r).map fun q =>
        { q with
          holdCount := q.holdCount + n
          waitCount := q.waitCount - n
          overrun := q.overrun || decide (w₀.requester = r ∧ Config.noticeCapacity ≤ (m.noticeQueue w₀.requester).length) } :=
      fun r => by
        obtain ⟨n, hn⟩ := hreq r
        exact ⟨n, by rw [State.req_queueNotice, hn, Option.map_map]; rfl⟩
    generalize m.queueNotice w₀.requester e₀ (.granted w₀.mode w₀.setId) = t at *
    by_cases hroom : (m.noticeQueue w₀.requester).length < Config.noticeCapacity
    · rw [if_pos ⟨hopen', hroom⟩, hnot] at hnotices
      have hnew := newNotices_of_append hnotices
      have hfull : ¬ Config.noticeCapacity ≤ (m.noticeQueue w₀.requester).length := by omega
      refine ⟨hgen', fun e => by rw [hentry, hlive], fun e en en' hu ht => hentries e en en' hu (hentry e ▸ ht),
        fun e w e' w' hw hw' hn hid => hcongr.mpr (hwhole e w e' w' (hcongr.mp hw) hw' hn hid), fun r => ?_, fun e w hw ht => ?_,
        ⟨_, hnotices, by simp, fun n hn => ?_⟩, hrest'⟩
      · obtain ⟨n, hn⟩ := hreqs r
        cases hq : u.req r with
        | none => exact ⟨0, 0, false, by rw [hn, hq]; rfl, by simp⟩
        | some q => exact ⟨q.holdCount + n, q.waitCount - n, false, by rw [hn, hq]; simp [hfull], by simp⟩
      · obtain ⟨rfl, rfl⟩ := hone e w (hcongr.mp hw) ht.1
        refine .inl ⟨_, hnew ▸ List.mem_singleton_self _, rfl, rfl, hgen _, rfl⟩
      · obtain rfl := List.mem_singleton.mp hn
        exact ⟨hgen e₀, w₀, hcongr.mpr hgranted, rfl, rfl, htell⟩
    · rw [if_neg fun hc => hroom hc.2, hnot, List.append_nil] at hnotices
      have hnew : newNotices u t = [] := newNotices_of_append (by rw [hnotices, List.append_nil])
      have hqueue : t.noticeQueue = m.noticeQueue := by
        funext r; unfold State.noticeQueue; rw [hnotices, hnot]
      have hfull : Config.noticeCapacity ≤ (m.noticeQueue w₀.requester).length := by omega
      refine ⟨hgen', fun e => by rw [hentry, hlive], fun e en en' hu ht => hentries e en en' hu (hentry e ▸ ht),
        fun e w e' w' hw hw' hn hid => hcongr.mpr (hwhole e w e' w' (hcongr.mp hw) hw' hn hid), fun r => ?_, fun e w hw ht => ?_,
        ⟨[], by simp [hnotices], by simp, by simp⟩, hrest'⟩
      · obtain ⟨n, hn⟩ := hreqs r
        cases hq : u.req r with
        | none => exact ⟨0, 0, false, by rw [hn, hq]; rfl, by simp⟩
        | some q =>
          refine ⟨q.holdCount + n, q.waitCount - n, decide (w₀.requester = r), by rw [hn, hq]; simp [hfull], fun hr => ?_⟩
          obtain rfl := of_decide_eq_true hr
          exact ⟨hqueue ▸ hfull, e₀, w₀, hcongr.mpr hgranted, rfl, htell, by simp [hnew]⟩
      · obtain ⟨rfl, rfl⟩ := hone e w (hcongr.mp hw) ht.1
        obtain ⟨n, hn⟩ := hreqs w.requester
        obtain ⟨q, hq⟩ := Option.isSome_iff_exists.mp hopen
        exact .inr ⟨hqueue ▸ hfull, _, by rw [hn, hq]; rfl, by simp [hfull]⟩

theorem Quiet.covers_single {q : Quiet} {e : EntrySlot} {c : Claim} (hid : c.setId = none) :
    q.covers e c = decide (q = .single c.requester e) := by
  cases q with
  | loud => simp [Quiet.covers]
  | single r e' => simp [Quiet.covers, hid, eq_comm, Bool.decide_and]
  | set r id => simp [Quiet.covers, Claim.inSet, hid]

theorem Quiet.covers_set {q : Quiet} {e : EntrySlot} {c : Claim} {r : ReqSlot} {id : Word16} (hin : c.inSet r id = true) :
    q.covers e c = decide (q = .set r id) := by
  simp only [Claim.inSet, Bool.and_eq_true, decide_eq_true_eq] at hin
  obtain ⟨rfl, hid⟩ := hin
  cases q with
  | loud => simp [Quiet.covers]
  | single r e' => simp [Quiet.covers, hid]
  | set r id' => simp [Quiet.covers, Claim.inSet, hid, eq_comm, Bool.decide_and]

/-- The state in which a pass on an entry runs: the table is legal but for the state of that entry, and no slot is due to be freed. -/
structure State.Passing (s : State) (e : EntrySlot) : Prop where
  off : s.LegalOff {e}
  table : s.TableLegal
  kept : s.Kept

theorem Passed.grantHead {s : State} {e : EntrySlot} (h : s.Passing e) (quiet : Quiet) {en : Entry} {c : Claim}
    (hen : s.entry e = some en) (hq : en.queue.head? = some c) (hid : c.setId = none) : Passed quiet s (s.grantHead quiet e c) := by
  have hentry := s.entry_headMoved e c
  have hgrant := State.headGrant_headMoved hen hq
  have hlive : ∀ x, ((s.headMoved e c).entry x).isSome = (s.entry x).isSome := fun x => by
    rw [hentry]; split
    · next hx => subst hx; simp
    · rfl
  have hnodup := h.off.sound.nodup_queue e
  rw [hgrant.queue, List.map_cons, List.nodup_cons] at hnodup
  have hgranted : ∀ x w, Granted s (s.headMoved e c) x w ↔ x = e ∧ w = c := fun x w => by
    rw [granted_iff hlive]
    by_cases hx : x = e
    · subst hx
      rw [hgrant.queue, List.mem_cons]
      constructor
      · rintro ⟨rfl | hw, hn⟩
        · exact ⟨rfl, rfl⟩
        · exact absurd hw hn
      · rintro ⟨-, rfl⟩
        exact ⟨.inl rfl, fun hm => hnodup.1 (List.mem_map_of_mem hm)⟩
    · have hsame : (s.headMoved e c).queueAt x = s.queueAt x :=
        State.queueAt_congr (by rw [hentry, if_neg (Ne.symm hx)])
      rw [hsame]
      simp [hx]
  rw [State.grantHead_eq, ← Quiet.covers_single hid, ← hid]
  refine Passed.grant (fun x => ?_) hlive (fun x en₁ en' hu hm => ?_) (fun x w _ _ hw _ hn => ?_) (fun r => ?_) ?_ ?_
    ((hgranted e c).mpr ⟨rfl, rfl⟩) (.inl hid) (fun x w hw _ => (hgranted x w).mp hw) ?_
  · simp [State.headMoved, State.addCounts, State.subCounts]
  · rw [hentry] at hm
    split at hm
    · next hx =>
      subst hx
      obtain rfl : en = en₁ := Option.some.inj (hen.symm.trans hu)
      rw [hen, Option.map_some, Option.some.injEq] at hm
      subst hm
      exact (h.off e en hen).1.advanced_headGranted hq
    · rw [hu, Option.some.injEq] at hm
      exact hm ▸ .refl en₁
  · obtain ⟨-, rfl⟩ := (hgranted x w).mp hw
    exact absurd hid hn
  · rw [State.req_headMoved]
    split
    · next hr => subst hr; exact ⟨1, rfl⟩
    · refine ⟨0, ?_⟩
      cases s.req r <;> rfl
  · simp [State.headMoved, State.addCounts, State.subCounts]
  · unfold State.headMoved State.addCounts State.subCounts
    exact ((State.OnlyClaims.modifyEntry s e _).trans (.modifyReq _ _ _)).trans (.modifyReq _ _ _)
  · refine h.table.owned e c (List.mem_append_right _ ?_)
    rw [hgrant.queue]
    exact List.mem_cons_self

/-- The first member of a set is the slot of its marked record. -/
theorem State.firstMember_eq_some {s : State} {r : ReqSlot} {id : Word16} {e : EntrySlot} {m : Mode}
    (h : s.firstMember r id = some (e, m)) : ∃ c ∈ s.queueAt e, c.inSet r id = true ∧ c.firstMember = true ∧ c.mode = m := by
  obtain ⟨e', -, he'⟩ := List.exists_of_findSome?_eq_some h
  cases hen : s.entry e' with
  | none => simp [hen] at he'
  | some en =>
    simp only [hen, Option.map_eq_some_iff, Prod.mk.injEq] at he'
    obtain ⟨c, hc, rfl, rfl⟩ := he'
    have hp := List.find?_some hc
    simp only [Bool.and_eq_true] at hp
    exact ⟨c, State.mem_queueAt.mpr ⟨en, hen, List.mem_of_find?_eq_some hc⟩, hp.1, hp.2, rfl⟩

theorem State.firstMember_isSome {s : State} {r : ReqSlot} {id : Word16} {e : EntrySlot} {c : Claim} (hc : c ∈ s.queueAt e)
    (hin : c.inSet r id = true) (hf : c.firstMember = true) : ∃ e' m, s.firstMember r id = some (e', m) := by
  obtain ⟨en, hen, hc⟩ := State.mem_queueAt.mp hc
  have hsome : (s.firstMember r id).isSome := by
    unfold State.firstMember
    rw [List.findSome?_isSome_iff]
    refine ⟨e, List.mem_finRange e, ?_⟩
    simp only [hen, Option.isSome_map, List.find?_isSome]
    exact ⟨c, hc, by simp [hin, hf]⟩
  obtain ⟨⟨e', m⟩, h⟩ := Option.isSome_iff_exists.mp hsome
  exact ⟨e', m, h⟩

theorem State.Kept.congr {s t : State} (h : s.Kept) (he : ∀ e, t.entry e = s.entry e) : t.Kept :=
  fun e en hen => h e en (by rw [← he]; exact hen)

theorem State.Kept.grantMembers {s : State} (h : s.Kept) (r : ReqSlot) (id : Word16) (l : List EntrySlot) :
    (l.foldl (fun s e => s.grantMember r id e) s).Kept := by
  induction l generalizing s with
  | nil => exact h
  | cons e l ih =>
    refine ih (h.modifyEntry fun en hk => ?_)
    cases en.setRecord r id with
    | none => exact hk
    | some c =>
      intro _
      exact List.ne_nil_of_mem ((insertHolder_perm _ _).mem_iff.mpr List.mem_cons_self)

/-- The grant of a set writes slots and requester records alone. -/
theorem State.setMoved_frame {s : State} (h : s.Kept) (r : ReqSlot) (id : Word16) :
    (∀ e, (s.setMoved r id).generation e = s.generation e) ∧ (s.setMoved r id).notices = s.notices ∧
      s.OnlyClaims (s.setMoved r id) := by
  have hfold : s.OnlyClaims ((s.setMembers r id).foldl (fun s e => s.grantMember r id e) s) := .foldl_modifyEntry s _ _
  have hgen : ∀ e, ((s.setMembers r id).foldl (fun s e => s.grantMember r id e) s).generation e = s.generation e :=
    s.generation_foldl_modifyEntry _ _
  have hkept : ((((s.setMembers r id).foldl (fun s e => s.grantMember r id e) s).subCounts r 0
      (s.setMembers r id).length).addCounts r (s.setMembers r id).length 0).Kept :=
    (h.grantMembers r id (s.setMembers r id)).congr fun e => by simp [State.addCounts, State.subCounts]
  have hnot : ∀ (u : State) (l : List EntrySlot) (f : Entry → Entry), (l.foldl (fun s e => s.modifyEntry e f) u).notices = u.notices :=
    fun u l f => by
      induction l generalizing u with
      | nil => rfl
      | cons e l ih => rw [List.foldl_cons, ih, State.modifyEntry_notices]
  have hmem : ((s.setMembers r id).foldl (fun s e => s.grantMember r id e) s).notices = s.notices := hnot s _ _
  unfold State.setMoved
  rw [hkept.recomputeAll_eq]
  refine ⟨fun e => ?_, ?_, ?_⟩
  · rw [State.generation_foldl_modifyEntry]
    simpa [State.addCounts, State.subCounts] using hgen e
  · rw [hnot]
    simpa [State.addCounts, State.subCounts] using hmem
  · exact ((hfold.trans (.modifyReq _ _ _)).trans (.modifyReq _ _ _)).trans (.foldl_modifyEntry _ _ _)

theorem Passed.grantSet {s : State} {e : EntrySlot} (h : s.Passing e) (quiet : Quiet) {r : ReqSlot} {id : Word16}
    (hg : s.grantable r id = true) {e₁ : EntrySlot} {c₁ : Claim} (hc₁ : c₁ ∈ s.queueAt e₁) (hin₁ : c₁.inSet r id = true) :
    Passed quiet s (s.grantSet quiet r id) := by
  have hfind := fun x (hx : x ∈ s.setMembers r id) => h.off.setMoved_grant hg hx
  have hentry := s.entry_setMoved r id
  have hlive : ∀ x, ((s.setMoved r id).entry x).isSome = (s.entry x).isSome := fun x => by
    by_cases hx : x ∈ s.setMembers r id
    · obtain ⟨en, c, hen, -, -, -, ht⟩ := hfind x hx
      rw [ht, hen]; rfl
    · rw [hentry, if_neg hx]
  have hgranted : ∀ x w, Granted s (s.setMoved r id) x w ↔ w ∈ s.queueAt x ∧ w.inSet r id = true := fun x w => by
    rw [granted_iff hlive]
    by_cases hx : x ∈ s.setMembers r id
    · obtain ⟨en, c, hen, hq, hin, -, ht⟩ := hfind x hx
      have hgrant : HeadGrant s (s.setMoved r id) x c :=
        .of_headGranted hen hq ((State.holdersAt_of_entry ht).trans rfl) ((State.queueAt_of_entry ht).trans rfl)
      have hnodup := h.off.sound.nodup_queue x
      rw [hgrant.queue, List.map_cons, List.nodup_cons] at hnodup
      rw [hgrant.queue, List.mem_cons]
      refine ⟨?_, ?_⟩
      · rintro ⟨rfl | hw, hn⟩
        · exact ⟨.inl rfl, hin⟩
        · exact absurd hw hn
      · rintro ⟨rfl | hw, hwin⟩
        · exact ⟨.inl rfl, fun hm => hnodup.1 (List.mem_map_of_mem hm)⟩
        · simp only [Claim.inSet, Bool.and_eq_true, decide_eq_true_eq] at hin hwin
          exact absurd (List.mem_map.mpr ⟨w, hw, hwin.1.trans hin.1.symm⟩) hnodup.1
    · have hsame : (s.setMoved r id).queueAt x = s.queueAt x := State.queueAt_congr (by rw [hentry, if_neg hx])
      rw [hsame]
      exact ⟨fun hw => absurd hw.1 hw.2, fun hw => absurd (State.mem_setMembers_iff.mpr ⟨w, hw.1, hw.2⟩) hx⟩
  have hset₁ : c₁.setId ≠ none := by
    simp only [Claim.inSet, Bool.and_eq_true, decide_eq_true_eq] at hin₁
    simp [hin₁.2]
  obtain ⟨e₂, c₂, hc₂, hid₂, hf₂⟩ := h.table.sets.marked e₁ c₁ hc₁ hset₁
  have hin₂ := h.table.sets.inSet hc₁ hc₂ hin₁ hid₂
  obtain ⟨e₀, m₀, hfirst⟩ := State.firstMember_isSome hc₂ hin₂ hf₂
  obtain ⟨c₀, hc₀, hin₀, hf₀, rfl⟩ := State.firstMember_eq_some hfirst
  obtain ⟨hgen, hnot, hrest⟩ := State.setMoved_frame h.kept r id
  obtain ⟨hr₀, hid₀⟩ : c₀.requester = r ∧ c₀.setId = some id := by
    simpa only [Claim.inSet, Bool.and_eq_true, decide_eq_true_eq] using hin₀
  rw [State.grantSet_eq s quiet r id hfirst, ← Quiet.covers_set hin₀ (e := e₀), ← hid₀]
  rw [← hr₀] at hgranted hlive hgen hnot hrest hentry ⊢
  refine Passed.grant hgen hlive (fun x en en' hu hm => ?_) (fun x w x' w' hw hw' hn hid => ?_) (fun r' => ?_) hnot hrest
    ((hgranted e₀ c₀).mpr ⟨hc₀, hr₀ ▸ hin₀⟩) (.inr hf₀) (fun x w hw hfw => ?_) ?_
  · by_cases hx : x ∈ s.setMembers r id
    · obtain ⟨en₂, c, hen, hq, -, -, ht⟩ := hfind x hx
      obtain rfl : en₂ = en := Option.some.inj (hen.symm.trans hu)
      rw [hr₀, ht, Option.some.injEq] at hm
      subst hm
      obtain ⟨hsound, hdrained, -⟩ := h.off x en₂ hen
      have hne : (en₂.headGranted c).state ≠ .retiring := hdrained.ne_retiring fun hnil => by simp [hnil] at hq
      have hsettle := Entry.Advanced.settle (en₂.headGranted c)
      rw [Entry.settle, if_neg hne] at hsettle
      exact (hsound.advanced_headGranted hq).trans hsettle
    · rw [hentry, hr₀, if_neg hx, hu, Option.some.injEq] at hm
      exact hm ▸ .refl en
  · obtain ⟨hw, hin⟩ := (hgranted x w).mp hw
    exact (hgranted x' w').mpr ⟨hw', h.table.sets.inSet hw hw' hin hid⟩
  · rw [State.req_setMoved]
    split
    · next hr => subst hr; exact ⟨_, rfl⟩
    · refine ⟨0, ?_⟩
      cases s.req r' <;> rfl
  · obtain ⟨hw, hin⟩ := (hgranted x w).mp hw
    have hwid : w.setId = c₀.setId := by
      simp only [Claim.inSet, Bool.and_eq_true, decide_eq_true_eq] at hin
      exact hin.2.trans hid₀.symm
    obtain hnone | hfw := hfw
    · simp [hwid, hid₀] at hnone
    · exact h.table.sets.unique e₀ x c₀ w hc₀ hw (by simp [hid₀]) hwid hf₀ hfw
  · exact h.table.owned e₀ c₀ (List.mem_append_right _ hc₀)

end Sys2Proof.Machine
end

section
/-! The turns of an admission pass and the run of the pass list until it is empty (R34 to R38, R58 to R61). -/

namespace Sys2Proof.Machine

/-! ### The fuel of the passes -/

/-- The number of waiting records. -/
def State.waits (s : State) : Nat := ∑ e, (s.queueAt e).length

theorem State.slots_toList (s : State) : s.slots.toList = (List.finRange 256).map fun e => s.slots[e.val] := by
  apply List.ext_getElem
  · simp
  · intro i h₁ h₂
    simp

theorem State.waiting_eq (s : State) : s.waiting = s.waits := by
  unfold State.waiting State.waits
  rw [State.slots_toList, List.map_map, Fin.sum_univ_def]
  congr 1
  refine List.map_congr_left fun e _ => ?_
  unfold State.queueAt State.entry
  simp only [Function.comp_apply]
  cases (s.slots[e.val]).live <;> rfl

theorem Passed.waits_le {quiet : Quiet} {u t : State} (h : Passed quiet u t) : t.waits ≤ u.waits :=
  Finset.sum_le_sum fun e _ => (h.queueAt e).length_le

theorem Passed.waits_lt {quiet : Quiet} {u t : State} (h : Passed quiet u t) {e : EntrySlot} {w : Claim} (hw : w ∈ u.queueAt e)
    (hn : w ∉ t.queueAt e) : t.waits < u.waits := by
  refine Finset.sum_lt_sum (fun e _ => (h.queueAt e).length_le) ⟨e, Finset.mem_univ e, ?_⟩
  refine lt_of_le_of_ne (h.queueAt e).length_le fun heq => hn ?_
  rwa [(h.queueAt e).eq_of_length heq]

/-! ### Blocked heads -/

theorem State.blocked_iff {s : State} {e : EntrySlot} : s.blocked e ↔ ∀ en c, s.entry e = some en → en.queue.head? = some c →
    (c.setId = none → en.fits c.mode = false) ∧ ∀ id, c.setId = some id → s.grantable c.requester id = false := by
  constructor
  · intro h en c hen hc
    have := h en hen c hc
    cases hid : c.setId with
    | none => exact ⟨fun _ => by simpa [hid] using this, by simp⟩
    | some id => exact ⟨by simp, fun id' hid' => by cases hid'; simpa [hid] using this⟩
  · intro h en hen c hc
    obtain ⟨hsingle, hset⟩ := h en c hen hc
    cases hid : c.setId with
    | none => exact hsingle hid
    | some id => exact hset id hid

/-- A head that is a member of a grantable set fits its entry. -/
theorem State.fits_of_grantable {s : State} {e : EntrySlot} {en : Entry} {c : Claim} {id : Word16} (hen : s.entry e = some en)
    (hc : en.queue.head? = some c) (hid : c.setId = some id) (hg : s.grantable c.requester id = true) : en.fits c.mode = true := by
  have hmem : e ∈ s.setMembers c.requester id :=
    State.mem_setMembers.mpr ⟨en, hen, c, List.mem_of_mem_head? hc, by simp [Claim.inSet, hid]⟩
  obtain ⟨en', hen', c', hc', -, hf⟩ := State.grantable_iff.mp hg e hmem
  obtain rfl : en = en' := Option.some.inj (hen.symm.trans hen')
  obtain rfl : c = c' := Option.some.inj (hc.symm.trans hc')
  exact hf

/-- Nothing fits beside an exclusive holder. -/
theorem State.blocked_of_exclusive {s : State} {e : EntrySlot} {en : Entry} (hen : s.entry e = some en)
    (hx : ∃ c ∈ en.holders, c.mode = .exclusive) : s.blocked e := by
  have hfits : ∀ m, en.fits m = false := fun m => by
    by_contra hf
    obtain ⟨c, hc, hm⟩ := hx
    obtain hnil | ⟨-, hall, -⟩ := Entry.fits_iff.mp (by simpa using hf)
    · simp [hnil] at hc
    · simp [hall c hc] at hm
  rw [State.blocked_iff]
  intro en' c hen' hc
  obtain rfl : en = en' := Option.some.inj (hen.symm.trans hen')
  refine ⟨fun _ => hfits _, fun id hid => ?_⟩
  by_contra hg
  have hf := State.fits_of_grantable hen hc hid (by simpa using hg)
  simp [hfits] at hf

theorem State.blocked_of_queue_nil {s : State} {e : EntrySlot} (h : s.queueAt e = []) : s.blocked e := by
  rw [State.blocked_iff]
  intro en c hen hc
  rw [State.queueAt_of_entry hen] at h
  simp [h] at hc

/-! ### The turns of one pass -/

/-- What the turns of a pass on e do, with the pass list before and after them. -/
structure TurnsRan (quiet : Quiet) (e : EntrySlot) (s : State) (list : List EntrySlot) (t : State) (list' : List EntrySlot) : Prop where
  passed : Passed quiet s t
  passing : t.Passing e
  kept : ∀ x ∈ list, x ∈ list'
  changed : ∀ x, x ≠ e → x ∉ list' → t.entry x = s.entry x
  fuel : list'.length + 256 * t.waits ≤ list.length + 256 * s.waits

theorem TurnsRan.refl {quiet : Quiet} {e : EntrySlot} {s : State} (h : s.Passing e) (list : List EntrySlot) :
    TurnsRan quiet e s list s list :=
  ⟨.refl quiet s, h, fun _ hx => hx, fun _ _ _ => rfl, le_refl _⟩

theorem TurnsRan.trans {quiet : Quiet} {e : EntrySlot} {s t u : State} {list list' list'' : List EntrySlot} (hs : s.Passing e)
    (h : TurnsRan quiet e s list t list') (g : TurnsRan quiet e t list' u list'') : TurnsRan quiet e s list u list'' where
  passed := h.passed.trans hs.off.sound g.passed
  passing := g.passing
  kept x hx := g.kept x (h.kept x hx)
  changed x hne hn := (g.changed x hne hn).trans (h.changed x hne fun hm => hn (g.kept x hm))
  fuel := g.fuel.trans h.fuel

theorem TurnsRan.grantHead {quiet : Quiet} {e : EntrySlot} {s : State} (h : s.Passing e) {en : Entry} {c : Claim}
    (hen : s.entry e = some en) (hq : en.queue.head? = some c) (hid : c.setId = none) (hf : en.fits c.mode = true)
    (list : List EntrySlot) : TurnsRan quiet e s list (s.grantHead quiet e c) list := by
  have hpassed := Passed.grantHead h quiet hen hq hid
  refine ⟨hpassed, ⟨h.off.grantHead (Set.mem_singleton e) quiet hen hq hf, h.table.grantHead quiet hen hq hid,
    hpassed.kept h.kept⟩, fun _ hx => hx, fun x hne _ => ?_, ?_⟩
  · rw [State.entry_grantHead, if_neg (Ne.symm hne)]
  · have := hpassed.waits_le
    omega

theorem State.length_setMembers_le (s : State) (r : ReqSlot) (id : Word16) : (s.setMembers r id).length ≤ 256 := by
  have := List.length_filter_le (p := fun e =>
    match s.entry e with | some en => en.queue.any fun c => c.inSet r id | none => false) (l := List.finRange 256)
  rw [List.length_finRange] at this
  exact this

theorem TurnsRan.grantSet {quiet : Quiet} {e : EntrySlot} {s : State} (h : s.Passing e) {en : Entry} {c : Claim} {id : Word16}
    (hen : s.entry e = some en) (hq : en.queue.head? = some c) (hid : c.setId = some id)
    (hg : s.grantable c.requester id = true) (list : List EntrySlot) :
    TurnsRan quiet e s list (s.grantSet quiet c.requester id) (appendMembers list e (s.setMembers c.requester id)) := by
  have hc : c ∈ s.queueAt e := State.mem_queueAt.mpr ⟨en, hen, List.mem_of_mem_head? hq⟩
  have hin : c.inSet c.requester id = true := by simp [Claim.inSet, hid]
  have hmem : e ∈ s.setMembers c.requester id := State.mem_setMembers_iff.mpr ⟨c, hc, hin⟩
  have hpassed := Passed.grantSet h quiet hg hc hin
  have hentry := s.entry_grantSet quiet c.requester id
  refine ⟨hpassed, ⟨h.off.grantSet quiet hg, h.table.grantSet h.off quiet hg, hpassed.kept h.kept⟩,
    fun x hx => List.mem_append_left _ hx, fun x hne hn => ?_, ?_⟩
  · rw [hentry, if_neg]
    intro hx
    refine hn ?_
    unfold appendMembers
    by_cases hl : x ∈ list
    · exact List.mem_append_left _ hl
    · exact List.mem_append_right _ (List.mem_filter.mpr ⟨hx, by simp [hne, hl]⟩)
  · have hgone : c ∉ (s.grantSet quiet c.requester id).queueAt e := by
      obtain ⟨en', c', hen', hq', -, -, ht⟩ := h.off.setMoved_grant hg hmem
      obtain rfl : en = en' := Option.some.inj (hen.symm.trans hen')
      have htail : (s.grantSet quiet c.requester id).queueAt e = en.queue.tail := by
        have : (s.grantSet quiet c.requester id).entry e = (s.setMoved c.requester id).entry e := by
          rw [hentry, State.entry_setMoved]
        rw [State.queueAt_congr this, State.queueAt_of_entry ht]
        rfl
      have hcons : en.queue = c :: en.queue.tail := List.eq_cons_of_mem_head? hq
      rw [htail]
      intro hm
      exact Entry.claimed_eq_false.mp ((h.off.sound e en hen).tail_unclaimed hcons) c (List.mem_append_right _ hm) rfl
    have hlt := hpassed.waits_lt hc hgone
    have hlen := (List.length_filter_le (fun m => m ≠ e && !list.contains m) (s.setMembers c.requester id)).trans
      (s.length_setMembers_le c.requester id)
    unfold appendMembers
    rw [List.length_append]
    omega

theorem TurnsRan.passTurns {quiet : Quiet} {e : EntrySlot} (n : Nat) {s : State} (h : s.Passing e) (list : List EntrySlot) :
    TurnsRan quiet e s list (passTurns quiet e n s list).1 (passTurns quiet e n s list).2 := by
  induction n generalizing s list with
  | zero => exact .refl h list
  | succ n ih =>
    unfold Machine.passTurns
    split
    · exact .refl h list
    · next en hen =>
      split
      · exact .refl h list
      · next c hc =>
        split
        · next hid =>
          split
          · next hf =>
            have hgrant := TurnsRan.grantHead (quiet := quiet) h hen hc hid hf list
            dsimp only
            split
            · exact hgrant
            · exact hgrant.trans h (ih hgrant.passing _)
          · exact .refl h list
        · next id hid =>
          split
          · next hg =>
            have hgrant := TurnsRan.grantSet (quiet := quiet) h hen hc hid hg list
            dsimp only
            split
            · exact hgrant
            · exact hgrant.trans h (ih hgrant.passing _)
          · exact .refl h list

/-- After the grant of the head with its mode exclusive an exclusive holder stands on the entry. -/
theorem Passed.exclusive_of_granted {quiet : Quiet} {s t : State} (h : Passed quiet s t) {e : EntrySlot} {c : Claim}
    (hg : Granted s t e c) (hm : c.mode = .exclusive) : t.blocked e := by
  obtain ⟨en, en', hen, hen', hc, hn⟩ := hg
  exact State.blocked_of_exclusive hen' ⟨_, ((h.entries e en en' hen hen').holders _).mpr (.inr ⟨c, hc, hn, rfl⟩), hm⟩

theorem State.grantHead_granted {s : State} {e : EntrySlot} (h : s.Passing e) (quiet : Quiet) {en : Entry} {c : Claim}
    (hen : s.entry e = some en) (hq : en.queue.head? = some c) :
    Granted s (s.grantHead quiet e c) e c ∧ (s.grantHead quiet e c).queueAt e = en.queue.tail := by
  have hentry : (s.grantHead quiet e c).entry e = some (en.headGranted c) := by
    rw [State.entry_grantHead, if_pos rfl, hen]; rfl
  have hcons : en.queue = c :: en.queue.tail := List.eq_cons_of_mem_head? hq
  refine ⟨⟨en, _, hen, hentry, List.mem_of_mem_head? hq, fun hm => ?_⟩, (State.queueAt_of_entry hentry).trans rfl⟩
  exact Entry.claimed_eq_false.mp ((h.off.sound e en hen).tail_unclaimed hcons) c (List.mem_append_right _ hm) rfl

theorem State.grantSet_granted {s : State} {e : EntrySlot} (h : s.Passing e) (quiet : Quiet) {en : Entry} {c : Claim} {id : Word16}
    (hen : s.entry e = some en) (hq : en.queue.head? = some c) (hid : c.setId = some id)
    (hg : s.grantable c.requester id = true) :
    Granted s (s.grantSet quiet c.requester id) e c ∧ (s.grantSet quiet c.requester id).queueAt e = en.queue.tail := by
  have hmem : e ∈ s.setMembers c.requester id :=
    State.mem_setMembers.mpr ⟨en, hen, c, List.mem_of_mem_head? hq, by simp [Claim.inSet, hid]⟩
  obtain ⟨en', c', hen', hq', -, -, ht⟩ := h.off.setMoved_grant hg hmem
  obtain rfl : en = en' := Option.some.inj (hen.symm.trans hen')
  rw [State.entry_setMoved, ← State.entry_grantSet s quiet] at ht
  have hcons : en.queue = c :: en.queue.tail := List.eq_cons_of_mem_head? hq
  refine ⟨⟨en, _, hen, ht, List.mem_of_mem_head? hq, fun hm => ?_⟩, (State.queueAt_of_entry ht).trans rfl⟩
  exact Entry.claimed_eq_false.mp ((h.off.sound e en hen).tail_unclaimed hcons) c (List.mem_append_right _ hm) rfl

/-- With fuel for the whole queue the turns leave a head that cannot be granted, or none (R35). -/
theorem State.blocked_passTurns {quiet : Quiet} {e : EntrySlot} (n : Nat) {s : State} (h : s.Passing e) (list : List EntrySlot)
    (hn : (s.queueAt e).length ≤ n) : (passTurns quiet e n s list).1.blocked e := by
  induction n generalizing s list with
  | zero =>
    have hnil : s.queueAt e = [] := List.eq_nil_of_length_eq_zero (by omega)
    exact State.blocked_of_queue_nil hnil
  | succ n ih =>
    unfold Machine.passTurns
    split
    · next hnone => exact State.blocked_of_queue_nil (by simp [State.queueAt, hnone])
    · next en hen =>
      rw [State.queueAt_of_entry hen] at hn
      split
      · next hnil => exact State.blocked_of_queue_nil (by rw [State.queueAt_of_entry hen]; simpa using hnil)
      · next c hc =>
        split
        · next hid =>
          split
          · next hf =>
            have hgrant := TurnsRan.grantHead (quiet := quiet) h hen hc hid hf list
            obtain ⟨hgranted, htail⟩ := State.grantHead_granted h quiet hen hc
            dsimp only
            split
            · next hm => exact hgrant.passed.exclusive_of_granted hgranted hm
            · refine ih hgrant.passing _ ?_
              rw [htail, List.length_tail]
              omega
          · next hf =>
            rw [State.blocked_iff]
            intro en' c' hen' hc'
            obtain rfl : en = en' := Option.some.inj (hen.symm.trans hen')
            obtain rfl : c = c' := Option.some.inj (hc.symm.trans hc')
            exact ⟨fun _ => by simpa using hf, fun id hid' => by simp [hid] at hid'⟩
        · next id hid =>
          split
          · next hg =>
            have hgrant := TurnsRan.grantSet (quiet := quiet) h hen hc hid hg list
            obtain ⟨hgranted, htail⟩ := State.grantSet_granted h quiet hen hc hid hg
            dsimp only
            split
            · next hm => exact hgrant.passed.exclusive_of_granted hgranted hm
            · refine ih hgrant.passing _ ?_
              rw [htail, List.length_tail]
              omega
          · next hg =>
            rw [State.blocked_iff]
            intro en' c' hen' hc'
            obtain rfl : en = en' := Option.some.inj (hen.symm.trans hen')
            obtain rfl : c = c' := Option.some.inj (hc.symm.trans hc')
            refine ⟨fun hn => by simp [hid] at hn, fun id' hid' => ?_⟩
            rw [hid, Option.some.injEq] at hid'
            subst hid'
            simpa using hg

end Sys2Proof.Machine
end

section
/-! The run of the pass list until it is empty, and O32: what the admission passes of an event do (R34 to R38, R58 to R61). -/

namespace Sys2Proof.Machine

/-! ### What a blocked head depends on -/

/-- What the admission of a record reads of it. -/
def Claim.key (c : Claim) : ReqSlot × Mode × Option Word16 := (c.requester, c.mode, c.setId)

/-- What the admission of a head reads of an entry. -/
def Entry.front (en : Entry) : List Mode × List (ReqSlot × Mode × Option Word16) × Nat :=
  (en.holders.map Claim.mode, en.queue.map Claim.key, en.shareLimit)

theorem Entry.fits_of_front {en en' : Entry} (h : en'.front = en.front) (m : Mode) : en'.fits m = en.fits m := by
  simp only [Entry.front, Prod.mk.injEq] at h
  obtain ⟨hmodes, -, hshare⟩ := h
  have hlen : en'.holders.length = en.holders.length := by simpa using congrArg List.length hmodes
  have hempty : en'.holders.isEmpty = en.holders.isEmpty := by
    rw [Bool.eq_iff_iff, List.isEmpty_iff_length_eq_zero, List.isEmpty_iff_length_eq_zero, hlen]
  have hall : ∀ l : List Claim, (l.all fun c => c.mode = .shared) = (l.map Claim.mode).all fun m => m = .shared := fun l => by
    rw [List.all_map]; rfl
  cases m with
  | exclusive => exact hempty
  | shared => simp only [Entry.fits, hempty, hall, hmodes, hlen, hshare]

theorem Claim.inSet_of_key {c c' : Claim} (h : c'.key = c.key) (r : ReqSlot) (id : Word16) : c'.inSet r id = c.inSet r id := by
  simp only [Claim.key, Prod.mk.injEq] at h
  obtain ⟨hr, -, hid⟩ := h
  simp only [Claim.inSet, hr, hid]

theorem Entry.head_of_front {en en' : Entry} (h : en'.front = en.front) {c : Claim} (hc : en.queue.head? = some c) :
    ∃ c', en'.queue.head? = some c' ∧ c'.key = c.key := by
  simp only [Entry.front, Prod.mk.injEq] at h
  have hh := congrArg List.head? h.2.1
  rw [List.head?_map, List.head?_map, hc, Option.map_some] at hh
  exact Option.map_eq_some_iff.mp hh

theorem Entry.mem_of_front {en en' : Entry} (h : en'.front = en.front) {c : Claim} (hc : c ∈ en.queue) :
    ∃ c' ∈ en'.queue, c'.key = c.key := by
  simp only [Entry.front, Prod.mk.injEq] at h
  have hm : c.key ∈ en'.queue.map Claim.key := h.2.1 ▸ List.mem_map_of_mem hc
  exact List.mem_map.mp hm

theorem State.grantable_of_front {s t : State} (h : ∀ e, (t.entry e).map Entry.front = (s.entry e).map Entry.front) {r : ReqSlot}
    {id : Word16} (hg : t.grantable r id = true) : s.grantable r id = true := by
  rw [State.grantable_iff]
  intro e he
  obtain ⟨en, hen, c, hc, hin⟩ := State.mem_setMembers.mp he
  have hf := h e
  rw [hen, Option.map_some] at hf
  obtain ⟨en', hen', hfront⟩ := Option.map_eq_some_iff.mp hf
  obtain ⟨c', hc', hkey⟩ := Entry.mem_of_front hfront hc
  have hmem : e ∈ t.setMembers r id := State.mem_setMembers.mpr ⟨en', hen', c', hc', by rw [Claim.inSet_of_key hkey, hin]⟩
  obtain ⟨en'', hen'', d', hd', hin', hfit⟩ := State.grantable_iff.mp hg e hmem
  obtain rfl : en' = en'' := Option.some.inj (hen'.symm.trans hen'')
  obtain ⟨d, hd, hkey'⟩ := Entry.head_of_front hfront.symm hd'
  refine ⟨en, hen, d, hd, by rw [Claim.inSet_of_key hkey', hin'], ?_⟩
  have hmode : d.mode = d'.mode := congrArg (fun k : ReqSlot × Mode × Option Word16 => k.2.1) hkey'
  rw [hmode, ← Entry.fits_of_front hfront, hfit]

/-- A blocked head stays blocked when nothing that its admission reads has changed. -/
theorem State.blocked_of_front {s t : State} (h : ∀ e, (t.entry e).map Entry.front = (s.entry e).map Entry.front) {e : EntrySlot}
    (hb : s.blocked e) : t.blocked e := by
  rw [State.blocked_iff] at hb ⊢
  intro en' c' hen' hc'
  have hf := h e
  rw [hen', Option.map_some] at hf
  obtain ⟨en, hen, hfront⟩ := Option.map_eq_some_iff.mp hf.symm
  obtain ⟨c, hc, hkey⟩ := Entry.head_of_front hfront hc'
  obtain ⟨hsingle, hset⟩ := hb en c hen hc
  simp only [Claim.key, Prod.mk.injEq] at hkey
  obtain ⟨hr, hm, hid⟩ := hkey
  refine ⟨fun hn => ?_, fun id hi => ?_⟩
  · rw [← hm, ← Entry.fits_of_front hfront]
    exact hsingle (hid.trans hn)
  · by_contra hg
    have := State.grantable_of_front h (by simpa using hg)
    rw [← hr, hset id (hid.trans hi)] at this
    exact absurd this (by simp)

theorem Entry.front_settle (en : Entry) : en.settle.front = en.front := by
  simp only [Entry.front, Entry.settle_holders, Entry.settle_queue, Entry.settle_shareLimit]

theorem State.front_recompute {s : State} (h : s.Kept) (e e' : EntrySlot) :
    ((s.recompute e).entry e').map Entry.front = (s.entry e').map Entry.front := by
  rw [State.recompute_of_kept (h e), State.entry_modifyEntry]
  split
  · next hee =>
    subst hee
    rw [Option.map_map]
    exact congrArg (fun f => (s.entry e).map f) (funext fun en => en.front_settle)
  · rfl

/-! ### One pass -/

/-- A table that is legal, in the two parts in which it is kept. -/
structure State.Consistent (s : State) : Prop where
  entries : s.entriesLegal
  table : s.TableLegal

theorem State.consistent_iff (s : State) : s.claimsLegal ↔ s.Consistent :=
  (s.claimsLegal_iff).trans ⟨fun ⟨h, g⟩ => ⟨h, g⟩, fun ⟨h, g⟩ => ⟨h, g⟩⟩

theorem State.Consistent.sound {s : State} (h : s.Consistent) : s.Sound := State.sound_of_entriesLegal h.entries

theorem State.Consistent.passing {s : State} (h : s.Consistent) (e : EntrySlot) : s.Passing e :=
  ⟨((s.legalOff_empty).mpr h.entries).mono (Set.empty_subset _), h.table, State.kept_of_entriesLegal h.entries⟩

/-- What one pass on e does, with the pass list after e is taken off it and after the pass. -/
structure PassRan (quiet : Quiet) (e : EntrySlot) (s : State) (list : List EntrySlot) (t : State) (list' : List EntrySlot) : Prop where
  passed : Passed quiet s t
  consistent : t.Consistent
  kept : ∀ x ∈ list, x ∈ list'
  changed : ∀ x, x ≠ e → x ∉ list' → t.entry x = s.entry x
  fuel : list'.length + 256 * t.waits ≤ list.length + 256 * s.waits
  blocked : t.blocked e

theorem State.pass_ran {s : State} (h : s.Consistent) (quiet : Quiet) (e : EntrySlot) (list : List EntrySlot) :
    PassRan quiet e s list (s.pass quiet e list).1 (s.pass quiet e list).2 := by
  have hpassing := h.passing e
  have hqueue : (s.queueAt e).length ≤ (match s.entry e with | some en => en.queue.length | none => 0) := by
    unfold State.queueAt
    cases s.entry e <;> exact le_refl _
  have hturns := fun n => TurnsRan.passTurns (quiet := quiet) n hpassing list
  have hblocked := fun n hn => State.blocked_passTurns (quiet := quiet) n hpassing list hn
  unfold State.pass
  dsimp only
  generalize hn : (match s.entry e with | some en => en.queue.length | none => 0) = n at hqueue
  have hturn := hturns n
  have hhead := hblocked n hqueue
  generalize hr : passTurns quiet e n s list = r at hturn hhead
  have hgoal : PassRan quiet e s list (r.1.recompute e) r.2 := by
    have hkept := hturn.passing.kept
    have hdrained := hturn.passing.off.allDrained
    refine ⟨hturn.passed.trans h.sound (.recompute quiet hkept e), ⟨hturn.passing.off.recompute,
      hturn.passing.table.recompute hdrained e⟩, hturn.kept, fun x hne hx => ?_, ?_,
      State.blocked_of_front (State.front_recompute hkept e) hhead⟩
    · rw [State.entry_recompute, if_neg (Ne.symm hne)]
      exact hturn.changed x hne hx
    · have hwaits : (r.1.recompute e).waits = r.1.waits := by
        unfold State.waits
        exact Finset.sum_congr rfl fun x _ => congrArg List.length (hdrained.queueAt_recomputeAll [e] x)
      rw [hwaits]
      exact hturn.fuel
  subst hn hr
  exact hgoal

/-! ### The pass list -/

/-- The blocked heads after a pass on e: every one off the pass list, or a member of a set that waits on an entry of the list. -/
theorem PassRan.blocked_off {quiet : Quiet} {e : EntrySlot} {s t : State} {list list' : List EntrySlot}
    (h : PassRan quiet e s list t list') (hbefore : ∀ x, x ∉ e :: list → s.blocked x ∨ s.passedWith (e :: list) x) :
    ∀ x, x ∉ list' → t.blocked x ∨ t.passedWith list' x := by
  intro x hx
  by_cases hxe : x = e
  · exact .inl (hxe ▸ h.blocked)
  have hsame := h.changed x hxe hx
  have hset : ∀ {r : ReqSlot} {id : Word16} {c : Claim}, c ∈ s.queueAt x → c.inSet r id = true →
      ∀ y, y ∈ s.setMembers r id ↔ y ∈ t.setMembers r id := fun {r id c} hc hin y => by
    constructor
    · intro hy
      obtain ⟨d, hd, hdin⟩ := State.mem_setMembers_iff.mp hy
      by_contra hn
      have hgone : Granted s t y d := h.passed.granted.mpr ⟨hd, fun hm => hn (State.mem_setMembers_iff.mpr ⟨d, hm, hdin⟩)⟩
      have hid : c.setId = d.setId := by
        simp only [Claim.inSet, Bool.and_eq_true, decide_eq_true_eq] at hin hdin
        exact hin.2.trans hdin.2.symm
      have hnone : d.setId ≠ none := by
        simp only [Claim.inSet, Bool.and_eq_true, decide_eq_true_eq] at hdin
        simp [hdin.2]
      have := h.passed.granted.mp (h.passed.whole y d x c hgone hc hnone hid)
      rw [State.queueAt_congr hsame] at this
      exact this.2 hc
    · intro hy
      obtain ⟨d, hd, hdin⟩ := State.mem_setMembers_iff.mp hy
      exact State.mem_setMembers_iff.mpr ⟨d, (h.passed.queueAt y).subset hd, hdin⟩
  by_contra hneither
  obtain ⟨hnblocked, hnpassed⟩ := not_or.mp hneither
  rw [State.blocked_iff] at hnblocked
  push Not at hnblocked
  obtain ⟨en, c, ht, hc, hadmit⟩ := hnblocked
  have hsen : s.entry x = some en := hsame ▸ ht
  have hcs : c ∈ s.queueAt x := State.mem_queueAt.mpr ⟨en, hsen, List.mem_of_mem_head? hc⟩
  have hxlist : x ∉ e :: list := fun hm => by
    obtain rfl | hm := List.mem_cons.mp hm
    · exact hxe rfl
    · exact hx (h.kept x hm)
  cases hid : c.setId with
  | none =>
    obtain hb | ⟨en', hen', c', hc', id, hid', -⟩ := hbefore x hxlist
    · have hfits := ((State.blocked_iff.mp hb) en c hsen hc).1 hid
      obtain ⟨id, hsome, -⟩ := hadmit fun _ => hfits
      simp [hid] at hsome
    · obtain rfl : en = en' := Option.some.inj (hsen.symm.trans hen')
      obtain rfl : c = c' := Option.some.inj (hc.symm.trans hc')
      rw [hid] at hid'
      cases hid'
  | some id =>
    obtain ⟨id', hid', hg⟩ := hadmit fun hn => absurd (hid.symm.trans hn) (by simp)
    obtain rfl : id = id' := Option.some.inj (hid.symm.trans hid')
    have hg : t.grantable c.requester id = true := by simpa using hg
    have hin : c.inSet c.requester id = true := by simp [Claim.inSet, hid]
    have hmembers := hset hcs hin
    have hoff : ∀ y ∈ t.setMembers c.requester id, y ∉ list' := fun y hy hl =>
      hnpassed ⟨en, ht, c, hc, id, hid, y, hl, hy⟩
    have hnote : e ∉ t.setMembers c.requester id := fun he => by
      obtain ⟨en', hen', c', hc', hin', -⟩ := State.grantable_iff.mp hg e he
      simp only [Claim.inSet, Bool.and_eq_true, decide_eq_true_eq] at hin'
      have := ((State.blocked_iff.mp h.blocked) en' c' hen' hc').2 id hin'.2
      rw [hin'.1, hg] at this
      cases this
    have hunchanged : ∀ y ∈ t.setMembers c.requester id, t.entry y = s.entry y := fun y hy =>
      h.changed y (fun hye => hnote (hye ▸ hy)) (hoff y hy)
    have hgs : s.grantable c.requester id = true := by
      rw [State.grantable_iff] at hg ⊢
      intro y hy
      have hyt := (hmembers y).mp hy
      obtain ⟨en', hen', hrest⟩ := hg y hyt
      exact ⟨en', (hunchanged y hyt) ▸ hen', hrest⟩
    obtain hb | ⟨en', hen', c', hc', id', hid', y, hyl, hy⟩ := hbefore x hxlist
    · have := ((State.blocked_iff.mp hb) en c hsen hc).2 id hid
      rw [hgs] at this
      cases this
    · obtain rfl : en = en' := Option.some.inj (hsen.symm.trans hen')
      obtain rfl : c = c' := Option.some.inj (hc.symm.trans hc')
      obtain rfl : id = id' := Option.some.inj (hid.symm.trans hid')
      have hyt := (hmembers y).mp hy
      obtain rfl | hyl := List.mem_cons.mp hyl
      · exact hnote hyt
      · exact hoff y hyt (h.kept y hyl)

/-- With no entry on the pass list every head is blocked itself. -/
theorem State.blocked_of_no_list {s : State} (h : ∀ x, x ∉ ([] : List EntrySlot) → s.blocked x ∨ s.passedWith [] x) (x : EntrySlot) :
    s.blocked x := by
  obtain hb | ⟨_, _, _, _, _, _, y, hy, _⟩ := h x (by simp)
  · exact hb
  · cases hy

/-- The run of a pass list with fuel enough: it is a run of grants, keeps the table consistent, and leaves every head blocked. -/
theorem runPassList_ran {quiet : Quiet} (n : Nat) {s : State} (hs : s.Consistent) (list : List EntrySlot)
    (hn : list.length + 256 * s.waits ≤ n) :
    Passed quiet s (runPassList quiet n s list) ∧ (runPassList quiet n s list).Consistent ∧
      ((∀ x, x ∉ list → s.blocked x ∨ s.passedWith list x) → ∀ x, (runPassList quiet n s list).blocked x) := by
  induction n generalizing s list with
  | zero =>
    obtain rfl : list = [] := List.eq_nil_of_length_eq_zero (by omega)
    exact ⟨.refl quiet s, hs, State.blocked_of_no_list⟩
  | succ n ih =>
    cases list with
    | nil => exact ⟨.refl quiet s, hs, State.blocked_of_no_list⟩
    | cons e rest =>
      rw [List.length_cons] at hn
      unfold Machine.runPassList
      split
      · next hnone =>
        obtain ⟨hp, hc, hb⟩ := ih hs rest (by omega)
        refine ⟨hp, hc, fun hbefore => hb fun x hx => ?_⟩
        by_cases hxe : x = e
        · subst hxe
          exact .inl (State.blocked_of_queue_nil (by simp [State.queueAt, hnone]))
        · obtain h | ⟨en, hen, c, hc', id, hid, y, hy, hmem⟩ := hbefore x (by simp [hxe, hx])
          · exact .inl h
          · obtain rfl | hy := List.mem_cons.mp hy
            · obtain ⟨en', hen', -⟩ := State.mem_setMembers.mp hmem
              rw [hnone] at hen'
              cases hen'
            · exact .inr ⟨en, hen, c, hc', id, hid, y, hy, hmem⟩
      · next hsome =>
        have hpass := State.pass_ran hs quiet e rest
        have hfuel := hpass.fuel
        obtain ⟨hp, hc, hb⟩ := ih hpass.consistent (s.pass quiet e rest).2 (by omega)
        exact ⟨hpass.passed.trans hs.sound hp, hc, fun hbefore => hb (hpass.blocked_off hbefore)⟩

theorem State.runPasses_ran {s : State} (hs : s.Consistent) (quiet : Quiet) (list : List EntrySlot) :
    Passed quiet s (s.runPasses quiet list) ∧ (s.runPasses quiet list).Consistent ∧
      ((∀ x, x ∉ list → s.blocked x ∨ s.passedWith list x) → ∀ x, (s.runPasses quiet list).blocked x) :=
  runPassList_ran _ hs list (by rw [State.waiting_eq])

/-- The passes that ran on a consistent table, as the statements say it. -/
theorem Passed.passesRan {quiet : Quiet} {list : List EntrySlot} {u t : State} (h : Passed quiet u t) (ht : t.Consistent)
    (hb : (∀ x, x ∉ list → u.blocked x ∨ u.passedWith list x) → ∀ x, t.blocked x) : PassesRan quiet list u t where
  generations := h.generations
  live := h.live
  entries e en en' hen hen' := by
    have hadv := h.entries e en en' hen hen'
    refine ⟨hadv.fixed, hadv.queue, hadv.holders, hadv.grantCount, ?_⟩
    have hst := (en'.legal_iff.mp (ht.entries e en' hen')).2
    by_cases hr : en.state = .retiring
    · rw [if_pos hr, hadv.retiring.mpr hr]
    · rw [if_neg hr]
      exact (Entry.settled_of_ne_retiring fun hr' => hr (hadv.retiring.mp hr')).mp hst
  legal _ := (t.consistent_iff).mpr ht
  whole e w e' w' hw hm hn hid := h.whole e w e' w' hw (State.mem_waitRecords.mp hm) hn hid
  requesters r := by
    obtain ⟨holds, waits, overrun, hreq, hover⟩ := h.requesters r
    refine ⟨overrun, ?_, fun ho => ?_⟩
    · cases hu : u.req r with
      | none => rw [hreq, hu]; rfl
      | some q =>
        rw [hu, Option.map_some] at hreq
        obtain ⟨hh, hw⟩ := ht.table.counts r _ hreq
        rw [hreq, Option.map_some, ht.sound.holdsOf_eq, ht.sound.waitsOf_eq, ← hh, ← hw]
    · obtain ⟨hfull, e, w, hg, hr, ⟨hf, hq⟩, hno⟩ := hover ho
      exact ⟨hfull, e, w, hg, hr, hf, hq, hno⟩
  told e w hg hf hq := h.told e w hg ⟨hf, hq⟩
  notices := by
    obtain ⟨new, hnew, hnodup, hmade⟩ := h.notices
    refine ⟨new, hnew, hnodup, fun n hn => ?_⟩
    obtain ⟨hgen, w, hg, hr, hbody, hf, hq⟩ := hmade n hn
    exact ⟨hgen, w, hg, hr, hbody, hf, hq⟩
  blocked := hb
  rest := h.rest

/-- Settles O32: each grant is a change that composes, the turns of a pass and the passes of a list are such grants, and a pass leaves a
head that cannot be granted. -/
theorem passesDoWhatTheyMay : Obligations.PassesDoWhatTheyMay := by
  intro s quiet list hs
  obtain ⟨hp, hc, hb⟩ := State.runPasses_ran ((s.consistent_iff).mp hs) quiet list
  exact hp.passesRan hc hb

end Sys2Proof.Machine
end

section
/-! Fresh numbers, grants at once and placements in the ledger (R28, R30, R50, R53, R54, R112). -/

namespace Sys2Proof.Machine

/-! ### Fresh numbers -/

theorem mem_of_skipUsed_mem {used : List Word16} {n : Nat} {v : Word16} (h : skipUsed used n v ∈ used) :
    ∀ k ≤ n, v + BitVec.ofNat 16 k ∈ used := by
  induction n generalizing v with
  | zero =>
    intro k hk
    obtain rfl : k = 0 := by omega
    simpa [skipUsed] using h
  | succ n ih =>
    unfold skipUsed at h
    split at h
    · next hv =>
      intro k hk
      cases k with
      | zero => simpa using hv
      | succ k =>
        have := ih h k (by omega)
        rwa [BitVec.add_assoc, show (1 : Word16) + BitVec.ofNat 16 k = BitVec.ofNat 16 (k + 1) by
          rw [Nat.add_comm, BitVec.ofNat_add]; rfl] at this
    · next hv => exact absurd h (by simpa using hv)

/-- The counter takes a value that is not in use, while fewer than all are (R50, R112). -/
theorem nextUnused_not_mem {used : List Word16} (h : used.length < 65536) (v : Word16) : nextUnused used v ∉ used := by
  intro hm
  have hall := mem_of_skipUsed_mem hm
  have hsub : (List.range (used.length + 1)).map (fun k => v + 1 + BitVec.ofNat 16 k) ⊆ used := fun x hx => by
    obtain ⟨k, hk, rfl⟩ := List.mem_map.mp hx
    exact hall k (by have := List.mem_range.mp hk; omega)
  have hnodup : ((List.range (used.length + 1)).map fun k => v + 1 + BitVec.ofNat 16 k).Nodup := by
    refine List.Nodup.map_on (fun a ha b hb hab => ?_) List.nodup_range
    have ha := List.mem_range.mp ha
    have hb := List.mem_range.mp hb
    have hn := congrArg BitVec.toNat (add_left_cancel hab)
    rw [BitVec.toNat_ofNat, BitVec.toNat_ofNat, Nat.mod_eq_of_lt (by omega), Nat.mod_eq_of_lt (by omega)] at hn
    exact hn
  have := (hnodup.subperm hsub).length_le
  simp at this

theorem State.mem_waitingSetIds {s : State} {id : Word16} : id ∈ s.waitingSetIds ↔ ∃ e, ∃ c ∈ s.queueAt e, c.setId = some id := by
  unfold State.waitingSetIds
  rw [s.slots_toList, List.mem_flatMap]
  have hslot : ∀ e : EntrySlot, (id ∈ match (s.slots[e.val]).live with | some en => en.queue.filterMap Claim.setId | none => []) ↔
      ∃ c ∈ s.queueAt e, c.setId = some id := fun e => by
    unfold State.queueAt State.entry
    cases (s.slots[e.val]).live <;> simp
  constructor
  · rintro ⟨sl, hsl, hm⟩
    obtain ⟨e, -, rfl⟩ := List.mem_map.mp hsl
    exact ⟨e, (hslot e).mp hm⟩
  · rintro ⟨e, hm⟩
    exact ⟨_, List.mem_map.mpr ⟨e, List.mem_finRange e, rfl⟩, (hslot e).mpr hm⟩

theorem State.length_waitingSetIds_le (s : State) : s.waitingSetIds.length ≤ s.inUse := by
  unfold State.waitingSetIds State.inUse
  rw [s.slots_toList, List.length_flatMap, Fin.sum_univ_def, List.map_map]
  refine List.sum_le_sum fun e _ => ?_
  unfold State.queueAt State.holdersAt State.entry
  simp only [Function.comp_apply]
  cases (s.slots[e.val]).live with
  | none => exact Nat.zero_le _
  | some en =>
    have := List.length_filterMap_le Claim.setId en.queue
    exact this.trans (Nat.le_add_left _ _)

/-- A new set id is carried by no waiting record (R50). -/
theorem State.TableLegal.fresh {s : State} (h : s.TableLegal) {e : EntrySlot} {c : Claim} (hc : c ∈ s.queueAt e) :
    c.setId ≠ some s.takeSetId.setIdCounter := by
  intro hid
  have hlen := s.length_waitingSetIds_le
  have hpool := h.pool
  rw [show Config.poolSize = 512 from rfl] at hpool
  exact nextUnused_not_mem (by omega) s.setIdCounter (State.mem_waitingSetIds.mpr ⟨e, c, hc, hid⟩)

theorem State.TableLegal.takeSetId {s : State} (h : s.TableLegal) : s.takeSetId.TableLegal :=
  h.congr (fun e => State.holdersAt_congr (by simp)) (fun e => State.queueAt_congr (by simp)) rfl fun r => by simp

/-! ### Room for records -/

/-- A requester has room for n more records in its budget and in the pool. -/
def State.Room (s : State) (r : ReqSlot) (n : Nat) : Prop :=
  ∃ q, s.req r = some q ∧ q.holdCount + q.waitCount + n ≤ q.budget ∧ n ≤ s.freeRecords

theorem State.Consistent.room_of_allowed {s : State} (h : s.Consistent) {r : ReqSlot} {q : Requester} {en : Entry}
    (hq : s.req r = some q) (ha : ClaimAllowed s r q en) : s.Room r 1 := by
  obtain ⟨-, -, hbudget, hfree⟩ := ha
  have := h.table.budget r q hq
  exact ⟨q, hq, by omega, by omega⟩

/-! ### A grant at once -/

theorem State.holdersAt_grantNow (s : State) (r : ReqSlot) (e : EntrySlot) (m : Mode) (id : Option Word16) {en : Entry}
    (hen : s.entry e = some en) (e' : EntrySlot) :
    (s.grantNow r e m id).holdersAt e' =
      if e = e' then insertHolder (Claim.held ⟨r, m, id, false, none⟩ en.holdLimit) (s.holdersAt e) else s.holdersAt e' := by
  unfold State.holdersAt
  rw [State.entry_grantNow]
  split
  · rw [hen]
    exact (en.gainHolder _).holders_recomputed
  · rfl

theorem State.queueAt_grantNow (s : State) (r : ReqSlot) (e : EntrySlot) (m : Mode) (id : Option Word16) (e' : EntrySlot) :
    (s.grantNow r e m id).queueAt e' = s.queueAt e' := by
  unfold State.queueAt
  rw [State.entry_grantNow]
  split
  · next hee =>
    subst hee
    cases s.entry e with
    | none => rfl
    | some en =>
      have hne : (en.gainHolder ⟨r, m, id, false, none⟩).holders ≠ [] :=
        List.ne_nil_of_mem ((insertHolder_perm _ _).mem_iff.mpr List.mem_cons_self)
      rw [Option.bind_some, Entry.recomputed]
      split
      · rw [if_neg (by simpa using hne)]; rfl
      · rfl
  · rfl

theorem State.req_grantNow (s : State) (r : ReqSlot) (e : EntrySlot) (m : Mode) (id : Option Word16) (r' : ReqSlot) :
    (s.grantNow r e m id).req r' =
      if r = r' then (s.req r).map fun q => { q with holdCount := q.holdCount + 1, waitCount := q.waitCount + 0 } else s.req r' := by
  unfold State.grantNow
  dsimp only
  rw [State.req_recompute, State.req_addCounts]
  have hreq : ∀ x, ({ s.modifyEntry e (fun en => en.gainHolder ⟨r, m, id, false, none⟩) with
      freeRecords := (s.modifyEntry e fun en => en.gainHolder ⟨r, m, id, false, none⟩).freeRecords - 1 } : State).req x = s.req x :=
    fun x => State.req_modifyEntry s e _ x
  rw [hreq, hreq]

@[simp] theorem State.freeRecords_grantNow (s : State) (r : ReqSlot) (e : EntrySlot) (m : Mode) (id : Option Word16) :
    (s.grantNow r e m id).freeRecords = s.freeRecords - 1 := by
  simp [State.grantNow, State.addCounts]

theorem State.Room.grantNow {s : State} {r : ReqSlot} {n : Nat} (h : s.Room r (n + 1)) (e : EntrySlot) (m : Mode)
    (id : Option Word16) : (s.grantNow r e m id).Room r n := by
  obtain ⟨q, hq, hb, hf⟩ := h
  refine ⟨_, by rw [State.req_grantNow, if_pos rfl, hq]; rfl, ?_, ?_⟩
  · dsimp only; omega
  · rw [State.freeRecords_grantNow]; omega

theorem State.TableLegal.grantNow {s : State} (h : s.TableLegal) {r : ReqSlot} (hr : s.Room r 1) {e : EntrySlot} {en : Entry}
    (hen : s.entry e = some en) (m : Mode) (id : Option Word16) : (s.grantNow r e m id).TableLegal := by
  obtain ⟨q₀, hq₀, hb₀, hf₀⟩ := hr
  have hstanding := (ClaimFrame.grantNow s r e m id).standing
  have hholders := s.holdersAt_grantNow r e m id hen
  have hqueue := s.queueAt_grantNow r e m id
  have hhold : ∀ r', (s.grantNow r e m id).holdTotal r' = s.holdTotal r' + (if r = r' then 1 else 0) := fun r' => by
    rw [← Nat.add_zero ((s.grantNow r e m id).holdTotal r')]
    refine State.holdTotal_shift_one r' e ?_ fun e' he' => ?_
    · rw [hholders, if_pos rfl, countP_insertHolder]; rfl
    · rw [hholders, if_neg (Ne.symm he')]
  have huse : (s.grantNow r e m id).inUse = s.inUse + 1 := by
    rw [← Nat.add_zero (s.grantNow r e m id).inUse]
    refine State.inUse_shift_one e ?_ (fun e' he' => by rw [hholders, if_neg (Ne.symm he')]) fun e' _ => hqueue e'
    rw [hholders, if_pos rfl, (insertHolder_perm _ _).length_eq, hqueue, List.length_cons]
    omega
  have hpool := h.pool
  refine ⟨fun e' c hc => ?_, fun e' => ?_, h.sets.congr hqueue, by rw [State.freeRecords_grantNow]; omega,
    fun r' q' hq' => ?_, fun r' q' hq' => ?_⟩
  · rw [State.isSome_of_standing hstanding]
    obtain hc | hc := List.mem_append.mp hc
    · rw [hholders] at hc
      split at hc
      · obtain rfl | hc := List.mem_cons.mp ((insertHolder_perm _ _).mem_iff.mp hc)
        · show (s.req r).isSome
          rw [hq₀]; rfl
        · exact h.owned e c (List.mem_append_left _ hc)
      · exact h.owned e' c (List.mem_append_left _ hc)
    · exact h.owned e' c (List.mem_append_right _ (hqueue e' ▸ hc))
  · rw [State.priority_of_standing hstanding, hqueue]
    exact h.ordered e'
  · rw [hhold, State.waitTotal_congr hqueue]
    rw [State.req_grantNow] at hq'
    split at hq'
    · next hrr =>
      subst hrr
      rw [hq₀, Option.map_some, Option.some.injEq] at hq'
      subst hq'
      obtain ⟨hh, hw⟩ := h.counts r q₀ hq₀
      rw [if_pos rfl]
      dsimp only
      omega
    · next hrr =>
      rw [if_neg hrr, Nat.add_zero]
      exact h.counts r' q' hq'
  · rw [State.req_grantNow] at hq'
    split at hq'
    · next hrr =>
      subst hrr
      rw [hq₀, Option.map_some, Option.some.injEq] at hq'
      subst hq'
      dsimp only
      omega
    · exact h.budget r' q' hq'

/-! ### A placement -/

theorem State.holdersAt_place (s : State) (e : EntrySlot) (c : Claim) (e' : EntrySlot) :
    (s.place e c).holdersAt e' = s.holdersAt e' := by
  unfold State.holdersAt
  rw [State.entry_place]
  split
  · next hee =>
    subst hee
    cases s.entry e with
    | none => rfl
    | some en => exact Entry.holders_recomputed _
  · rfl

theorem State.queueAt_place (s : State) (e : EntrySlot) (c : Claim) {en : Entry} (hen : s.entry e = some en)
    (hr : en.state ≠ .retiring) (e' : EntrySlot) :
    (s.place e c).queueAt e' = if e = e' then insertWaiter s.priority c (s.queueAt e) else s.queueAt e' := by
  unfold State.queueAt
  rw [State.entry_place]
  split
  · rw [hen, Option.bind_some, Entry.recomputed_of_ne_retiring (en := { en with queue := insertWaiter s.priority c en.queue }) hr]; rfl
  · rfl

theorem State.req_place (s : State) (e : EntrySlot) (c : Claim) (r : ReqSlot) :
    (s.place e c).req r =
      if c.requester = r then
        (s.req c.requester).map fun q => { q with holdCount := q.holdCount + 0, waitCount := q.waitCount + 1 }
      else s.req r := by
  unfold State.place
  dsimp only
  rw [State.req_recompute, State.req_addCounts]
  have hreq : ∀ x, ({ s.enqueue e c with freeRecords := (s.enqueue e c).freeRecords - 1 } : State).req x = s.req x :=
    fun x => State.req_modifyEntry s e _ x
  rw [hreq, hreq]

@[simp] theorem State.freeRecords_place (s : State) (e : EntrySlot) (c : Claim) : (s.place e c).freeRecords = s.freeRecords - 1 := by
  simp [State.place, State.addCounts, State.enqueue]

theorem State.Room.place {s : State} {c : Claim} {n : Nat} (h : s.Room c.requester (n + 1)) (e : EntrySlot) :
    (s.place e c).Room c.requester n := by
  obtain ⟨q, hq, hb, hf⟩ := h
  refine ⟨_, by rw [State.req_place, if_pos rfl, hq]; rfl, ?_, ?_⟩
  · dsimp only; omega
  · rw [State.freeRecords_place]; omega

/-- A record that can enter a queue with the sets staying coherent: a single one, the first of a set with a fresh id, or a further one
of a set of its requester. -/
inductive State.Joins (s : State) (c : Claim) : Prop where
  | single : c.setId = none → c.firstMember = false → s.Joins c
  | first : c.setId ≠ none → c.firstMember = true → (∀ e, ∀ d ∈ s.queueAt e, d.setId ≠ c.setId) → s.Joins c
  | further (e : EntrySlot) (d : Claim) : c.setId ≠ none → c.firstMember = false → c.deadline = none → d ∈ s.queueAt e →
      d.setId = c.setId → d.firstMember = true → d.requester = c.requester → s.Joins c

theorem State.Coherent.join {s t : State} (h : s.Coherent) {c : Claim} {e₀ : EntrySlot} (hj : s.Joins c)
    (hmem : ∀ e d, d ∈ t.queueAt e ↔ (e = e₀ ∧ d = c) ∨ d ∈ s.queueAt e) : t.Coherent := by
  have hnew : c ∈ t.queueAt e₀ := (hmem e₀ c).mpr (.inl ⟨rfl, rfl⟩)
  have howner : ∀ e d, d ∈ s.queueAt e → c.setId ≠ none → d.setId = c.setId → d.requester = c.requester := fun e d hd hn hid => by
    cases hj with
    | single hnone => exact absurd hnone hn
    | first _ _ hfresh => exact absurd hid (hfresh e d hd)
    | further e' d' _ _ _ hd' hid' _ hr =>
      exact (h.owner e' e d' d hd' hd (by rwa [hid']) (hid.trans hid'.symm)).trans hr
  have hunique : ∀ e d, d ∈ s.queueAt e → c.setId ≠ none → d.setId = c.setId → c.firstMember = true → d.firstMember = false :=
    fun e d hd hn hid hf => by
      cases hj with
      | single hnone => exact absurd hnone hn
      | first _ _ hfresh => exact absurd hid (hfresh e d hd)
      | further e' d' _ hf' => exact absurd (hf.symm.trans hf') (by simp)
  refine ⟨fun e d hd hn => ?_, fun e e' d d' hd hd' hn hid => ?_, fun e d hd hn => ?_, fun e e' d d' hd hd' hn hid hf hf' => ?_,
    fun e d hd hn hf => ?_⟩
  · obtain ⟨-, rfl⟩ | hd := (hmem e d).mp hd
    · cases hj with
      | single _ hf => exact hf
      | first hn' => exact absurd hn hn'
      | further _ _ hn' => exact absurd hn hn'
    · exact h.single e d hd hn
  · obtain ⟨-, rfl⟩ | hd := (hmem e d).mp hd
    · obtain ⟨-, rfl⟩ | hd' := (hmem e' d').mp hd'
      · rfl
      · exact howner e' d' hd' hn hid
    · obtain ⟨-, rfl⟩ | hd' := (hmem e' d').mp hd'
      · exact (howner e d hd (hid ▸ hn) hid.symm).symm
      · exact h.owner e e' d d' hd hd' hn hid
  · obtain ⟨-, rfl⟩ | hd := (hmem e d).mp hd
    · cases hj with
      | single hnone => exact absurd hnone hn
      | first _ hf _ => exact ⟨e₀, d, hnew, rfl, hf⟩
      | further e' d' _ _ _ hd' hid' hf' _ => exact ⟨e', d', (hmem e' d').mpr (.inr hd'), hid', hf'⟩
    · obtain ⟨e', d', hd', hid, hf⟩ := h.marked e d hd hn
      exact ⟨e', d', (hmem e' d').mpr (.inr hd'), hid, hf⟩
  · obtain ⟨rfl, rfl⟩ | hd := (hmem e d).mp hd
    · obtain ⟨rfl, rfl⟩ | hd' := (hmem e' d').mp hd'
      · exact ⟨rfl, rfl⟩
      · exact absurd (hf'.symm.trans (hunique e' d' hd' hn hid hf)) (by simp)
    · obtain ⟨rfl, rfl⟩ | hd' := (hmem e' d').mp hd'
      · exact absurd (hf.symm.trans (hunique e d hd (hid ▸ hn) hid.symm hf')) (by simp)
      · exact h.unique e e' d d' hd hd' hn hid hf hf'
  · obtain ⟨-, rfl⟩ | hd := (hmem e d).mp hd
    · cases hj with
      | single hnone => exact absurd hnone hn
      | first _ hf' _ => exact absurd (hf.symm.trans hf') (by simp)
      | further _ _ _ _ hdl => exact hdl
    · exact h.countdown e d hd hn hf

theorem State.mem_queueAt_place {s : State} {e : EntrySlot} {c : Claim} {en : Entry} (hen : s.entry e = some en)
    (hr : en.state ≠ .retiring) (e' : EntrySlot) (d : Claim) :
    d ∈ (s.place e c).queueAt e' ↔ (e' = e ∧ d = c) ∨ d ∈ s.queueAt e' := by
  rw [State.queueAt_place s e c hen hr]
  split
  · next hee =>
    subst hee
    rw [(insertWaiter_perm s.priority c _).mem_iff, List.mem_cons]
    simp
  · next hee => simp [Ne.symm hee]

theorem State.TableLegal.place {s : State} (h : s.TableLegal) {c : Claim} (hroom : s.Room c.requester 1) (hj : s.Joins c)
    {e : EntrySlot} {en : Entry} (hen : s.entry e = some en) (hret : en.state ≠ .retiring) : (s.place e c).TableLegal := by
  obtain ⟨q₀, hq₀, hb₀, hf₀⟩ := hroom
  have hstanding := (ClaimFrame.place s e c).standing
  have hholders := s.holdersAt_place e c
  have hqueue := s.queueAt_place e c hen hret
  have hmem := State.mem_queueAt_place (c := c) hen hret
  have hwait : ∀ r', (s.place e c).waitTotal r' = s.waitTotal r' + (if c.requester = r' then 1 else 0) := fun r' => by
    rw [← Nat.add_zero ((s.place e c).waitTotal r')]
    refine State.waitTotal_shift_one r' e ?_ fun e' he' => ?_
    · rw [hqueue, if_pos rfl, (insertWaiter_perm s.priority c _).countP_eq, List.countP_cons]
      simp
    · rw [hqueue, if_neg (Ne.symm he')]
  have huse : (s.place e c).inUse = s.inUse + 1 := by
    rw [← Nat.add_zero (s.place e c).inUse]
    refine State.inUse_shift_one e ?_ (fun e' _ => hholders e') fun e' he' => by rw [hqueue, if_neg (Ne.symm he')]
    rw [hqueue, if_pos rfl, (insertWaiter_perm s.priority c _).length_eq, hholders, List.length_cons]
    omega
  have hpool := h.pool
  refine ⟨fun e' d hd => ?_, fun e' => ?_, h.sets.join hj hmem, by rw [State.freeRecords_place]; omega,
    fun r' q' hq' => ?_, fun r' q' hq' => ?_⟩
  · rw [State.isSome_of_standing hstanding]
    obtain hd | hd := List.mem_append.mp hd
    · exact h.owned e' d (List.mem_append_left _ (hholders e' ▸ hd))
    · obtain ⟨-, rfl⟩ | hd := (hmem e' d).mp hd
      · rw [hq₀]; rfl
      · exact h.owned e' d (List.mem_append_right _ hd)
  · rw [State.priority_of_standing hstanding, hqueue]
    split
    · exact insertWaiter_pairwise (h.ordered e)
    · exact h.ordered e'
  · rw [hwait, State.holdTotal_congr hholders]
    rw [State.req_place] at hq'
    split at hq'
    · next hrr =>
      subst hrr
      rw [hq₀, Option.map_some, Option.some.injEq] at hq'
      subst hq'
      obtain ⟨hh, hw⟩ := h.counts _ q₀ hq₀
      rw [if_pos rfl]
      dsimp only
      omega
    · next hrr =>
      rw [if_neg hrr, Nat.add_zero]
      exact h.counts r' q' hq'
  · rw [State.req_place] at hq'
    split at hq'
    · next hrr =>
      subst hrr
      rw [hq₀, Option.map_some, Option.some.injEq] at hq'
      subst hq'
      dsimp only
      omega
    · exact h.budget r' q' hq'

/-! ### Sets -/

theorem State.TableLegal.grantAll {s : State} (h : s.TableLegal) {r : ReqSlot} (id : Option Word16)
    {members : List (EntrySlot × Mode)} (hr : s.Room r members.length) (hd : (members.map Prod.fst).Nodup)
    (hm : ∀ p ∈ members, (s.entry p.1).isSome) : (members.foldl (fun u p => u.grantNow r p.1 p.2 id) s).TableLegal := by
  induction members generalizing s with
  | nil => exact h
  | cons p members ih =>
    obtain ⟨hp, hd⟩ := List.nodup_cons.mp hd
    obtain ⟨en, hen⟩ := Option.isSome_iff_exists.mp (hm p List.mem_cons_self)
    have hone : s.Room r 1 := by
      obtain ⟨q, hq, hb, hf⟩ := hr
      rw [List.length_cons] at hb hf
      exact ⟨q, hq, by omega, by omega⟩
    refine ih (h.grantNow hone hen p.2 id) (hr.grantNow p.1 p.2 id) hd fun p' hp' => ?_
    have hne : p.1 ≠ p'.1 := fun heq => hp (heq ▸ List.mem_map_of_mem hp')
    rw [State.entry_grantNow, if_neg hne]
    exact hm p' (List.mem_cons_of_mem p hp')

/-- The further records of a set are placed beside its first one. -/
theorem State.TableLegal.placeFurther {s : State} (h : s.TableLegal) {r : ReqSlot} {id : Word16} {e₀ : EntrySlot} {d : Claim}
    (hd : d ∈ s.queueAt e₀) (hid : d.setId = some id) (hf : d.firstMember = true) (hdr : d.requester = r)
    {members : List (EntrySlot × Mode)} (hr : s.Room r members.length) (hdist : (members.map Prod.fst).Nodup)
    (hm : ∀ p ∈ members, ∃ en, s.entry p.1 = some en ∧ en.state ≠ .retiring) :
    ((members.map fun p => (p.1, (⟨r, p.2, some id, false, none⟩ : Claim))).foldl (fun u p => u.place p.1 p.2) s).TableLegal := by
  induction members generalizing s with
  | nil => exact h
  | cons p members ih =>
    obtain ⟨hp, hdist⟩ := List.nodup_cons.mp hdist
    obtain ⟨en, hen, hret⟩ := hm p List.mem_cons_self
    have hone : s.Room r 1 := by
      obtain ⟨q, hq, hb, hfr⟩ := hr
      rw [List.length_cons] at hb hfr
      exact ⟨q, hq, by omega, by omega⟩
    have hjoins : s.Joins ⟨r, p.2, some id, false, none⟩ := .further e₀ d (by simp) rfl rfl hd hid hf hdr
    refine ih (h.place hone hjoins hen hret) ((State.mem_queueAt_place hen hret e₀ d).mpr (.inr hd)) (hr.place p.1) hdist fun p' hp' => ?_
    have hne : p.1 ≠ p'.1 := fun heq => hp (heq ▸ List.mem_map_of_mem hp')
    rw [State.entry_place, if_neg hne]
    exact hm p' (List.mem_cons_of_mem p hp')

theorem State.TableLegal.placeAll {s : State} (h : s.TableLegal) {r : ReqSlot} {id : Word16} (limit : Nat)
    (hfresh : ∀ e, ∀ c ∈ s.queueAt e, c.setId ≠ some id) {members : List (EntrySlot × Mode)} (hr : s.Room r members.length)
    (hdist : (members.map Prod.fst).Nodup) (hm : ∀ p ∈ members, ∃ en, s.entry p.1 = some en ∧ en.state ≠ .retiring) :
    ((setRecords r id limit members).foldl (fun u p => u.place p.1 p.2) s).TableLegal := by
  cases members with
  | nil => exact h
  | cons p members =>
    obtain ⟨hp, hdist⟩ := List.nodup_cons.mp hdist
    obtain ⟨en, hen, hret⟩ := hm p List.mem_cons_self
    have hone : s.Room r 1 := by
      obtain ⟨q, hq, hb, hfr⟩ := hr
      rw [List.length_cons] at hb hfr
      exact ⟨q, hq, by omega, by omega⟩
    have hjoins : s.Joins ⟨r, p.2, some id, true, waitDeadline limit⟩ := .first (by simp) rfl hfresh
    refine State.TableLegal.placeFurther (h.place hone hjoins hen hret) (e₀ := p.1)
      ((State.mem_queueAt_place hen hret p.1 _).mpr (.inl ⟨rfl, rfl⟩)) rfl rfl rfl (hr.place p.1) hdist fun p' hp' => ?_
    have hne : p.1 ≠ p'.1 := fun heq => hp (heq ▸ List.mem_map_of_mem hp')
    rw [State.entry_place, if_neg hne]
    exact hm p' (List.mem_cons_of_mem p hp')

end Sys2Proof.Machine
end

section
/-! Every step keeps the claim table consistent (R22, R23, R25, R31, R50, R99). -/

namespace Sys2Proof.Machine

/-! ### Changes that keep the requesters of all records -/

theorem countP_requester_congr {l l' : List Claim} (h : l'.map Claim.requester = l.map Claim.requester) (r : ReqSlot) :
    l'.countP (fun c => c.requester = r) = l.countP fun c => c.requester = r := by
  have hcount : ∀ l : List Claim, l.countP (fun c => c.requester = r) = (l.map Claim.requester).countP fun x => x = r := fun l => by
    rw [List.countP_map]; rfl
  rw [hcount, hcount, h]

/-- The table reads of the holders their requesters alone. -/
theorem State.TableLegal.congr_holders {s t : State} (h : s.TableLegal)
    (hh : ∀ e, (t.holdersAt e).map Claim.requester = (s.holdersAt e).map Claim.requester)
    (hq : ∀ e, t.queueAt e = s.queueAt e) (hf : t.freeRecords = s.freeRecords)
    (hr : ∀ r, (t.req r).map Requester.ledger = (s.req r).map Requester.ledger) : t.TableLegal := by
  have hstanding : ∀ r, (t.req r).map Requester.standing = (s.req r).map Requester.standing := fun r => by
    have := congrArg (Option.map fun x : Nat × Nat × Nat × Nat => (x.1, x.2.1)) (hr r)
    rwa [Option.map_map, Option.map_map] at this
  have hhold : ∀ r, t.holdTotal r = s.holdTotal r := fun r =>
    Finset.sum_congr rfl fun e _ => countP_requester_congr (hh e) r
  have huse : t.inUse = s.inUse := Finset.sum_congr rfl fun e _ => by
    have hlen : (t.holdersAt e).length = (s.holdersAt e).length := by simpa using congrArg List.length (hh e)
    rw [hlen, hq]
  refine h.move hstanding (fun e => by rw [hq]) (fun e c hc => ?_) (fun e e' c c' _ hc' _ _ => by rwa [hq]) (by rw [huse, hf])
    fun r q q' hs ht => ?_
  · have hm : c.requester ∈ (s.holdersAt e).map Claim.requester := hh e ▸ List.mem_map_of_mem hc
    obtain ⟨d, hd, hdr⟩ := List.mem_map.mp hm
    exact ⟨d, List.mem_append_left _ hd, hdr⟩
  · have hr' := hr r
    rw [hs, ht, Option.map_some, Option.map_some, Option.some.injEq, Requester.ledger_eq_iff] at hr'
    obtain ⟨-, -, hhc, hwc⟩ := hr'
    obtain ⟨hc, hw⟩ := h.counts r q hs
    have htotal := hhold r
    have hwait := State.waitTotal_congr hq r
    omega

/-- An entry is written with the same requesters holding and the same queue. -/
theorem State.TableLegal.setEntry {s : State} (h : s.TableLegal) {e : EntrySlot} {en en' : Entry} (hen : s.entry e = some en)
    (hh : en'.holders.map Claim.requester = en.holders.map Claim.requester) (hq : en'.queue = en.queue) :
    (s.setEntry e en').TableLegal := by
  refine h.congr_holders (fun x => ?_) (fun x => ?_) (by simp) fun r => by simp
  · unfold State.holdersAt
    rw [State.entry_setEntry]
    split
    · next hx => subst hx; simpa [hen] using hh
    · rfl
  · unfold State.queueAt
    rw [State.entry_setEntry]
    split
    · next hx => subst hx; simpa [hen] using hq
    · rfl

/-- A slot without records is freed, or taken by an entry without records. -/
theorem State.TableLegal.freeSlot {s : State} (h : s.TableLegal) {e : EntrySlot} (hh : s.holdersAt e = []) (hq : s.queueAt e = []) :
    (s.freeSlot e).TableLegal := by
  refine h.congr (fun x => ?_) (fun x => ?_) (by simp) fun r => by simp
  · unfold State.holdersAt
    rw [State.entry_freeSlot]
    split
    · next hx => subst hx; exact hh.symm
    · rfl
  · unfold State.queueAt
    rw [State.entry_freeSlot]
    split
    · next hx => subst hx; exact hq.symm
    · rfl

/-! ### Requester slots -/

/-- An open requester record is rewritten with the same priority and counts, within its budget. -/
theorem State.TableLegal.rewrite {s : State} (h : s.TableLegal) {r : ReqSlot} {q q' : Requester} (hq : s.req r = some q)
    (hsame : (q'.priority, q'.holdCount, q'.waitCount) = (q.priority, q.holdCount, q.waitCount))
    (hb : q'.holdCount + q'.waitCount ≤ q'.budget) : (s.setReq r (some q')).TableLegal := by
  simp only [Prod.mk.injEq] at hsame
  obtain ⟨hp, hh, hw⟩ := hsame
  have hpriority : (s.setReq r (some q')).priority = s.priority := by
    funext r'
    unfold State.priority
    rw [State.req_setReq]
    by_cases hr : r = r'
    · subst hr
      rw [if_pos rfl, hq]
      exact hp
    · rw [if_neg hr]
  have hholders : ∀ e, (s.setReq r (some q')).holdersAt e = s.holdersAt e := fun e => State.holdersAt_congr (by simp)
  have hqueue : ∀ e, (s.setReq r (some q')).queueAt e = s.queueAt e := fun e => State.queueAt_congr (by simp)
  refine ⟨fun e c hc => ?_, fun e => by rw [hpriority, hqueue]; exact h.ordered e, h.sets.congr hqueue, ?_, fun r' q₁ hq₁ => ?_,
    fun r' q₁ hq₁ => ?_⟩
  · rw [State.req_setReq]
    split
    · rfl
    · exact h.owned e c (by rwa [hholders, hqueue] at hc)
  · have hpool := h.pool
    have huse : (s.setReq r (some q')).inUse = s.inUse := Finset.sum_congr rfl fun e _ => by rw [hholders, hqueue]
    rw [huse]
    exact hpool
  · rw [State.holdTotal_congr hholders, State.waitTotal_congr hqueue]
    rw [State.req_setReq] at hq₁
    split at hq₁
    · next hr =>
      subst hr
      cases hq₁
      rw [hh, hw]
      exact h.counts r q hq
    · exact h.counts r' q₁ hq₁
  · rw [State.req_setReq] at hq₁
    split at hq₁
    · cases hq₁; exact hb
    · exact h.budget r' q₁ hq₁

/-- A requester without records, slot by slot. -/
theorem State.unclaimedBy_iff {s : State} {r : ReqSlot} :
    s.unclaimedBy r ↔ ∀ e, ∀ c ∈ s.holdersAt e ++ s.queueAt e, c.requester ≠ r := by
  constructor
  · intro h e c hc
    unfold State.holdersAt State.queueAt at hc
    cases hen : s.entry e with
    | none => simp [hen] at hc
    | some en => exact Entry.claimed_eq_false.mp (h e en hen) c (by simpa [hen] using hc)
  · intro h e en hen
    refine Entry.claimed_eq_false.mpr fun c hc => h e c ?_
    rwa [State.holdersAt_of_entry hen, State.queueAt_of_entry hen]

/-- The slot of a requester without records is opened with counts of zero, or closed. -/
theorem State.TableLegal.setReq {s : State} (h : s.TableLegal) {r : ReqSlot} (hr : s.unclaimedBy r) {q' : Option Requester}
    (hq' : ∀ q ∈ q', q.holdCount = 0 ∧ q.waitCount = 0) : (s.setReq r q').TableLegal := by
  have hfree := State.unclaimedBy_iff.mp hr
  have hholders : ∀ e, (s.setReq r q').holdersAt e = s.holdersAt e := fun e => State.holdersAt_congr (by simp)
  have hqueue : ∀ e, (s.setReq r q').queueAt e = s.queueAt e := fun e => State.queueAt_congr (by simp)
  have hpriority : ∀ r', r' ≠ r → (s.setReq r q').priority r' = s.priority r' := fun r' hne => by
    unfold State.priority
    rw [State.req_setReq, if_neg (Ne.symm hne)]
  have hzero : s.holdTotal r = 0 ∧ s.waitTotal r = 0 := by
    refine ⟨Finset.sum_eq_zero fun e _ => List.countP_eq_zero.mpr fun c hc => ?_,
      Finset.sum_eq_zero fun e _ => List.countP_eq_zero.mpr fun c hc => ?_⟩
    · simpa using hfree e c (List.mem_append_left _ hc)
    · simpa using hfree e c (List.mem_append_right _ hc)
  refine ⟨fun e c hc => ?_, fun e => ?_, h.sets.congr hqueue, ?_, fun r' q₁ hq₁ => ?_, fun r' q₁ hq₁ => ?_⟩
  · rw [hholders, hqueue] at hc
    rw [State.req_setReq, if_neg fun hcr => hfree e c hc hcr.symm]
    exact h.owned e c hc
  · rw [hqueue]
    refine (h.ordered e).imp_of_mem fun {c d} hc hd hle => ?_
    rw [hpriority _ (hfree e d (List.mem_append_right _ hd)), hpriority _ (hfree e c (List.mem_append_right _ hc))]
    exact hle
  · have huse : (s.setReq r q').inUse = s.inUse := Finset.sum_congr rfl fun e _ => by rw [hholders, hqueue]
    rw [huse]
    exact h.pool
  · rw [State.holdTotal_congr hholders, State.waitTotal_congr hqueue]
    rw [State.req_setReq] at hq₁
    split at hq₁
    · next hrr =>
      subst hrr
      obtain ⟨hh, hw⟩ := hq' q₁ hq₁
      rw [hh, hw, hzero.1, hzero.2]
      exact ⟨rfl, rfl⟩
    · exact h.counts r' q₁ hq₁
  · rw [State.req_setReq] at hq₁
    split at hq₁
    · obtain ⟨hh, hw⟩ := hq' q₁ hq₁
      rw [hh, hw]
      exact Nat.zero_le _
    · exact h.budget r' q₁ hq₁

/-- A FREE requester slot has no records. -/
theorem State.TableLegal.unclaimed_of_free {s : State} (h : s.TableLegal) {r : ReqSlot} (hr : s.req r = none) : s.unclaimedBy r :=
  State.unclaimedBy_iff.mpr fun e c hc hcr => by
    have := h.owned e c hc
    rw [hcr, hr] at this
    cases this

/-- Grants make no requester a claimant. -/
theorem Passed.unclaimed {quiet : Quiet} {s t : State} (h : Passed quiet s t) {r : ReqSlot} (hr : s.unclaimedBy r) :
    t.unclaimedBy r := by
  intro e en' ht
  have hlive := h.live e
  rw [ht] at hlive
  obtain ⟨en, hen⟩ := Option.isSome_iff_exists.mp hlive.symm
  have hfree := Entry.claimed_eq_false.mp (hr e en hen)
  have hadv := h.entries e en en' hen ht
  refine Entry.claimed_eq_false.mpr fun c hc => ?_
  obtain hc | hc := List.mem_append.mp hc
  · obtain hc | ⟨w, hw, -, rfl⟩ := (hadv.holders c).mp hc
    · exact hfree c (List.mem_append_left _ hc)
    · exact hfree w (List.mem_append_right _ hw)
  · exact hfree c (List.mem_append_right _ (hadv.queue.subset hc))

/-! ### The consistent table -/

theorem State.Consistent.runPasses {s : State} (h : s.Consistent) (quiet : Quiet) (list : List EntrySlot) :
    (s.runPasses quiet list).Consistent :=
  (State.runPasses_ran h quiet list).2.1

theorem State.Consistent.stripAll {s : State} (h : s.Consistent) (r : ReqSlot) (stale : Bool) : (s.stripAll r stale).Consistent :=
  ⟨State.entriesLegal_stripAll h.entries r stale, h.table.stripAll h.entries r stale⟩

theorem State.Consistent.reclaim {s : State} (h : s.Consistent) (r : ReqSlot) (stale : Bool) : (s.reclaim r stale).Consistent :=
  (h.stripAll r stale).runPasses _ _

theorem State.unclaimedBy_stripAll {s : State} (h : s.Consistent) (r : ReqSlot) (stale : Bool) : (s.stripAll r stale).unclaimedBy r := by
  have hdrained : s.Drained := (h.passing 0).off.allDrained
  refine State.unclaimedBy_iff.mpr fun e c hc => ?_
  rw [State.holdersAt_stripAll, hdrained.queueAt_stripAll, ← List.filter_append] at hc
  simpa using (List.mem_filter.mp hc).2

theorem State.Consistent.unclaimed_reclaim {s : State} (h : s.Consistent) (r : ReqSlot) (stale : Bool) :
    (s.reclaim r stale).unclaimedBy r :=
  (State.runPasses_ran (h.stripAll r stale) _ _).1.unclaimed (State.unclaimedBy_stripAll h r stale)

theorem State.TableLegal.vacated {s : State} (h : s.Consistent) (r : ReqSlot) (stale : Bool) : (s.vacated r stale).TableLegal := by
  have hclean : ((s.reclaim r stale).discardNotices r).TableLegal :=
    (h.reclaim r stale).table.congr (fun e => State.holdersAt_congr (by simp)) (fun e => State.queueAt_congr (by simp))
      (by simp) fun r' => by
      rw [State.req_discardNotices]
      split
      · next hr => subst hr; rw [Option.map_map]; rfl
      · rfl
  refine hclean.setReq (fun e en hen => h.unclaimed_reclaim r stale e en (by simpa using hen)) fun q hq => by cases hq

theorem State.TableLegal.of_sameStore {s t : State} (h : s.TableLegal) (hst : SameStore s t) : t.TableLegal :=
  h.congr (fun e => State.holdersAt_congr (hst.entry e)) (fun e => State.queueAt_congr (hst.entry e)) hst.freeRecords
    fun r => by rw [hst.req]

/-! ### The tick -/

/-- A record whose countdown lost one period. -/
def Claim.ticked (c : Claim) : Claim := { c with deadline := lowered c.deadline }

theorem State.queueAt_lowerAll (s : State) (e : EntrySlot) : s.lowerAll.queueAt e = (s.queueAt e).map Claim.ticked := by
  unfold State.queueAt
  rw [State.entry_lowerAll]
  cases s.entry e <;> rfl

theorem State.holdersAt_lowerAll (s : State) (e : EntrySlot) : s.lowerAll.holdersAt e = (s.holdersAt e).map Claim.ticked := by
  unfold State.holdersAt
  rw [State.entry_lowerAll]
  cases s.entry e <;> rfl

theorem State.req_lowerAll (s : State) (r : ReqSlot) :
    s.lowerAll.req r = (s.req r).map fun q => { q with tenureLeft := lowered q.tenureLeft } := by
  simp [State.req, State.lowerAll]

theorem State.Coherent.tick {s : State} (h : s.Coherent) : s.lowerAll.Coherent := by
  have hmem : ∀ e c', c' ∈ s.lowerAll.queueAt e → ∃ c ∈ s.queueAt e, c.ticked = c' := fun e c' hc' => by
    rw [State.queueAt_lowerAll] at hc'
    exact List.mem_map.mp hc'
  have hback : ∀ e c, c ∈ s.queueAt e → c.ticked ∈ s.lowerAll.queueAt e := fun e c hc => by
    rw [State.queueAt_lowerAll]
    exact List.mem_map_of_mem hc
  refine ⟨fun e d hd hn => ?_, fun e e' d d' hd hd' hn hid => ?_, fun e d hd hn => ?_, fun e e' d d' hd hd' hn hid hf hf' => ?_,
    fun e d hd hn hf => ?_⟩
  · obtain ⟨c, hc, rfl⟩ := hmem e d hd
    exact h.single e c hc hn
  · obtain ⟨c, hc, rfl⟩ := hmem e d hd
    obtain ⟨c', hc', rfl⟩ := hmem e' d' hd'
    exact h.owner e e' c c' hc hc' hn hid
  · obtain ⟨c, hc, rfl⟩ := hmem e d hd
    obtain ⟨e', c', hc', hid, hf⟩ := h.marked e c hc hn
    exact ⟨e', c'.ticked, hback e' c' hc', hid, hf⟩
  · obtain ⟨c, hc, rfl⟩ := hmem e d hd
    obtain ⟨c', hc', rfl⟩ := hmem e' d' hd'
    obtain ⟨rfl, rfl⟩ := h.unique e e' c c' hc hc' hn hid hf hf'
    exact ⟨rfl, rfl⟩
  · obtain ⟨c, hc, rfl⟩ := hmem e d hd
    have := h.countdown e c hc hn hf
    simp [Claim.ticked, this, lowered]

theorem State.TableLegal.tick {s : State} (h : s.TableLegal) : s.lowerAll.TableLegal := by
  have hreq : ∀ l : List Claim, (l.map Claim.ticked).map Claim.requester = l.map Claim.requester := fun l => by
    simp [Claim.ticked, Function.comp_def]
  have hledger : ∀ r, (s.lowerAll.req r).map Requester.ledger = (s.req r).map Requester.ledger := fun r => by
    rw [State.req_lowerAll, Option.map_map]; rfl
  have hstanding : ∀ r, (s.lowerAll.req r).map Requester.standing = (s.req r).map Requester.standing := fun r => by
    rw [State.req_lowerAll, Option.map_map]; rfl
  have hfrom : ∀ r q', s.lowerAll.req r = some q' → ∃ q, s.req r = some q ∧ q'.holdCount = q.holdCount ∧
      q'.waitCount = q.waitCount ∧ q'.budget = q.budget := fun r q' hq' => by
    rw [State.req_lowerAll] at hq'
    obtain ⟨q, hq, rfl⟩ := Option.map_eq_some_iff.mp hq'
    exact ⟨q, hq, rfl, rfl, rfl⟩
  have hhold : ∀ r, s.lowerAll.holdTotal r = s.holdTotal r := fun r => Finset.sum_congr rfl fun e _ => by
    rw [State.holdersAt_lowerAll]; exact countP_requester_congr (hreq _) r
  have hwait : ∀ r, s.lowerAll.waitTotal r = s.waitTotal r := fun r => Finset.sum_congr rfl fun e _ => by
    rw [State.queueAt_lowerAll]; exact countP_requester_congr (hreq _) r
  have huse : s.lowerAll.inUse = s.inUse := Finset.sum_congr rfl fun e _ => by
    rw [State.holdersAt_lowerAll, State.queueAt_lowerAll, List.length_map, List.length_map]
  refine ⟨fun e c' hc' => ?_, fun e => ?_, h.sets.tick, by rw [huse]; exact h.pool, fun r q' hq' => ?_, fun r q' hq' => ?_⟩
  · rw [State.isSome_of_standing hstanding]
    rw [State.holdersAt_lowerAll, State.queueAt_lowerAll, ← List.map_append] at hc'
    obtain ⟨c, hc, rfl⟩ := List.mem_map.mp hc'
    exact h.owned e c hc
  · rw [State.priority_of_standing hstanding, State.queueAt_lowerAll, List.pairwise_map]
    exact h.ordered e
  · obtain ⟨q, hq, hh, hw, -⟩ := hfrom r q' hq'
    rw [hhold, hwait, hh, hw]
    exact h.counts r q hq
  · obtain ⟨q, hq, hh, hw, hb⟩ := hfrom r q' hq'
    rw [hh, hw, hb]
    exact h.budget r q hq

end Sys2Proof.Machine
end

section
/-! The removal of the waits and the revocation of the holds of a retired entry, step by step (R16 to R18). -/

namespace Sys2Proof.Machine

/-! ### Outcomes that are told -/

/-- From s to t slots, the pool, the counts and the notices changed, with notices queued for some of these outcomes in their order. -/
structure Telling (out : List (ReqSlot × NoticeBody)) (s t : State) : Prop where
  generations : ∀ e, t.generation e = s.generation e
  requesters : ∀ r, ∃ holds waits overrun,
    t.req r = (s.req r).map (fun q =>
      { q with holdCount := holds, waitCount := waits, overrun := q.overrun || overrun }) ∧
    (overrun = true → Config.noticeCapacity ≤ (t.noticeQueue r).length)
  notices : ∃ new, t.notices = s.notices ++ new ∧ (new.map fun n => (n.owner, n.body)).Sublist out
  rest : t = { s with
    slots := t.slots, freeRecords := t.freeRecords, requesters := t.requesters, notices := t.notices
    noticeSerial := t.noticeSerial }

/-- A change of slots, the pool and the counts that tells nothing. -/
theorem Telling.of_silent {s t : State} (hgen : ∀ e, t.generation e = s.generation e)
    (hreq : ∀ r, ∃ holds waits : Nat → Nat, t.req r = (s.req r).map fun q =>
      { q with holdCount := holds q.holdCount, waitCount := waits q.waitCount })
    (hrest : t = { s with slots := t.slots, freeRecords := t.freeRecords, requesters := t.requesters }) : Telling [] s t := by
  have hnot : t.notices = s.notices := by rw [hrest]
  refine ⟨hgen, fun r => ?_, ⟨[], by simp [hnot], by simp⟩, ?_⟩
  · obtain ⟨holds, waits, h⟩ := hreq r
    cases hq : s.req r with
    | none => exact ⟨0, 0, false, by rw [h, hq]; rfl, by simp⟩
    | some q => exact ⟨holds q.holdCount, waits q.waitCount, false, by rw [h, hq]; simp, by simp⟩
  · have hserial : t.noticeSerial = s.noticeSerial := by rw [hrest]
    rw [hnot, hserial]
    exact hrest

theorem Telling.refl (s : State) : Telling [] s s := .of_silent (fun _ => rfl) (fun r => ⟨id, id, by simp⟩) rfl

theorem Telling.trans {out out' : List (ReqSlot × NoticeBody)} {s t u : State} (h : Telling out s t) (g : Telling out' t u) :
    Telling (out ++ out') s u := by
  obtain ⟨new, hnew, hsub⟩ := h.notices
  obtain ⟨new', hnew', hsub'⟩ := g.notices
  refine ⟨fun e => (g.generations e).trans (h.generations e), fun r => ?_,
    ⟨new ++ new', by rw [hnew', hnew, List.append_assoc], by rw [List.map_append]; exact hsub.append hsub'⟩, ?_⟩
  · obtain ⟨_, _, overrun, ht, hfull⟩ := h.requesters r
    obtain ⟨holds, waits, overrun', hu, hfull'⟩ := g.requesters r
    refine ⟨holds, waits, overrun || overrun', ?_, fun ho => ?_⟩
    · rw [hu, ht, Option.map_map]
      cases s.req r <;> simp [Bool.or_assoc]
    · obtain ho | ho := Bool.or_eq_true_iff.mp ho
      · have := hfull ho
        rw [State.noticeQueue_of_append hnew', List.length_append]
        omega
      · exact hfull' ho
  · have hr := congrArg (fun x : State => { x with
      slots := u.slots, freeRecords := u.freeRecords, requesters := u.requesters, notices := u.notices
      noticeSerial := u.noticeSerial }) h.rest
    exact g.rest.trans hr

theorem Telling.overrun_kept {out : List (ReqSlot × NoticeBody)} {s t : State} (h : Telling out s t) {r : ReqSlot} {q : Requester}
    (hq : s.req r = some q) (ho : q.overrun = true) : ∃ q', t.req r = some q' ∧ q'.overrun = true := by
  obtain ⟨holds, waits, overrun, ht, -⟩ := h.requesters r
  rw [hq] at ht
  exact ⟨_, ht, by simp [ho]⟩

/-- What was told stays told. -/
theorem Telling.told_before {out out' : List (ReqSlot × NoticeBody)} {s t u : State} (h : Telling out s t) (g : Telling out' t u)
    {r : ReqSlot} {e : EntrySlot} {gen : Byte} {body : NoticeBody} (ht : Told s t r e gen body) : Told s u r e gen body := by
  obtain ⟨new, hnew, -⟩ := h.notices
  obtain ⟨new', hnew', -⟩ := g.notices
  exact Told.trans hnew hnew' (fun q hq ho => g.overrun_kept hq ho) (.inl ht)

theorem Telling.told_after {out out' : List (ReqSlot × NoticeBody)} {s t u : State} (h : Telling out s t) (g : Telling out' t u)
    {r : ReqSlot} {e : EntrySlot} {gen : Byte} {body : NoticeBody} (ht : Told t u r e gen body) : Told s u r e gen body := by
  obtain ⟨new, hnew, -⟩ := h.notices
  obtain ⟨new', hnew', -⟩ := g.notices
  exact Told.trans hnew hnew' (fun q hq ho => g.overrun_kept hq ho) (.inr ht)

theorem Telling.queueNotice (s : State) (r : ReqSlot) (e : EntrySlot) (body : NoticeBody) :
    Telling [(r, body)] s (s.queueNotice r e body) := by
  have hnot := s.notices_queueNotice r e body
  refine ⟨fun e' => State.generation_queueNotice s r e body e', fun r' => ?_, ⟨_, hnot, ?_⟩, ?_⟩
  · have hreq := s.req_queueNotice r e body r'
    cases hq : s.req r' with
    | none => exact ⟨0, 0, false, by rw [hreq, hq]; rfl, by simp⟩
    | some q =>
      rw [hq] at hreq
      refine ⟨q.holdCount, q.waitCount, _, hreq, fun ho => ?_⟩
      obtain ⟨rfl, hfull⟩ := of_decide_eq_true ho
      rw [State.noticeQueue_of_append hnot, List.length_append]
      omega
  · split
    · exact List.Sublist.refl _
    · exact List.nil_sublist _
  · have hrest := State.OnlyClaims.queueNotice s r e body
    unfold State.OnlyClaims at hrest
    have hfree : (s.queueNotice r e body).freeRecords = s.freeRecords := State.freeRecords_queueNotice s r e body
    rw [hfree]
    exact hrest

theorem Told.queueNotice {s : State} {r : ReqSlot} (hr : (s.req r).isSome) (e : EntrySlot) (body : NoticeBody) :
    Told s (s.queueNotice r e body) r e (s.generation e) body := by
  have hnot := s.notices_queueNotice r e body
  by_cases hroom : (s.noticeQueue r).length < Config.noticeCapacity
  · rw [if_pos ⟨hr, hroom⟩] at hnot
    exact .inl ⟨_, newNotices_of_append hnot ▸ List.mem_singleton_self _, rfl, rfl, rfl, rfl⟩
  · obtain ⟨q, hq⟩ := Option.isSome_iff_exists.mp hr
    have hfull : Config.noticeCapacity ≤ (s.noticeQueue r).length := by omega
    refine .inr ⟨?_, _, by rw [State.req_queueNotice, hq]; rfl, by simp [hfull]⟩
    rw [State.noticeQueue_of_append hnot, List.length_append]
    omega

/-! ### Removals tell nothing -/

theorem Telling.modifyEntry (s : State) (e : EntrySlot) (f : Entry → Entry) : Telling [] s (s.modifyEntry e f) := by
  refine .of_silent (fun e' => State.generation_modifyEntry s e f e') (fun r => ⟨id, id, by simp⟩) ?_
  unfold State.modifyEntry
  split <;> rfl

theorem Telling.freeRecords (s : State) (n : Nat) : Telling [] s { s with freeRecords := n } :=
  .of_silent (fun _ => rfl) (fun r => ⟨id, id, (by simp : s.req r = (s.req r).map _)⟩) rfl

theorem Telling.subCounts (s : State) (r : ReqSlot) (holds waits : Nat) : Telling [] s (s.subCounts r holds waits) := by
  refine .of_silent (fun e => State.generation_modifyReq s r _ e) (fun r' => ?_) ?_
  · rw [State.req_subCounts]
    split
    · next hr => subst hr; exact ⟨(· - holds), (· - waits), rfl⟩
    · exact ⟨id, id, by simp⟩
  · unfold State.subCounts State.modifyReq
    split <;> rfl

theorem Telling.foldl_modifyEntry (s : State) (l : List EntrySlot) (f : Entry → Entry) :
    Telling [] s (l.foldl (fun s e => s.modifyEntry e f) s) := by
  induction l generalizing s with
  | nil => exact .refl s
  | cons e l ih => exact Telling.trans (.modifyEntry s e f) (ih _)

theorem Telling.recomputeAll {s : State} (h : s.Kept) (es : List EntrySlot) : Telling [] s (s.recomputeAll es) := by
  rw [h.recomputeAll_eq]
  exact .foldl_modifyEntry s es _

theorem Telling.dropWait (s : State) (r : ReqSlot) (e : EntrySlot) : Telling [] s (s.dropWait r e) := by
  unfold State.dropWait
  exact Telling.trans (Telling.trans (.modifyEntry s e _) (.freeRecords _ _)) (.subCounts _ _ _ _)

theorem Telling.dropHold (s : State) (r : ReqSlot) (e : EntrySlot) (stale : Bool) : Telling [] s (s.dropHold r e stale) := by
  unfold State.dropHold
  exact Telling.trans (Telling.trans (.modifyEntry s e _) (.freeRecords _ _)) (.subCounts _ _ _ _)

theorem Telling.dropSet (s : State) (r : ReqSlot) (id : Word16) : Telling [] s (s.dropSet r id) := by
  unfold State.dropSet
  exact Telling.trans (Telling.trans (.foldl_modifyEntry s _ _) (.freeRecords _ _)) (.subCounts _ _ _ _)

/-! ### The waits of a retired entry -/

/-- Whether a record belongs to the claim set of one of these records. -/
def removedBy (done : List Claim) (c : Claim) : Bool := done.any fun d => d.setId.isSome && c.setId = d.setId

theorem removedBy_append_single {done : List Claim} {c : Claim} (hc : c.setId = none) (d : Claim) :
    removedBy (done ++ [c]) d = removedBy done d := by
  simp [removedBy, hc]

theorem removedBy_append_set {done : List Claim} {c : Claim} {id : Word16} (hc : c.setId = some id) (d : Claim) :
    removedBy (done ++ [c]) d = (removedBy done d || decide (d.setId = some id)) := by
  simp [removedBy, hc]

/-- An entry whose records of the removed sets are gone. -/
def Entry.withoutSets (en : Entry) (done : List Claim) : Entry := { en with queue := en.queue.filter fun c => !removedBy done c }

/-- The state after the waits `done` of the entry e are removed, with `rest` to come, and the other members of the removed sets. -/
structure Cancelled (s : State) (e : EntrySlot) (en : Entry) (done rest : List Claim) (u : State) (list : List EntrySlot) : Prop where
  off : u.LegalOff {e}
  table : u.TableLegal
  entry : u.entry e = some { en with queue := rest }
  others : ∀ e', e' ≠ e → u.entry e' = (s.entry e').map fun x => (x.withoutSets done).settle
  list : ∀ e', e' ∈ list ↔ e' ≠ e ∧ ∃ c ∈ s.queueAt e', removedBy done c = true
  telling : Telling (done.map fun c => (c.requester, .waitCancelled c.setId)) s u
  told : ∀ c ∈ done, c.setId = none → Told s u c.requester e (s.generation e) (.waitCancelled none)
  toldSets : ∀ c ∈ done, ∀ id, c.setId = some id → ∀ e' x, x ∈ s.queueAt e' → x.setId = some id → x.firstMember = true →
    Told s u c.requester e' (s.generation e') (.waitCancelled (some id))

/-- The step from one wait to the next, told with its notice. -/
theorem Cancelled.step {s : State} {e : EntrySlot} {en : Entry} {done rest : List Claim} {u t : State} {list list' : List EntrySlot}
    {c : Claim} (h : Cancelled s e en done (c :: rest) u list) (hoff : t.LegalOff {e}) (htable : t.TableLegal)
    (hentry : t.entry e = some { en with queue := rest })
    (hothers : ∀ e', e' ≠ e → t.entry e' = (s.entry e').map fun x => (x.withoutSets (done ++ [c])).settle)
    (hlist : ∀ e', e' ∈ list' ↔ e' ≠ e ∧ ∃ d ∈ s.queueAt e', removedBy (done ++ [c]) d = true)
    (htelling : Telling [(c.requester, .waitCancelled c.setId)] u t)
    (htold : c.setId = none → Told u t c.requester e (u.generation e) (.waitCancelled none))
    (htoldSet : ∀ id, c.setId = some id → ∀ e' x, x ∈ s.queueAt e' → x.setId = some id → x.firstMember = true →
      Told u t c.requester e' (u.generation e') (.waitCancelled (some id))) :
    Cancelled s e en (done ++ [c]) rest t list' := by
  refine ⟨hoff, htable, hentry, hothers, hlist, ?_, fun d hd hn => ?_, fun d hd id hid e' x hx hxid hf => ?_⟩
  · rw [List.map_append]
    exact h.telling.trans htelling
  · obtain hd | hd := List.mem_append.mp hd
    · exact h.telling.told_before htelling (h.told d hd hn)
    · obtain rfl := List.mem_singleton.mp hd
      rw [← h.telling.generations]
      exact h.telling.told_after htelling (htold hn)
  · obtain hd | hd := List.mem_append.mp hd
    · exact h.telling.told_before htelling (h.toldSets d hd id hid e' x hx hxid hf)
    · obtain rfl := List.mem_singleton.mp hd
      rw [← h.telling.generations]
      exact h.telling.told_after htelling (htoldSet id hid e' x hx hxid hf)

theorem Cancelled.distinct {s : State} {e : EntrySlot} {en : Entry} {done rest : List Claim} {u : State} {list : List EntrySlot} {c : Claim}
    (h : Cancelled s e en done (c :: rest) u list) : ∀ d ∈ rest, d.requester ≠ c.requester := by
  have hnodup := h.off.sound.nodup_queue e
  rw [State.queueAt_of_entry h.entry, List.map_cons, List.nodup_cons] at hnodup
  exact fun d hd hr => hnodup.1 (List.mem_map.mpr ⟨d, hd, hr⟩)

theorem Entry.withoutSets_congr (en : Entry) {done done' : List Claim} (h : ∀ c ∈ en.queue, removedBy done c = removedBy done' c) :
    en.withoutSets done = en.withoutSets done' := by
  have hq : en.queue.filter (fun c => !removedBy done c) = en.queue.filter fun c => !removedBy done' c :=
    List.filter_congr fun c hc => by rw [h c hc]
  simp only [Entry.withoutSets, hq]

theorem Cancelled.cancelSingle {s : State} {e : EntrySlot} {en : Entry} {done rest : List Claim} {u : State} {list : List EntrySlot}
    {c : Claim} (h : Cancelled s e en done (c :: rest) u list) (hid : c.setId = none) :
    Cancelled s e en (done ++ [c]) rest ((u.dropWait c.requester e).queueNotice c.requester e (.waitCancelled none)) list := by
  have hc : c ∈ u.queueAt e := by rw [State.queueAt_of_entry h.entry]; exact List.mem_cons_self
  have hfilter : (c :: rest).filter (fun d => d.requester ≠ c.requester) = rest := by
    rw [List.filter_cons_of_neg (by simp)]
    exact List.filter_eq_self.mpr fun d hd => by simpa using h.distinct d hd
  have hopen : ((u.dropWait c.requester e).req c.requester).isSome := by
    have := h.table.owned e c (List.mem_append_right _ hc)
    rw [State.req_dropWait, if_pos rfl, Option.isSome_map]
    exact this
  have hsilent := Telling.dropWait u c.requester e
  have hnotice := Telling.queueNotice (u.dropWait c.requester e) c.requester e (.waitCancelled none)
  refine h.step ((h.off.dropWait (Set.mem_singleton e)).notify (.notice _ _ _))
    ((h.table.dropWait h.off.sound hc rfl hid).queueNotice _ _ _) ?_ (fun e' he' => ?_) (fun e' => ?_) ?_ (fun _ => ?_)
    (fun id hid' => by rw [hid] at hid'; cases hid')
  · rw [State.entry_queueNotice, State.entry_dropWait, if_pos rfl, h.entry, Option.map_some, Entry.withoutWait, hfilter]
  · rw [State.entry_queueNotice, State.entry_dropWait, if_neg (Ne.symm he'), h.others e' he']
    refine congrArg (fun f => (s.entry e').map f) (funext fun x => congrArg Entry.settle (x.withoutSets_congr fun d _ => ?_))
    rw [removedBy_append_single hid]
  · rw [h.list]
    simp only [removedBy_append_single hid]
  · rw [hid]
    exact hsilent.trans hnotice
  · rw [← hsilent.generations]
    exact hsilent.told_after hnotice (Told.queueNotice hopen e _)

theorem Entry.settle_withQueue (en : Entry) (queue : List Claim) :
    ({ en.settle with queue := queue } : Entry).settle = ({ en with queue := queue } : Entry).settle := by
  unfold Entry.settle
  by_cases hr : en.state = .retiring
  · simp [hr]
  · simp only [hr, if_false, en.derivedState_ne_retiring]
    rfl

theorem Cancelled.kept {s : State} {e : EntrySlot} {en : Entry} {done rest : List Claim} {u : State} {list : List EntrySlot}
    (h : Cancelled s e en done rest u list) (hs : s.Kept) (hen : s.entry e = some en) : u.Kept := by
  intro e' x hx hr
  by_cases he : e' = e
  · subst he
    rw [h.entry, Option.some.injEq] at hx
    subst hx
    exact hs e' en hen hr
  · rw [h.others e' he] at hx
    obtain ⟨y, hy, rfl⟩ := Option.map_eq_some_iff.mp hx
    rw [Entry.settle_holders]
    exact hs e' y hy ((y.withoutSets done).settle_retiring.mp hr)

/-- A record that stands in a queue after removals stood there before. -/
theorem Cancelled.mem_queueAt {s : State} {e : EntrySlot} {en : Entry} {done rest : List Claim} {u : State} {list : List EntrySlot}
    (h : Cancelled s e en done rest u list) {e' : EntrySlot} {d : Claim} :
    d ∈ u.queueAt e' ↔ if e' = e then d ∈ rest else d ∈ s.queueAt e' ∧ removedBy done d = false := by
  by_cases he : e' = e
  · subst he
    rw [State.queueAt_of_entry h.entry, if_pos rfl]
  · rw [if_neg he]
    unfold State.queueAt
    rw [h.others e' he]
    cases s.entry e' with
    | none => simp
    | some x => simp [Entry.settle_queue, Entry.withoutSets]

theorem State.Kept.of_entries {s t : State} (h : s.Kept)
    (he : ∀ e en', t.entry e = some en' → ∃ en, s.entry e = some en ∧ en'.state = en.state ∧ en'.holders = en.holders) : t.Kept := by
  intro e en' ht hr
  obtain ⟨en, hen, hst, hh⟩ := he e en' ht
  rw [hh]
  exact h e en hen (hst ▸ hr)

theorem Entry.recomputed_of_kept {en : Entry} (h : en.state = .retiring → en.holders ≠ []) : en.recomputed = some en.settle := by
  unfold Entry.recomputed Entry.settle
  split
  · next hr => rw [if_neg (by simpa using h hr)]
  · rfl

theorem Cancelled.cancelSet {s : State} {e : EntrySlot} {en : Entry} {done rest : List Claim} {u : State} {list : List EntrySlot}
    {c : Claim} {id : Word16} (hs : s.Consistent) (hen : s.entry e = some en) (hsub : (c :: rest).Sublist en.queue)
    (h : Cancelled s e en done (c :: rest) u list) (hid : c.setId = some id) :
    Cancelled s e en (done ++ [c]) rest (Machine.cancelWait e (u, list) c).1 (Machine.cancelWait e (u, list) c).2 := by
  have hframe : CancelFrame e en [] u := ⟨h.off, c :: rest, h.entry, hsub, by simp⟩
  have hoff := (hframe.cancelWait (acc := (u, list)) c).legal
  have hmem := fun {e' : EntrySlot} {d : Claim} => h.mem_queueAt (e' := e') (d := d)
  have hcs : c ∈ s.queueAt e := State.mem_queueAt.mpr ⟨en, hen, hsub.subset List.mem_cons_self⟩
  have hcu : c ∈ u.queueAt e := by rw [State.queueAt_of_entry h.entry]; exact List.mem_cons_self
  have hcin : c.inSet c.requester id = true := by simp [Claim.inSet, hid]
  have hin : ∀ e' d, d ∈ s.queueAt e' → (d.inSet c.requester id = true ↔ d.setId = some id) := fun e' d hd => by
    refine ⟨fun hd => ?_, fun hd' => hs.table.sets.inSet hcs hd hcin (hd'.trans hid.symm)⟩
    simp only [Claim.inSet, Bool.and_eq_true, decide_eq_true_eq] at hd
    exact hd.2
  have hus : ∀ e' d, d ∈ u.queueAt e' → d ∈ s.queueAt e' := fun e' d hd => by
    have hd := hmem.mp hd
    split at hd
    · next he' => subst he'; exact State.mem_queueAt.mpr ⟨en, hen, hsub.subset hd⟩
    · exact hd.1
  have hkept := h.kept (State.kept_of_entriesLegal hs.entries) hen
  generalize hv : (u.dropSet c.requester id).queueNotice c.requester
    (match u.firstMember c.requester id with | some (f, _) => f | none => e) (.waitCancelled (some id)) = v
  have hentryV : ∀ x, v.entry x = (u.entry x).map (·.withoutSet c.requester id) := fun x => by
    rw [← hv, State.entry_queueNotice, State.entry_dropSet]
  have hkeptV : v.Kept := hkept.of_entries fun x en' hx => by
    rw [hentryV] at hx
    obtain ⟨y, hy, rfl⟩ := Option.map_eq_some_iff.mp hx
    exact ⟨y, hy, rfl, rfl⟩
  have hdrainedV : v.Drained := fun x en' hx => by
    rw [hentryV] at hx
    obtain ⟨y, hy, rfl⟩ := Option.map_eq_some_iff.mp hx
    exact (h.off x y hy).2.1.reduce (y.reduced_withoutSet c.requester id)
  have hstep : Machine.cancelWait e (u, list) c =
      (v.recomputeAll ((u.setMembers c.requester id).filter fun m => m ≠ e),
        list ++ (u.setMembers c.requester id).filter fun m => m ≠ e) := by
    subst hv
    simp only [Machine.cancelWait, hid] <;> rfl
  have hothers : ∀ x, x ∈ (u.setMembers c.requester id).filter (fun m => m ≠ e) ↔
      x ≠ e ∧ ∃ d ∈ s.queueAt x, d.setId = some id ∧ removedBy done d = false := fun x => by
    rw [List.mem_filter, State.mem_setMembers_iff, decide_eq_true_eq, and_comm]
    refine and_congr_right fun hx => ⟨?_, ?_⟩
    · rintro ⟨d, hd, hdin⟩
      have hdm := hmem.mp hd
      rw [if_neg hx] at hdm
      exact ⟨d, hdm.1, (hin x d hdm.1).mp hdin, hdm.2⟩
    · rintro ⟨d, hd, hdid, hdr⟩
      exact ⟨d, hmem.mpr (by rw [if_neg hx]; exact ⟨hd, hdr⟩), (hin x d hd).mpr hdid⟩
  have hsilent := Telling.dropSet u c.requester id
  have hnotice := Telling.queueNotice (u.dropSet c.requester id) c.requester
    (match u.firstMember c.requester id with | some (f, _) => f | none => e) (.waitCancelled (some id))
  have htold := fun hopen => Told.queueNotice (s := u.dropSet c.requester id) (r := c.requester) hopen
    (match u.firstMember c.requester id with | some (f, _) => f | none => e) (.waitCancelled (some id))
  have htableV : v.TableLegal := hv ▸ (h.table.dropSet h.off.sound c.requester id).queueNotice _ _ _
  rw [hv] at hnotice htold
  rw [hstep] at hoff ⊢
  have hrecompute := Telling.recomputeAll hkeptV ((u.setMembers c.requester id).filter fun m => m ≠ e)
  refine h.step hoff (htableV.recomputeAll hdrainedV _) ?_ (fun e' he' => ?_) (fun e' => ?_) ?_
    (fun hn => by rw [hid] at hn; cases hn) (fun id' hid' e' x hx hxid hf => ?_)
  · have hfilter : (c :: rest).filter (fun d => !d.inSet c.requester id) = rest := by
      rw [List.filter_cons_of_neg (by simp [hcin])]
      exact List.filter_eq_self.mpr fun d hd => by simp [Claim.inSet, h.distinct d hd]
    rw [State.entry_recomputeAll, if_neg (by simp), hentryV, h.entry, Option.map_some, Entry.withoutSet, hfilter]
  · rw [State.entry_recomputeAll, hentryV, h.others e' he']
    cases hx : s.entry e' with
    | none => simp
    | some x =>
      have hqueue : ∀ d ∈ x.queue, d ∈ s.queueAt e' := fun d hd => State.mem_queueAt.mpr ⟨x, hx, hd⟩
      simp only [Option.map_some, Option.bind_some]
      have hwithout : ((x.withoutSets done).settle.withoutSet c.requester id).settle = (x.withoutSets (done ++ [c])).settle := by
        have hfilter : (x.queue.filter fun d => !removedBy done d).filter (fun d => !d.inSet c.requester id) =
            x.queue.filter fun d => !removedBy (done ++ [c]) d := by
          rw [List.filter_filter]
          refine List.filter_congr fun d hd => ?_
          have hiff := hin e' d (hqueue d hd)
          have hdec : d.inSet c.requester id = decide (d.setId = some id) := by rw [Bool.eq_iff_iff, decide_eq_true_eq, hiff]
          rw [removedBy_append_set hid, hdec, Bool.not_or, Bool.and_comm]
        unfold Entry.withoutSet
        rw [Entry.settle_withQueue, Entry.settle_queue]
        simp only [Entry.withoutSets, hfilter]
      split
      · have hk : ((x.withoutSets done).settle.withoutSet c.requester id).state = .retiring →
            ((x.withoutSets done).settle.withoutSet c.requester id).holders ≠ [] :=
          hkeptV e' _ (by rw [hentryV, h.others e' he', hx]; rfl)
        rw [Entry.recomputed_of_kept hk, hwithout]
      · next hno =>
        have hnone : ∀ d ∈ x.queue, d.setId = some id → removedBy done d = true := fun d hd hdid => by
          by_contra hr
          exact hno ((hothers e').mpr ⟨he', d, hqueue d hd, hdid, by simpa using hr⟩)
        have hsame : x.withoutSets done = x.withoutSets (done ++ [c]) := x.withoutSets_congr fun d hd => by
          rw [removedBy_append_set hid]
          by_cases hdid : d.setId = some id
          · simp [hnone d hd hdid]
          · simp [hdid]
        refine congrArg some ((Entry.withoutSet_of_none fun d hd => ?_).trans (congrArg Entry.settle hsame))
        rw [Entry.settle_queue] at hd
        obtain ⟨hd, hr⟩ := List.mem_filter.mp hd
        by_contra hdin
        have := hnone d hd ((hin e' d (hqueue d hd)).mp (by simpa using hdin))
        simp [this] at hr
  · rw [List.mem_append, h.list, hothers]
    simp only [removedBy_append_set hid, Bool.or_eq_true, decide_eq_true_eq]
    constructor
    · rintro (⟨hne, d, hd, hr⟩ | ⟨hne, d, hd, hdid, -⟩)
      · exact ⟨hne, d, hd, .inl hr⟩
      · exact ⟨hne, d, hd, .inr hdid⟩
    · rintro ⟨hne, d, hd, hr | hdid⟩
      · exact .inl ⟨hne, d, hd, hr⟩
      · by_cases hr : removedBy done d = true
        · exact .inl ⟨hne, d, hd, hr⟩
        · exact .inr ⟨hne, d, hd, hdid, by simpa using hr⟩
  · rw [hid]
    exact (hsilent.trans hnotice).trans hrecompute
  · obtain rfl : id = id' := Option.some.inj (hid.symm.trans hid')
    have hset : c.setId ≠ none := by simp [hid]
    obtain ⟨e₁, d, hd, hdid, hdf⟩ := h.table.sets.marked e c hcu hset
    obtain ⟨e₀, m, hfirst⟩ := State.firstMember_isSome hd (h.table.sets.inSet hcu hd hcin hdid) hdf
    obtain ⟨d₀, hd₀, hin₀, hf₀, -⟩ := State.firstMember_eq_some hfirst
    obtain ⟨rfl, -⟩ := hs.table.sets.unique e₀ e' d₀ x (hus e₀ d₀ hd₀) hx
      (by rw [(hin e₀ d₀ (hus e₀ d₀ hd₀)).mp hin₀]; simp) (hxid.trans ((hin e₀ d₀ (hus e₀ d₀ hd₀)).mp hin₀).symm) hf₀ hf
    have hopen : ((u.dropSet c.requester id).req c.requester).isSome := by
      have := h.table.owned e c (List.mem_append_right _ hcu)
      rw [State.req_dropSet, if_pos rfl, Option.isSome_map]
      exact this
    have ht := htold hopen
    rw [hfirst] at ht
    rw [← hsilent.generations]
    exact (hsilent.trans hnotice).told_before hrecompute (hsilent.told_after hnotice ht)

/-- The waits of an entry are removed in queue order (R16). -/
theorem State.cancelWaits_cancelled {s : State} (hs : s.Consistent) {e : EntrySlot} {en : Entry} (hen : s.entry e = some en) :
    Cancelled s e en en.queue [] (s.cancelWaits e en).1 (s.cancelWaits e en).2 := by
  have hfold : ∀ (rest done : List Claim) (acc : State × List EntrySlot), rest.Sublist en.queue →
      Cancelled s e en done rest acc.1 acc.2 →
      Cancelled s e en (done ++ rest) [] (rest.foldl (Machine.cancelWait e) acc).1 (rest.foldl (Machine.cancelWait e) acc).2 := by
    intro rest
    induction rest with
    | nil => intro done acc _ h; simpa using h
    | cons c rest ih =>
      intro done acc hsub h
      have hstep : Cancelled s e en (done ++ [c]) rest (Machine.cancelWait e acc c).1 (Machine.cancelWait e acc c).2 := by
        cases hid : c.setId with
        | none =>
          have hsingle := h.cancelSingle hid
          have heq : Machine.cancelWait e acc c =
              ((acc.1.dropWait c.requester e).queueNotice c.requester e (.waitCancelled none), acc.2) := by
            simp only [Machine.cancelWait, hid]
          rw [heq]
          exact hsingle
        | some id => exact h.cancelSet hs hen hsub hid
      have := ih (done ++ [c]) _ ((List.sublist_cons_self c rest).trans hsub) hstep
      simpa using this
  have hstart : Cancelled s e en [] en.queue s [] := by
    refine ⟨(hs.passing e).off, hs.table, hen, fun e' _ => ?_, fun e' => by simp [removedBy], .refl s, by simp, by simp⟩
    cases hx : s.entry e' with
    | none => rfl
    | some x =>
      have hsettled := (x.legal_iff.mp (hs.entries e' x hx)).2
      have hsame : x.withoutSets [] = x := by simp [Entry.withoutSets, removedBy]
      rw [Option.map_some, hsame]
      unfold Entry.settle
      split
      · rfl
      · next hr => rw [← (Entry.settled_of_ne_retiring hr).mp hsettled]
  exact hfold en.queue [] (s, []) (List.Sublist.refl _) hstart

end Sys2Proof.Machine
end

section
/-! The holds of a retired entry are revoked, a retire keeps the claim table consistent, and so does every step (R16 to R20, R22 to R25). -/

namespace Sys2Proof.Machine

/-! ### The holds of a retired entry -/

/-- The state after the holds `done` of the entry e are revoked, with `rest` to come. -/
structure Revoked (v : State) (e : EntrySlot) (en : Entry) (done rest : List Claim) (u : State) : Prop where
  off : u.LegalOff {e}
  table : u.TableLegal
  entry : ∃ stale, u.entry e = some { en with holders := rest, noteStale := stale }
  others : ∀ e', e' ≠ e → u.entry e' = v.entry e'
  telling : Telling (done.map fun c => (c.requester, .revoked .retired)) v u
  told : ∀ c ∈ done, Told v u c.requester e (v.generation e) (.revoked .retired)

theorem Revoked.step {v : State} {e : EntrySlot} {en : Entry} {done rest : List Claim} {u : State} {c : Claim}
    (h : Revoked v e en done (c :: rest) u) :
    Revoked v e en (done ++ [c]) rest ((u.dropHold c.requester e true).queueNotice c.requester e (.revoked .retired)) := by
  obtain ⟨stale, hentry⟩ := h.entry
  have hc : c ∈ u.holdersAt e := by rw [State.holdersAt_of_entry hentry]; exact List.mem_cons_self
  have hnodup := h.off.sound.nodup_holders e
  rw [State.holdersAt_of_entry hentry, List.map_cons, List.nodup_cons] at hnodup
  have hfilter : (c :: rest).filter (fun d => d.requester ≠ c.requester) = rest := by
    rw [List.filter_cons_of_neg (by simp)]
    refine List.filter_eq_self.mpr fun d hd => decide_eq_true fun hr => hnodup.1 (List.mem_map.mpr ⟨d, hd, hr⟩)
  have hopen : ((u.dropHold c.requester e true).req c.requester).isSome := by
    have := h.table.owned e c (List.mem_append_left _ hc)
    rw [State.req_dropHold, if_pos rfl, Option.isSome_map]
    exact this
  have hsilent := Telling.dropHold u c.requester e true
  have hnotice := Telling.queueNotice (u.dropHold c.requester e true) c.requester e (.revoked .retired)
  have hboth := hsilent.trans hnotice
  refine ⟨(h.off.dropHold (Set.mem_singleton e) true).notify (.notice _ _ _),
    (h.table.dropHold h.off.sound hc rfl true).queueNotice _ _ _, ⟨?_, ?_⟩, fun e' he' => ?_, ?_, fun d hd => ?_⟩
  · exact stale || (true && Entry.holdsExclusive { en with holders := c :: rest, noteStale := stale } c.requester)
  · rw [State.entry_queueNotice, State.entry_dropHold, if_pos rfl, hentry, Option.map_some, Entry.withoutHold, hfilter]
  · rw [State.entry_queueNotice, State.entry_dropHold, if_neg (Ne.symm he'), h.others e' he']
  · rw [List.map_append]
    exact h.telling.trans hboth
  · obtain hd | hd := List.mem_append.mp hd
    · exact h.telling.told_before hboth (h.told d hd)
    · obtain rfl := List.mem_singleton.mp hd
      rw [← h.telling.generations]
      refine h.telling.told_after hboth ?_
      rw [← hsilent.generations]
      exact hsilent.told_after hnotice (Told.queueNotice hopen e _)

/-- The holds of an entry are revoked in slot order (R18). -/
theorem State.revokeHolds_revoked {v : State} {e : EntrySlot} {en en' : Entry} (hoff : v.LegalOff {e}) (htable : v.TableLegal)
    (hen : v.entry e = some en') (hholders : en'.holders = en.holders) : Revoked v e en' en.holders [] (v.revokeHolds e en) := by
  have hfold : ∀ (rest done : List Claim) (u : State), Revoked v e en' done rest u →
      Revoked v e en' (done ++ rest) [] (rest.foldl
        (fun s c => (s.dropHold c.requester e true).queueNotice c.requester e (.revoked .retired)) u) := by
    intro rest
    induction rest with
    | nil => intro done u h; simpa using h
    | cons c rest ih =>
      intro done u h
      have := ih (done ++ [c]) _ h.step
      simpa using this
  refine hfold en.holders [] v ⟨hoff, htable, ⟨en'.noteStale, ?_⟩, fun _ _ => rfl, .refl v, by simp⟩
  rw [hen, ← hholders]

/-! ### A retire keeps the table -/

/-- A FORCE, taken apart: the waits are removed, the holds revoked, the slot freed. -/
structure Forced (s : State) (e : EntrySlot) (en : Entry) (v u : State) (list : List EntrySlot) : Prop where
  cancelled : Cancelled s e en en.queue [] v list
  revoked : Revoked v e { en with queue := [] } en.holders [] u
  steps : s.forceRetire e en = (u.freeSlot e, list)

theorem State.forceRetire_forced {s : State} (hs : s.Consistent) {e : EntrySlot} {en : Entry} (hen : s.entry e = some en) :
    ∃ v u list, Forced s e en v u list := by
  have hcancelled := State.cancelWaits_cancelled hs hen
  exact ⟨_, _, _, hcancelled, State.revokeHolds_revoked hcancelled.off hcancelled.table hcancelled.entry rfl, rfl⟩

theorem Forced.table {s : State} {e : EntrySlot} {en : Entry} {v u : State} {list : List EntrySlot} (h : Forced s e en v u list) :
    (u.freeSlot e).TableLegal := by
  obtain ⟨stale, hentry⟩ := h.revoked.entry
  exact h.revoked.table.freeSlot (by rw [State.holdersAt_of_entry hentry]) (by rw [State.queueAt_of_entry hentry])

/-- A DRAIN, taken apart: the waits are removed and the entry becomes RETIRING. -/
theorem State.drainRetire_eq {s : State} (hs : s.Consistent) {e : EntrySlot} {en : Entry} (hen : s.entry e = some en) :
    s.drainRetire e en =
      ((s.cancelWaits e en).1.setEntry e { en with state := .retiring, queue := [] }, (s.cancelWaits e en).2) := by
  have hentry := (State.cancelWaits_cancelled hs hen).entry
  simp only [State.drainRetire, State.modifyEntry, hentry]

/-- No requester holds a RESERVED entry (Table 1.2). -/
theorem Entry.legal.holders_of_reserved {en : Entry} (h : en.legal) (hr : en.state = .reserved) : en.holders = [] := by
  have hder := (Entry.settled_of_ne_retiring (by simp [hr])).mp (en.legal_iff.mp h).2
  rw [hr] at hder
  by_contra hne
  unfold Entry.derivedState at hder
  rw [if_neg (by simpa using hne)] at hder
  split at hder <;> cases hder

theorem State.TableLegal.retireSteps {s : State} (hs : s.Consistent) {e : EntrySlot} {en : Entry} (hen : s.entry e = some en)
    (force : Bool) : (s.retireSteps e en force).1.1.TableLegal := by
  have hcancelled := State.cancelWaits_cancelled hs hen
  obtain ⟨v, u, list, hforced⟩ := State.forceRetire_forced hs hen
  have hforce : (s.forceRetire e en).1.TableLegal := by rw [hforced.steps]; exact hforced.table
  have hdrain : (s.drainRetire e en).1.TableLegal := by
    rw [State.drainRetire_eq hs hen]
    exact hcancelled.table.setEntry hcancelled.entry rfl rfl
  obtain ⟨-, hst⟩ := en.legal_iff.mp (hs.entries e en hen)
  have hidle : en.state = .idle → en.holders = [] ∧ en.queue = [] := fun hi =>
    Entry.derivedState_eq_idle.mp ((Entry.settled_of_ne_retiring (by simp [hi])).mp hst ▸ hi)
  unfold State.retireSteps
  split
  · next hi =>
    obtain ⟨hh, hq⟩ := hidle hi
    exact hs.table.freeSlot (by rw [State.holdersAt_of_entry hen, hh]) (by rw [State.queueAt_of_entry hen, hq])
  · next hr =>
    refine hcancelled.table.freeSlot ?_ ?_
    · rw [State.holdersAt_of_entry hcancelled.entry]; exact (hs.entries e en hen).holders_of_reserved hr
    · rw [State.queueAt_of_entry hcancelled.entry]
  · split
    · exact hforce
    · exact hdrain
  · split
    · exact hforce
    · exact hdrain
  · split
    · exact hforce
    · exact hs.table

theorem State.Consistent.retireSteps {s : State} (hs : s.Consistent) {e : EntrySlot} {en : Entry} (hen : s.entry e = some en)
    (force : Bool) : (s.retireSteps e en force).1.1.Consistent :=
  ⟨State.entriesLegal_retireSteps hs.entries hen force, State.TableLegal.retireSteps hs hen force⟩

/-! ### The removals with their recomputation -/

theorem State.Consistent.endHold {s : State} (h : s.Consistent) {r : ReqSlot} {e : EntrySlot} {en : Entry} (hen : s.entry e = some en)
    (hr : (en.hold r).isSome) (stale : Bool) {notify : State → State} (hn : Notifying notify) :
    ((notify (s.dropHold r e stale)).recompute e).Consistent := by
  have hoff := ((h.passing e).off.dropHold (r := r) (Set.mem_singleton e) stale).notify hn
  obtain ⟨c, hc, hcr⟩ := Entry.hold_isSome.mp hr
  have htable := (h.table.dropHold h.sound (State.mem_holdersAt.mpr ⟨en, hen, hc⟩) hcr stale).notify hn
  exact ⟨hoff.recompute, htable.recompute hoff.allDrained e⟩

theorem State.Consistent.endWait {s : State} (h : s.Consistent) {r : ReqSlot} {e : EntrySlot} {en : Entry} {c : Claim}
    (hen : s.entry e = some en) (hc : en.wait r = some c) (hid : c.setId = none) {notify : State → State} (hn : Notifying notify) :
    ((notify (s.dropWait r e)).recompute e).Consistent := by
  have hoff := ((h.passing e).off.dropWait (r := r) (Set.mem_singleton e)).notify hn
  obtain ⟨hmem, hcr⟩ := Entry.mem_of_wait hc
  have htable := (h.table.dropWait h.sound (State.mem_queueAt.mpr ⟨en, hen, hmem⟩) hcr hid).notify hn
  exact ⟨hoff.recompute, htable.recompute hoff.allDrained e⟩

theorem State.Consistent.dropSet {s : State} (h : s.Consistent) (r : ReqSlot) (id : Word16) {notify : State → State}
    (hn : Notifying notify) : ((notify (s.dropSet r id)).recomputeAll (s.setMembers r id)).Consistent := by
  have hoff : s.LegalOff {x | x ∈ s.setMembers r id} := (s.legalOff_empty.mpr h.entries).mono (Set.empty_subset _)
  have hdrop := (hoff.dropSet fun x hx => hx).notify hn
  have hend := hdrop.recomputeAll (s.setMembers r id)
  rw [Set.sdiff_self] at hend
  have htable := (h.table.dropSet h.sound r id).notify hn
  exact ⟨(State.legalOff_empty _).mp hend, htable.recomputeAll hdrop.allDrained _⟩

/-! ### Placements, limits and modes -/

theorem State.Consistent.place {s : State} (h : s.Consistent) {r : ReqSlot} {q : Requester} {e : EntrySlot} {en : Entry} (m : Mode)
    (limit : Nat) (hen : s.entry e = some en) (hq : s.req r = some q) (ha : ClaimAllowed s r q en) :
    (s.place e ⟨r, m, none, false, waitDeadline limit⟩).Consistent :=
  ⟨State.entriesLegal_place h.entries hen ha.2.1 ha.1,
    h.table.place (c := ⟨r, m, none, false, waitDeadline limit⟩) (h.room_of_allowed hq ha) (.single rfl rfl) hen ha.1⟩

theorem State.Consistent.takeSetId {s : State} (h : s.Consistent) : s.takeSetId.Consistent :=
  ⟨State.entriesLegal_of_entry h.entries fun e => by simp, h.table.takeSetId⟩

/-- The state in which the records of a set stand in their queues. -/
def State.placeRecords (s : State) (r : ReqSlot) (limit : Nat) (members : List (EntrySlot × Mode)) : State :=
  (setRecords r s.takeSetId.setIdCounter limit members).foldl (fun s p => s.place p.1 p.2) s.takeSetId

theorem State.Consistent.placeRecords {s : State} (h : s.Consistent) {r : ReqSlot} {q : Requester} (limit : Nat)
    {members : List (EntrySlot × Mode)} (ha : SetAllowed s r q members) : (s.placeRecords r limit members).Consistent := by
  refine ⟨?_, ?_⟩
  · refine State.entriesLegal_placeAll (r := r) h.takeSetId.entries (by rw [setRecords_map_fst]; exact ha.distinct) fun p hp => ?_
    obtain ⟨hmem, hr, -⟩ := mem_setRecords hp
    obtain ⟨en, hen, hret, hc⟩ := ha.live _ hmem
    exact ⟨hr, en, by simpa using hen, hc, hret⟩
  · refine h.takeSetId.table.placeAll limit (fun e c hc => h.table.fresh (e := e) ?_)
      ⟨q, by simpa using ha.open', ha.budget, ha.pool⟩ ha.distinct fun p hp => ?_
    · rwa [State.queueAt_congr (s.entry_takeSetId e)] at hc
    · obtain ⟨en, hen, hret, -⟩ := ha.live p hp
      exact ⟨en, by simpa using hen, hret⟩

theorem State.Consistent.setLimits {s : State} (h : s.Consistent) {e : EntrySlot} {en : Entry} {share : Nat} (hold : Nat)
    (hen : s.entry e = some en) (hbad : shareLimitBad share = false) (hlen : en.holders.length ≤ share) :
    (s.setEntry e { en with shareLimit := share, holdLimit := hold }).Consistent :=
  ⟨State.entriesLegal_setEntry h.entries (Entry.legal_limited (h.entries e en hen) hbad hlen hold), h.table.setEntry hen rfl rfl⟩

theorem State.Consistent.setHoldMode {s : State} (h : s.Consistent) {e : EntrySlot} {en : Entry} (hen : s.entry e = some en)
    (r : ReqSlot) (hone : en.holders.length = 1) (m : Mode) :
    ((s.setEntry e (en.setHoldMode r m)).recompute e).Consistent := by
  have hreq : (en.setHoldMode r m).holders.map Claim.requester = en.holders.map Claim.requester := by
    rw [Entry.setHoldMode, List.map_map]
    refine List.map_congr_left fun c _ => ?_
    rw [Function.comp_apply]
    split <;> rfl
  obtain ⟨hs, hst⟩ := en.legal_iff.mp (h.entries e en hen)
  have hoff := (h.passing e).off.setEntry (hs.setHoldMode (r := r) hone m) hst.drained fun hn => absurd (Set.mem_singleton e) hn
  exact ⟨State.entriesLegal_setHoldMode h.entries hen r hone m,
    (h.table.setEntry hen hreq rfl).recompute hoff.allDrained e⟩

/-- The holder with the only hold is the only holder (R43, R44). -/
theorem State.Consistent.sole_of_exclusive {s : State} (h : s.Consistent) {e : EntrySlot} {en : Entry} {r : ReqSlot}
    (hen : s.entry e = some en) (hx : en.holdsExclusive r = true) : en.holders.length = 1 := by
  obtain ⟨c, hc, -, hm⟩ := Entry.holdsExclusive_iff.mp hx
  exact (h.sound e en hen).exclusive c hc hm

/-! ### The invariant -/

theorem State.consistent_reset : State.reset.Consistent := by
  have hentry : ∀ e, State.reset.entry e = none := fun e => by simp [State.entry, State.reset]
  have hholders : ∀ e, State.reset.holdersAt e = [] := fun e => by simp [State.holdersAt, hentry]
  have hqueue : ∀ e, State.reset.queueAt e = [] := fun e => by simp [State.queueAt, hentry]
  have hreq : ∀ r, State.reset.req r = none := fun r => by simp [State.req, State.reset]
  refine ⟨State.entriesLegal_reset, fun e c hc => by simp [hholders, hqueue] at hc, fun e => by simp [hqueue],
    ⟨fun e c hc => ?_, fun e e' c c' hc => ?_, fun e c hc => ?_, fun e e' c c' hc => ?_, fun e c hc => ?_⟩, ?_,
    fun r q hq => by simp [hreq] at hq, fun r q hq => by simp [hreq] at hq⟩
  · simp [hqueue] at hc
  · simp [hqueue] at hc
  · simp [hqueue] at hc
  · simp [hqueue] at hc
  · simp [hqueue] at hc
  · have huse : State.reset.inUse = 0 := Finset.sum_eq_zero fun e _ => by simp [hholders, hqueue]
    rw [huse]
    rfl

theorem StoreChange.consistent {s t : State} (hs : s.Consistent) (h : StoreChange s t) : t.Consistent := by
  refine ⟨h.entriesLegal hs.entries, ?_⟩
  induction h with
  | same hst => exact hs.table.of_sameStore hst
  | trans h _ ih ih' => exact ih' ⟨h.entriesLegal hs.entries, ih hs⟩
  | rewritten hq hsame hb =>
    simp only [Prod.mk.injEq] at hsame
    obtain ⟨-, -, hp, hh, hw⟩ := hsame
    exact hs.table.rewrite hq (by rw [hp, hh, hw]) (hb (hs.table.budget _ _ hq))
  | opened hq hh hw =>
    refine hs.table.setReq (hs.table.unclaimed_of_free hq) fun q hq' => ?_
    obtain rfl := Option.some.inj hq'
    exact ⟨hh, hw⟩
  | reclaimed s stale _ => exact (hs.reclaim _ stale).table
  | vacated s stale _ => exact .vacated hs _ stale
  | noticeDropped s r =>
    exact hs.table.congr (fun e => State.holdersAt_congr (by simp)) (fun e => State.queueAt_congr (by simp)) rfl fun r => by simp
  | defined _ _ he =>
    refine hs.table.congr (fun x => ?_) (fun x => ?_) rfl fun r => by simp [State.req, State.setEntry]
    · show State.holdersAt (State.setEntry _ _ _) x = _
      unfold State.holdersAt
      rw [State.entry_setEntry]
      split
      · next hx => subst hx; rw [he]; rfl
      · rfl
    · show State.queueAt (State.setEntry _ _ _) x = _
      unfold State.queueAt
      rw [State.entry_setEntry]
      split
      · next hx => subst hx; rw [he]; rfl
      · rfl
  | retired force he => exact ((hs.retireSteps he force).runPasses _ _).table
  | limited hold he _ _ _ => exact hs.table.setEntry he rfl rfl
  | limitRaised hold he hb hl _ => exact ((hs.setLimits hold he hb hl).runPasses _ _).table
  | noted he _ => exact hs.table.setEntry he rfl rfl
  | granted he hq ha _ => exact hs.table.grantNow (hs.room_of_allowed hq ha) he _ none
  | @placed s r q e en m limit he hq ha _ _ =>
    rw [placeSingle_fst]
    split
    · exact ((hs.place m limit he hq ha).runPasses _ _).table
    · exact (hs.place m limit he hq ha).table
  | setGranted ha _ =>
    refine hs.table.takeSetId.grantAll _ ⟨_, by simpa using ha.open', ha.budget, ha.pool⟩ ha.distinct fun p hp => ?_
    obtain ⟨en, hen, -⟩ := ha.live p hp
    simp [hen]
  | @setPlaced s r q members limit ha _ _ =>
    rw [placeSet_fst]
    exact ((hs.placeRecords limit ha).runPasses _ _).table
  | holdEnded stale he hr hn => exact ((hs.endHold he hr stale hn).runPasses _ _).table
  | waitEnded he hc hid hn => exact ((hs.endWait he hc hid hn).runPasses _ _).table
  | setEnded _ _ _ hn => exact ((hs.dropSet _ _ hn).runPasses _ _).table
  | upgraded he hh _ hsole =>
    exact (hs.setHoldMode he _ ((hs.sound _ _ he).holders_length_of_sole hh hsole) _).table
  | downgraded he hx => exact ((hs.setHoldMode he _ (hs.sole_of_exclusive he hx) _).runPasses _ _).table
  | ticked s => exact hs.table.tick
  | reset hst => exact State.consistent_reset.table.of_sameStore hst

/-- Settles O54: every change of the store keeps the claim table consistent, so every step does. -/
theorem claimTableKept : Obligations.ClaimTableKept := by
  intro s t hs h
  rw [State.consistent_iff] at hs ⊢
  exact step_keeps_of_storeChange (fun _ _ hs h => StoreChange.consistent hs h) hs h

end Sys2Proof.Machine
end

section
/-! No lost grant: when no head can be granted before a step, none can after it (R34, R35, R59, R61). -/

namespace Sys2Proof.Machine

/-! ### What keeps heads blocked -/

/-- At the slot x nothing more can be granted in u than in s: no one waits there, or the same head under no wider holders. -/
def State.Narrower (s u : State) (x : EntrySlot) : Prop :=
  u.queueAt x = [] ∨ ∃ en en', s.entry x = some en ∧ u.entry x = some en' ∧
    en'.queue.head?.map Claim.key = en.queue.head?.map Claim.key ∧ ∀ m, en'.fits m = true → en.fits m = true

theorem State.narrower_of_entry {s u : State} {x : EntrySlot} (h : u.entry x = s.entry x) : s.Narrower u x := by
  cases hs : s.entry x with
  | none => exact .inl (by simp [State.queueAt, h, hs])
  | some en => exact .inr ⟨en, en, hs, h.trans hs, rfl, fun _ hf => hf⟩

theorem State.narrower_of_front {s u : State} {x : EntrySlot} (h : (u.entry x).map Entry.front = (s.entry x).map Entry.front) :
    s.Narrower u x := by
  cases hu : u.entry x with
  | none => exact .inl (by simp [State.queueAt, hu])
  | some en' =>
    rw [hu, Option.map_some] at h
    obtain ⟨en, hen, hf⟩ := Option.map_eq_some_iff.mp h.symm
    refine .inr ⟨en, en', hen, hu, ?_, fun m hm => by rw [Entry.fits_of_front hf]; exact hm⟩
    simp only [Entry.front, Prod.mk.injEq] at hf
    rw [← List.head?_map, ← List.head?_map, hf.2.1]

/-- The sets that still wait in u wait on every slot that they waited on in s. -/
def State.SetsWhole (s u : State) : Prop :=
  ∀ r id x y, x ∈ u.setMembers r id → y ∈ s.setMembers r id → y ∈ u.setMembers r id

/-- No record of a set left a queue. -/
theorem State.setsWhole_of_queues {s u : State} (h : ∀ y, ∀ d ∈ s.queueAt y, ∃ d' ∈ u.queueAt y, d'.key = d.key) : s.SetsWhole u := by
  intro r id _ y _ hy
  obtain ⟨d, hd, hin⟩ := State.mem_setMembers_iff.mp hy
  obtain ⟨d', hd', hkey⟩ := h y d hd
  exact State.mem_setMembers_iff.mpr ⟨d', hd', by rw [Claim.inSet_of_key hkey, hin]⟩

theorem State.setsWhole_of_queueAt {s u : State} (h : ∀ y, u.queueAt y = s.queueAt y) : s.SetsWhole u :=
  State.setsWhole_of_queues fun y d hd => ⟨d, by rwa [h], rfl⟩

/-- Heads off a pass list that were blocked are so still, or in a set that waits on an entry of the list as well. -/
theorem State.blocked_or_passedWith {s u : State} {list : List EntrySlot} (hs : ∀ e, s.blocked e)
    (hn : ∀ x, x ∉ list → s.Narrower u x) (hw : s.SetsWhole u) : ∀ x, x ∉ list → u.blocked x ∨ u.passedWith list x := by
  intro x hx
  by_contra hneither
  obtain ⟨hnblocked, hnpassed⟩ := not_or.mp hneither
  rw [State.blocked_iff] at hnblocked
  push Not at hnblocked
  obtain ⟨en', c', hu, hc', hadmit⟩ := hnblocked
  have hq' : c' ∈ u.queueAt x := State.mem_queueAt.mpr ⟨en', hu, List.mem_of_mem_head? hc'⟩
  obtain hnil | ⟨en, en₂, hen, hen₂, hhead, hfits⟩ := hn x hx
  · simp [hnil] at hq'
  obtain rfl : en' = en₂ := Option.some.inj (hu.symm.trans hen₂)
  rw [hc', Option.map_some] at hhead
  obtain ⟨c, hc, hkey⟩ := Option.map_eq_some_iff.mp hhead.symm
  obtain ⟨hr, hm, hid⟩ : c.requester = c'.requester ∧ c.mode = c'.mode ∧ c.setId = c'.setId := by
    simpa only [Claim.key, Prod.mk.injEq] using hkey
  obtain ⟨hsingle, hset⟩ := State.blocked_iff.mp (hs x) en c hen hc
  have hfree : c'.setId = none → en'.fits c'.mode = false := fun hnone => by
    by_contra hf
    have := hfits _ (by simpa using hf)
    rw [← hm, hsingle (hid.trans hnone)] at this
    cases this
  obtain ⟨id, hid', hg⟩ := hadmit hfree
  have hg : u.grantable c'.requester id = true := by simpa using hg
  have hmem : x ∈ u.setMembers c'.requester id := State.mem_setMembers_iff.mpr ⟨c', hq', by simp [Claim.inSet, hid']⟩
  have hgs : s.grantable c'.requester id = true := by
    rw [State.grantable_iff] at hg ⊢
    intro y hy
    have hyu := hw c'.requester id x y hmem hy
    have hyl : y ∉ list := fun hl => hnpassed ⟨en', hu, c', hc', id, hid', y, hl, hyu⟩
    obtain ⟨ey', hey', d', hd', hin, hf⟩ := hg y hyu
    obtain hnil | ⟨ey, ey₂, hey, hey₂, hheady, hfitsy⟩ := hn y hyl
    · have : d' ∈ u.queueAt y := State.mem_queueAt.mpr ⟨ey', hey', List.mem_of_mem_head? hd'⟩
      simp [hnil] at this
    obtain rfl : ey' = ey₂ := Option.some.inj (hey'.symm.trans hey₂)
    rw [hd', Option.map_some] at hheady
    obtain ⟨d, hd, hkeyd⟩ := Option.map_eq_some_iff.mp hheady.symm
    have hmode : d.mode = d'.mode := congrArg (fun k : ReqSlot × Mode × Option Word16 => k.2.1) hkeyd
    exact ⟨ey, hey, d, hd, by rw [Claim.inSet_of_key hkeyd, hin], hmode ▸ hfitsy _ hf⟩
  have := hset id (hid.trans hid')
  rw [hr, hgs] at this
  cases this

/-- An event without passes that lets no one in. -/
theorem State.blocked_of_narrower {s u : State} (hs : ∀ e, s.blocked e) (hn : ∀ x, s.Narrower u x) (hw : s.SetsWhole u) :
    ∀ e, u.blocked e :=
  State.blocked_of_no_list (State.blocked_or_passedWith hs (fun x _ => hn x) hw)

/-- An event with passes on the slots where someone could be let in. -/
theorem State.blocked_runPasses {s u : State} (hu : u.Consistent) (quiet : Quiet) {list : List EntrySlot} (hs : ∀ e, s.blocked e)
    (hn : ∀ x, x ∉ list → s.Narrower u x) (hw : s.SetsWhole u) : ∀ e, (u.runPasses quiet list).blocked e :=
  (State.runPasses_ran hu quiet list).2.2 (State.blocked_or_passedWith hs hn hw)

theorem State.blocked_of_entry {s t : State} (h : ∀ e, t.entry e = s.entry e) (hs : ∀ e, s.blocked e) : ∀ e, t.blocked e :=
  fun e => State.blocked_of_front (fun x => by rw [h]) (hs e)

/-! ### Removals -/

theorem State.blocked_reclaim {s : State} (h : s.Consistent) (hs : ∀ e, s.blocked e) (r : ReqSlot) (stale : Bool) :
    ∀ e, (s.reclaim r stale).blocked e := by
  refine State.blocked_runPasses (h.stripAll r stale) .loud hs (fun x hx => State.narrower_of_entry ?_) fun r' id x y hx hy => ?_
  · rw [State.entry_stripAll]
    cases hen : s.entry x with
    | none => rfl
    | some en =>
      have hc : en.claimed r ≠ true := fun hc => hx (State.mem_slotsWhere.mpr ⟨en, hen, hc⟩)
      rw [Option.bind_some, if_neg hc]
  · have hqueue := ((h.passing 0).off.allDrained).queueAt_stripAll r stale
    obtain ⟨c, hc, hcin⟩ := State.mem_setMembers_iff.mp hx
    obtain ⟨d, hd, hdin⟩ := State.mem_setMembers_iff.mp hy
    rw [hqueue] at hc
    have hne := (List.mem_filter.mp hc).2
    refine State.mem_setMembers_iff.mpr ⟨d, ?_, hdin⟩
    rw [hqueue, List.mem_filter]
    simp only [Claim.inSet, Bool.and_eq_true, decide_eq_true_eq] at hcin hdin hne ⊢
    exact ⟨hd, by rw [hdin.1, ← hcin.1]; exact hne⟩

theorem State.blocked_endHold {s : State} (h : s.Consistent) (hs : ∀ e, s.blocked e) {r : ReqSlot} {e : EntrySlot} {en : Entry}
    (hen : s.entry e = some en) (hr : (en.hold r).isSome) (stale : Bool) {notify : State → State} (hn : Notifying notify) :
    ∀ x, (((notify (s.dropHold r e stale)).recompute e).runPasses .loud [e]).blocked x := by
  refine State.blocked_runPasses (h.endHold hen hr stale hn) .loud hs (fun x hx => State.narrower_of_entry ?_)
    (State.setsWhole_of_queueAt fun y => ?_)
  · have hne : e ≠ x := fun he => hx (he ▸ List.mem_cons_self)
    rw [State.entry_recompute, if_neg hne, hn.entry, State.entry_dropHold, if_neg hne]
  · have hoff := ((h.passing e).off.dropHold (r := r) (Set.mem_singleton e) stale).notify hn
    have hrec := hoff.allDrained.queueAt_recomputeAll [e] y
    exact hrec.trans ((State.queueAt_congr (hn.entry _ y)).trans (State.queueAt_dropHold s r e stale y))

theorem State.blocked_endWait {s : State} (h : s.Consistent) (hs : ∀ e, s.blocked e) {r : ReqSlot} {e : EntrySlot} {en : Entry}
    {c : Claim} (hen : s.entry e = some en) (hc : en.wait r = some c) (hid : c.setId = none) {notify : State → State}
    (hn : Notifying notify) : ∀ x, (((notify (s.dropWait r e)).recompute e).runPasses .loud [e]).blocked x := by
  obtain ⟨hmem, hcr⟩ := Entry.mem_of_wait hc
  have hoff := ((h.passing e).off.dropWait (r := r) (Set.mem_singleton e)).notify hn
  have hqueue : ∀ y, ((notify (s.dropWait r e)).recompute e).queueAt y =
      if e = y then (s.queueAt e).filter fun c => c.requester ≠ r else s.queueAt y := fun y =>
    (hoff.allDrained.queueAt_recomputeAll [e] y).trans ((State.queueAt_congr (hn.entry _ y)).trans (s.queueAt_dropWait r e y))
  refine State.blocked_runPasses (h.endWait hen hc hid hn) .loud hs (fun x hx => State.narrower_of_entry ?_) fun r' id x y _ hy => ?_
  · have hne : e ≠ x := fun he => hx (he ▸ List.mem_cons_self)
    rw [State.entry_recompute, if_neg hne, hn.entry, State.entry_dropWait, if_neg hne]
  · obtain ⟨d, hd, hdin⟩ := State.mem_setMembers_iff.mp hy
    refine State.mem_setMembers_iff.mpr ⟨d, ?_, hdin⟩
    rw [hqueue]
    split
    · next he =>
      subst he
      refine List.mem_filter.mpr ⟨hd, decide_eq_true fun hdr => ?_⟩
      obtain rfl := h.sound.wait_unique hd (State.mem_queueAt.mpr ⟨en, hen, hmem⟩) (hdr.trans hcr.symm)
      simp [Claim.inSet, hid] at hdin
    · exact hd

theorem State.blocked_endSet {s : State} (h : s.Consistent) (hs : ∀ e, s.blocked e) (r : ReqSlot) (id : Word16)
    {notify : State → State} (hn : Notifying notify) : ∀ x, (s.endSet r id notify).blocked x := by
  have hoff : s.LegalOff {x | x ∈ s.setMembers r id} := (s.legalOff_empty.mpr h.entries).mono (Set.empty_subset _)
  have hdrained := ((hoff.dropSet fun x hx => hx).notify hn).allDrained
  have hqueue : ∀ y, ((notify (s.dropSet r id)).recomputeAll (s.setMembers r id)).queueAt y =
      (s.queueAt y).filter fun c => !c.inSet r id := fun y =>
    (hdrained.queueAt_recomputeAll _ y).trans ((State.queueAt_congr (hn.entry _ y)).trans (s.queueAt_dropSet r id y))
  refine State.blocked_runPasses (h.dropSet r id hn) .loud hs (fun x hx => State.narrower_of_entry ?_) fun r' id' x y hx hy => ?_
  · rw [State.entry_recomputeAll, if_neg hx, hn.entry, State.entry_dropSet]
    cases hen : s.entry x with
    | none => rfl
    | some en =>
      refine congrArg some (Entry.withoutSet_of_none fun c hc => ?_)
      by_contra hin
      exact hx (State.mem_setMembers.mpr ⟨en, hen, c, hc, by simpa using hin⟩)
  · obtain ⟨c, hc, hcin⟩ := State.mem_setMembers_iff.mp hx
    obtain ⟨d, hd, hdin⟩ := State.mem_setMembers_iff.mp hy
    rw [hqueue] at hc
    have hcout := (List.mem_filter.mp hc).2
    refine State.mem_setMembers_iff.mpr ⟨d, ?_, hdin⟩
    rw [hqueue]
    refine List.mem_filter.mpr ⟨hd, ?_⟩
    simp only [Claim.inSet, Bool.and_eq_true, decide_eq_true_eq] at hcin hdin
    simp only [Claim.inSet, hcin.1, hcin.2] at hcout
    simpa only [Claim.inSet, hdin.1, hdin.2] using hcout

/-! ### Grants at once and placements -/

theorem State.queueAt_grantAll (s : State) (r : ReqSlot) (id : Option Word16) (members : List (EntrySlot × Mode)) (x : EntrySlot) :
    (members.foldl (fun u p => u.grantNow r p.1 p.2 id) s).queueAt x = s.queueAt x := by
  induction members generalizing s with
  | nil => rfl
  | cons p members ih => rw [List.foldl_cons, ih, State.queueAt_grantNow]

theorem State.entry_grantAll_of_not_mem (s : State) (r : ReqSlot) (id : Option Word16) {members : List (EntrySlot × Mode)}
    {x : EntrySlot} (hx : x ∉ members.map Prod.fst) :
    (members.foldl (fun u p => u.grantNow r p.1 p.2 id) s).entry x = s.entry x := by
  induction members generalizing s with
  | nil => rfl
  | cons p members ih =>
    rw [List.map_cons, List.mem_cons, not_or] at hx
    rw [List.foldl_cons, ih _ hx.2, State.entry_grantNow, if_neg (Ne.symm hx.1)]

/-- The grant at once to slots where no one waits lets no one else in (R27). -/
theorem State.blocked_grantAll {s : State} (hs : ∀ e, s.blocked e) (r : ReqSlot) (id : Option Word16)
    {members : List (EntrySlot × Mode)} (hm : ∀ p ∈ members, s.queueAt p.1 = []) :
    ∀ e, (members.foldl (fun u p => u.grantNow r p.1 p.2 id) s).blocked e := by
  refine State.blocked_of_narrower hs (fun x => ?_) (State.setsWhole_of_queueAt (s.queueAt_grantAll r id members))
  by_cases hx : x ∈ members.map Prod.fst
  · obtain ⟨p, hp, rfl⟩ := List.mem_map.mp hx
    exact .inl ((s.queueAt_grantAll r id members p.1).trans (hm p hp))
  · exact State.narrower_of_entry (s.entry_grantAll_of_not_mem r id hx)

/-- The placement of records at distinct slots, slot by slot. -/
theorem State.entry_placeAll {s : State} {records : List (EntrySlot × Claim)} (hd : (records.map Prod.fst).Nodup) (e : EntrySlot) :
    (records.foldl (fun u p => u.place p.1 p.2) s).entry e =
      match records.find? fun p => p.1 = e with
      | some p => (s.entry e).bind fun en => ({ en with queue := insertWaiter s.priority p.2 en.queue } : Entry).recomputed
      | none => s.entry e := by
  induction records generalizing s with
  | nil => rfl
  | cons p records ih =>
    obtain ⟨hp, hd⟩ := List.nodup_cons.mp hd
    have hpriority : (s.place p.1 p.2).priority = s.priority := State.priority_of_standing (ClaimFrame.place s p.1 p.2).standing
    rw [List.foldl_cons, ih hd, hpriority, State.entry_place]
    by_cases he : p.1 = e
    · have hnone : records.find? (fun p => p.1 = e) = none := by
        rw [List.find?_eq_none]
        intro p' hp' he'
        exact hp (he ▸ of_decide_eq_true he' ▸ List.mem_map_of_mem hp')
      rw [hnone, List.find?_cons_of_pos (by simpa using he)]
      simp [he]
    · rw [List.find?_cons_of_neg (by simpa using he), if_neg he]

/-- The head of a queue that a record entered is the record or the head before (R31). -/
theorem head?_insertWaiter (priority : ReqSlot → Nat) (c : Claim) (l : List Claim) :
    (insertWaiter priority c l).head? = some c ∨ (insertWaiter priority c l).head? = l.head? := by
  cases l with
  | nil => exact .inl rfl
  | cons d l =>
    unfold insertWaiter
    split
    · exact .inr rfl
    · exact .inl rfl

theorem Entry.front_recomputed_enqueue {en : Entry} (hr : en.state ≠ .retiring) (queue : List Claim) :
    ∃ en', ({ en with queue := queue } : Entry).recomputed = some en' ∧ en'.queue = queue ∧ ∀ m, en'.fits m = en.fits m := by
  refine ⟨_, Entry.recomputed_of_ne_retiring (en := { en with queue := queue }) hr, rfl, fun m => ?_⟩
  exact Entry.fits_congr rfl rfl m

/-- The placement of records lets no one in where none of them stands at the head. -/
theorem State.narrower_placeAll {s : State} {records : List (EntrySlot × Claim)} (hd : (records.map Prod.fst).Nodup)
    (hm : ∀ p ∈ records, ∃ en, s.entry p.1 = some en ∧ en.state ≠ .retiring) {x : EntrySlot}
    (hx : ∀ p ∈ records, p.1 = x → ((records.foldl (fun u p => u.place p.1 p.2) s).queueAt x).head? ≠ some p.2) :
    s.Narrower (records.foldl (fun u p => u.place p.1 p.2) s) x := by
  have hentry := State.entry_placeAll (s := s) hd x
  cases hf : records.find? (fun p => p.1 = x) with
  | none =>
    rw [hf] at hentry
    exact State.narrower_of_entry hentry
  | some p =>
    have hp := List.mem_of_find?_eq_some hf
    have hpx : p.1 = x := by simpa using List.find?_some hf
    obtain ⟨en, hen, hret⟩ := hm p hp
    rw [hpx] at hen
    obtain ⟨en', hrec, hqueue, hfits⟩ := Entry.front_recomputed_enqueue hret (insertWaiter s.priority p.2 en.queue)
    rw [hf, hen] at hentry
    have hentry' := hentry.trans hrec
    refine .inr ⟨en, en', hen, hentry', ?_, fun m hm => by rw [← hfits]; exact hm⟩
    have hne := hx p hp hpx
    rw [State.queueAt_of_entry hentry', hqueue] at hne
    rw [hqueue]
    obtain hhead | hhead := head?_insertWaiter s.priority p.2 en.queue
    · exact absurd hhead hne
    · rw [hhead]

theorem State.setsWhole_placeAll {s : State} {records : List (EntrySlot × Claim)} (hd : (records.map Prod.fst).Nodup)
    (hm : ∀ p ∈ records, ∃ en, s.entry p.1 = some en ∧ en.state ≠ .retiring) :
    s.SetsWhole (records.foldl (fun u p => u.place p.1 p.2) s) := by
  refine State.setsWhole_of_queues fun y d hdy => ⟨d, ?_, rfl⟩
  have hentry := State.entry_placeAll (s := s) hd y
  cases hf : records.find? (fun p => p.1 = y) with
  | none =>
    rw [hf] at hentry
    rwa [State.queueAt_congr hentry]
  | some p =>
    have hpy : p.1 = y := by simpa using List.find?_some hf
    obtain ⟨en, hen, hret⟩ := hm p (List.mem_of_find?_eq_some hf)
    rw [hpy] at hen
    obtain ⟨en', hrec, hqueue, -⟩ := Entry.front_recomputed_enqueue hret (insertWaiter s.priority p.2 en.queue)
    rw [hf, hen] at hentry
    rw [State.queueAt_of_entry (hentry.trans hrec), hqueue, (insertWaiter_perm _ _ _).mem_iff]
    rw [State.queueAt_of_entry hen] at hdy
    exact List.mem_cons_of_mem _ hdy

end Sys2Proof.Machine
end

section
/-! No change of the store leaves a head that could be granted, so no step does (R34, R35, R59, R61). -/

namespace Sys2Proof.Machine

/-- A single entry is rewritten, its queue kept and its holders not narrowed. -/
theorem State.blocked_of_rewritten {s t : State} {e : EntrySlot} {en en' : Entry} (hs : ∀ e, s.blocked e) (hen : s.entry e = some en)
    (hen' : t.entry e = some en') (hother : ∀ x, x ≠ e → t.entry x = s.entry x) (hq : en'.queue = en.queue)
    (hf : ∀ m, en'.fits m = true → en.fits m = true) : ∀ x, t.blocked x := by
  refine State.blocked_of_narrower hs (fun x => ?_) (State.setsWhole_of_queueAt fun x => ?_)
  · by_cases hx : x = e
    · subst hx
      exact .inr ⟨en, en', hen, hen', by rw [hq], hf⟩
    · exact State.narrower_of_entry (hother x hx)
  · by_cases hx : x = e
    · subst hx
      rw [State.queueAt_of_entry hen, State.queueAt_of_entry hen', hq]
    · exact State.queueAt_congr (hother x hx)

/-! ### A retire -/

/-- What the steps of a retire leave to the passes: no wait on the entry, and the sets that waited there gone from every queue (R16). -/
structure Purged (s : State) (e : EntrySlot) (queue : List Claim) (u : State) (list : List EntrySlot) : Prop where
  emptied : u.queueAt e = []
  others : ∀ x, x ≠ e → u.entry x = (s.entry x).map fun en => (en.withoutSets queue).settle
  list : ∀ x, x ∈ list ↔ x ≠ e ∧ ∃ c ∈ s.queueAt x, removedBy queue c = true

theorem Cancelled.purged {s u t : State} {e : EntrySlot} {en : Entry} {list : List EntrySlot} (h : Cancelled s e en en.queue [] u list)
    (he : t.queueAt e = []) (ht : ∀ x, x ≠ e → t.entry x = u.entry x) : Purged s e en.queue t list :=
  ⟨he, fun x hx => (ht x hx).trans (h.others x hx), h.list⟩

theorem Forced.purged {s : State} {e : EntrySlot} {en : Entry} {v u : State} {list : List EntrySlot} (h : Forced s e en v u list) :
    Purged s e en.queue (u.freeSlot e) list := by
  refine h.cancelled.purged (by simp [State.queueAt]) fun x hx => ?_
  rw [State.entry_freeSlot, if_neg (Ne.symm hx)]
  exact h.revoked.others x hx

theorem State.retireSteps_purged {s : State} (hs : s.Consistent) {e : EntrySlot} {en : Entry} (hen : s.entry e = some en) (force : Bool) :
    (s.retireSteps e en force).1 = (s.freeSlot e, []) ∧ en.queue = [] ∨ (s.retireSteps e en force).1 = (s, []) ∨
      Purged s e en.queue (s.retireSteps e en force).1.1 (s.retireSteps e en force).1.2 := by
  have hcancelled := State.cancelWaits_cancelled hs hen
  obtain ⟨v, u, list, hforced⟩ := State.forceRetire_forced hs hen
  have hforce : Purged s e en.queue (s.forceRetire e en).1 (s.forceRetire e en).2 := by rw [hforced.steps]; exact hforced.purged
  have hdrain : Purged s e en.queue (s.drainRetire e en).1 (s.drainRetire e en).2 := by
    rw [State.drainRetire_eq hs hen]
    refine hcancelled.purged ?_ fun x hx => ?_
    · exact State.queueAt_of_entry ((State.entry_setEntry _ _ _ _).trans (if_pos rfl))
    · rw [State.entry_setEntry, if_neg (Ne.symm hx)]
  unfold State.retireSteps
  split
  · next hi =>
    obtain ⟨-, hst⟩ := en.legal_iff.mp (hs.entries e en hen)
    have hder := (Entry.settled_of_ne_retiring (by simp [hi])).mp hst
    exact .inl ⟨rfl, (Entry.derivedState_eq_idle.mp (hder ▸ hi)).2⟩
  · refine .inr (.inr (hcancelled.purged (by simp [State.queueAt]) fun x hx => ?_))
    rw [State.entry_freeSlot, if_neg (Ne.symm hx)]
  · split
    · exact .inr (.inr hforce)
    · exact .inr (.inr hdrain)
  · split
    · exact .inr (.inr hforce)
    · exact .inr (.inr hdrain)
  · split
    · exact .inr (.inr hforce)
    · exact .inr (.inl rfl)

theorem Purged.mem_queueAt {s u : State} {e : EntrySlot} {queue : List Claim} {list : List EntrySlot} (h : Purged s e queue u list)
    {x : EntrySlot} (hx : x ≠ e) {d : Claim} : d ∈ u.queueAt x ↔ d ∈ s.queueAt x ∧ removedBy queue d = false := by
  unfold State.queueAt
  rw [h.others x hx]
  cases s.entry x with
  | none => simp
  | some en => simp [Entry.settle_queue, Entry.withoutSets]

theorem Purged.narrower {s u : State} {e : EntrySlot} {queue : List Claim} {list : List EntrySlot} (h : Purged s e queue u list)
    {x : EntrySlot} (hx : x ∉ list) : s.Narrower u x := by
  by_cases he : x = e
  · exact .inl (he ▸ h.emptied)
  · refine State.narrower_of_front ?_
    rw [h.others x he]
    cases hen : s.entry x with
    | none => rfl
    | some en =>
      have hstay : ∀ c ∈ en.queue, (!removedBy queue c) = true := fun c hc => by
        by_contra hr
        exact hx ((h.list x).mpr ⟨he, c, State.mem_queueAt.mpr ⟨en, hen, hc⟩, by simpa using hr⟩)
      have hsame : en.withoutSets queue = en := by simp [Entry.withoutSets, List.filter_eq_self.mpr hstay]
      rw [Option.map_some, hsame]
      exact congrArg some (Entry.front_settle en)

theorem removedBy_of_inSet {queue : List Claim} {c d : Claim} {r : ReqSlot} {id : Word16} (hc : c.inSet r id = true)
    (hd : d.inSet r id = true) : removedBy queue d = removedBy queue c := by
  simp only [Claim.inSet, Bool.and_eq_true, decide_eq_true_eq] at hc hd
  simp only [removedBy, hc.2, hd.2]

theorem Purged.setsWhole {s u : State} {e : EntrySlot} {en : Entry} {list : List EntrySlot} (h : Purged s e en.queue u list)
    (hen : s.entry e = some en) : s.SetsWhole u := by
  intro r id x y hx hy
  obtain ⟨c, hc, hcin⟩ := State.mem_setMembers_iff.mp hx
  obtain ⟨d, hd, hdin⟩ := State.mem_setMembers_iff.mp hy
  have hxe : x ≠ e := by
    rintro rfl
    simp [h.emptied] at hc
  have hstays := ((h.mem_queueAt hxe).mp hc).2
  have hye : y ≠ e := by
    rintro rfl
    rw [State.queueAt_of_entry hen] at hd
    simp only [Claim.inSet, Bool.and_eq_true, decide_eq_true_eq] at hcin hdin
    have hgone : removedBy en.queue c = true :=
      List.any_eq_true.mpr ⟨d, hd, by simp [hcin.2, hdin.2]⟩
    simp [hgone] at hstays
  exact State.mem_setMembers_iff.mpr ⟨d, (h.mem_queueAt hye).mpr ⟨hd, (removedBy_of_inSet hcin hdin).trans hstays⟩, hdin⟩

theorem State.blocked_freeSlot {s : State} {e : EntrySlot} {en : Entry} (hs : ∀ e, s.blocked e) (hen : s.entry e = some en)
    (hq : en.queue = []) : ∀ x, (s.freeSlot e).blocked x := by
  have hqueue : ∀ x, (s.freeSlot e).queueAt x = s.queueAt x := fun x => by
    by_cases hx : e = x
    · subst hx
      rw [State.queueAt_of_entry hen, hq]
      simp [State.queueAt]
    · exact State.queueAt_congr ((State.entry_freeSlot s e x).trans (if_neg hx))
  refine State.blocked_of_narrower hs (fun x => ?_) (State.setsWhole_of_queueAt hqueue)
  by_cases hx : e = x
  · subst hx
    exact .inl (by rw [hqueue, State.queueAt_of_entry hen, hq])
  · exact State.narrower_of_entry ((State.entry_freeSlot s e x).trans (if_neg hx))

theorem runPassList_nil (quiet : Quiet) (n : Nat) (s : State) : runPassList quiet n s [] = s := by
  cases n <;> rfl

theorem State.runPasses_nil (s : State) (quiet : Quiet) : s.runPasses quiet [] = s := runPassList_nil quiet _ s

theorem State.blocked_retire {s : State} (h : s.Consistent) (hs : ∀ e, s.blocked e) {e : EntrySlot} {en : Entry}
    (hen : s.entry e = some en) (force : Bool) :
    ∀ x, ((s.retireSteps e en force).1.1.runPasses .loud
      ((List.finRange 256).filter fun e' => (s.retireSteps e en force).1.2.contains e')).blocked x := by
  obtain ⟨hfreed, hq⟩ | hsame | hpurged := State.retireSteps_purged h hen force
  · rw [hfreed]
    have hnone : ((List.finRange 256).filter fun e' => ([] : List EntrySlot).contains e') = [] := by simp
    rw [hnone, State.runPasses_nil]
    exact State.blocked_freeSlot hs hen hq
  · rw [hsame]
    have hnone : ((List.finRange 256).filter fun e' => ([] : List EntrySlot).contains e') = [] := by simp
    rw [hnone, State.runPasses_nil]
    exact hs
  · refine State.blocked_runPasses (h.retireSteps hen force) .loud hs (fun x hx => hpurged.narrower fun hl => hx ?_)
      (hpurged.setsWhole hen)
    exact List.mem_filter.mpr ⟨List.mem_finRange x, by simpa using hl⟩

/-! ### Modes and placements -/

theorem Entry.setHoldMode_queue (en : Entry) (r : ReqSlot) (m : Mode) : (en.setHoldMode r m).queue = en.queue := rfl

/-- A hold that became exclusive lets no one in beside it (R43). -/
theorem Entry.setHoldMode_exclusive_fits {en : Entry} {r : ReqSlot} {c : Claim} (hh : en.hold r = some c) (m : Mode) :
    (en.setHoldMode r .exclusive).fits m = false := by
  obtain ⟨hc, hr⟩ := Entry.mem_of_hold hh
  by_contra hf
  have hmem : { c with mode := Mode.exclusive } ∈ (en.setHoldMode r .exclusive).holders :=
    List.mem_map.mpr ⟨c, hc, if_pos hr⟩
  obtain hnil | ⟨-, hall, -⟩ := Entry.fits_iff.mp (by simpa using hf)
  · simp [hnil] at hmem
  · cases hall _ hmem

theorem State.entry_setHoldMode (s : State) (e : EntrySlot) {en : Entry} (r : ReqSlot)
    (hone : en.holders.length = 1) (m : Mode) :
    ((s.setEntry e (en.setHoldMode r m)).recompute e).entry e = some (en.setHoldMode r m).settle := by
  rw [State.entry_recompute, if_pos rfl, State.entry_setEntry, if_pos rfl, Option.bind_some]
  refine Entry.recomputed_of_kept fun _ hnil => ?_
  have : (en.setHoldMode r m).holders.length = en.holders.length := List.length_map _
  rw [hnil, hone] at this
  cases this

theorem State.entry_setHoldMode_ne {s : State} {e x : EntrySlot} (en : Entry) (hx : x ≠ e) :
    ((s.setEntry e en).recompute e).entry x = s.entry x := by
  rw [State.entry_recompute, if_neg (Ne.symm hx), State.entry_setEntry, if_neg (Ne.symm hx)]

theorem State.blocked_placeSingle {s : State} (h : s.Consistent) (hs : ∀ e, s.blocked e) {r : ReqSlot} {q : Requester} {e : EntrySlot}
    {en : Entry} (m : Mode) (limit : Nat) (hen : s.entry e = some en) (hq : s.req r = some q) (ha : ClaimAllowed s r q en) :
    ∀ x, (placeSingle r e m limit s).1.blocked x := by
  have hplaced := h.place m limit hen hq ha
  generalize hc : (⟨r, m, none, false, waitDeadline limit⟩ : Claim) = c at hplaced
  have hdistinct : ([(e, c)].map Prod.fst).Nodup := List.nodup_singleton e
  have hlive : ∀ p ∈ [(e, c)], ∃ en, s.entry p.1 = some en ∧ en.state ≠ .retiring := fun p hp => by
    obtain rfl := List.mem_singleton.mp hp
    exact ⟨en, hen, ha.1⟩
  have hwhole : s.SetsWhole (s.place e c) := State.setsWhole_placeAll hdistinct hlive
  have hnarrow : ∀ x, (x = e → ((s.place e c).queueAt x).head? ≠ some c) → s.Narrower (s.place e c) x := fun x hx =>
    State.narrower_placeAll hdistinct hlive fun p hp hpx => by
      obtain rfl := List.mem_singleton.mp hp
      exact hx hpx.symm
  rw [placeSingle_fst, hc]
  split
  · exact State.blocked_runPasses hplaced _ hs (fun x hx => hnarrow x fun he => absurd (List.mem_singleton.mpr he) hx) hwhole
  · next hhead =>
    refine State.blocked_of_narrower hs (fun x => hnarrow x fun he hc' => hhead ?_) hwhole
    subst he
    cases hx : (s.place x c).entry x with
    | none => simp [State.queueAt, hx] at hc'
    | some en' =>
      rw [State.queueAt_of_entry hx] at hc'
      unfold State.atHead
      rw [hx]
      simp [hc', ← hc]

theorem State.blocked_placeSet {s : State} (h : s.Consistent) (hs : ∀ e, s.blocked e) {r : ReqSlot} {q : Requester}
    {members : List (EntrySlot × Mode)} (limit : Nat) (ha : SetAllowed s r q members) :
    ∀ x, (placeSet r members limit s).1.blocked x := by
  have hsT : ∀ e, s.takeSetId.blocked e := State.blocked_of_entry (fun e => by simp) hs
  have hdistinct : ((setRecords r s.takeSetId.setIdCounter limit members).map Prod.fst).Nodup := by
    rw [setRecords_map_fst]; exact ha.distinct
  have hlive : ∀ p ∈ setRecords r s.takeSetId.setIdCounter limit members,
      ∃ en, s.takeSetId.entry p.1 = some en ∧ en.state ≠ .retiring := fun p hp => by
    obtain ⟨hmem, -, -⟩ := mem_setRecords hp
    obtain ⟨en, hen, hret, -⟩ := ha.live _ hmem
    exact ⟨en, by simpa using hen, hret⟩
  rw [placeSet_fst]
  refine State.blocked_runPasses (h.placeRecords limit ha) _ hsT (fun x hx => ?_) (State.setsWhole_placeAll hdistinct hlive)
  refine State.narrower_placeAll hdistinct hlive fun p hp hpx hhead => hx ?_
  obtain ⟨-, hr, hid⟩ := mem_setRecords hp
  obtain ⟨en, hen, hmem⟩ := State.mem_queueAt.mp (List.mem_of_mem_head? hhead)
  rw [State.queueAt_of_entry hen] at hhead
  exact State.mem_slotsWhere.mpr ⟨en, hen, by simp [hhead, Claim.inSet, hr, hid]⟩

/-! ### The invariant -/

theorem StoreChange.blocked {s t : State} (hc : s.Consistent) (hs : ∀ e, s.blocked e) (h : StoreChange s t) : ∀ e, t.blocked e := by
  induction h with
  | same hst => exact State.blocked_of_entry hst.entry hs
  | trans h _ ih ih' => exact ih' (h.consistent hc) (ih hc hs)
  | rewritten hq _ _ => exact State.blocked_of_entry (fun e => by simp) hs
  | opened hq _ _ => exact State.blocked_of_entry (fun e => by simp) hs
  | reclaimed s stale _ => exact State.blocked_reclaim hc hs _ stale
  | vacated s stale _ => exact State.blocked_of_entry (s := s.reclaim _ stale) (fun e => State.entry_vacated _ _ _ e) (State.blocked_reclaim hc hs _ stale)
  | noticeDropped s r => exact State.blocked_of_entry (fun e => by simp) hs
  | @defined s f e _ _ he =>
    refine State.blocked_of_narrower hs (fun x => ?_) (State.setsWhole_of_queueAt fun x => ?_)
    · by_cases hx : e = x
      · subst hx
        exact .inl (State.queueAt_of_entry (en := definedEntry f) ((State.entry_setEntry _ _ _ _).trans (if_pos rfl)))
      · exact State.narrower_of_entry ((State.entry_setEntry _ _ _ _).trans (if_neg hx))
    · by_cases hx : e = x
      · subst hx
        refine (State.queueAt_of_entry (en := definedEntry f) ((State.entry_setEntry _ _ _ _).trans (if_pos rfl))).trans ?_
        simp [State.queueAt, he, definedEntry]
      · exact State.queueAt_congr ((State.entry_setEntry _ _ _ _).trans (if_neg hx))
  | retired force he => exact State.blocked_retire hc hs he force
  | limited hold he _ _ hle =>
    refine State.blocked_of_rewritten hs he ((State.entry_setEntry _ _ _ _).trans (if_pos rfl))
      (fun x hx => (State.entry_setEntry _ _ _ _).trans (if_neg (Ne.symm hx))) rfl fun m hm => ?_
    refine Entry.fits_iff.mpr ((Entry.fits_iff.mp hm).imp_right ?_)
    rintro ⟨hm, hall, hlen⟩
    exact ⟨hm, hall, lt_of_lt_of_le hlen hle⟩
  | @limitRaised s e en share hold he hb hl _ =>
    refine State.blocked_runPasses (hc.setLimits hold he hb hl) .loud hs (fun x hx => State.narrower_of_entry ?_)
      (State.setsWhole_of_queueAt fun x => ?_)
    · rw [State.entry_setEntry, if_neg fun h => hx (List.mem_singleton.mpr h.symm)]
    · by_cases hx : e = x
      · subst hx
        rw [State.queueAt_of_entry he]
        exact State.queueAt_of_entry (en := { en with shareLimit := share, holdLimit := hold })
          ((State.entry_setEntry _ _ _ _).trans (if_pos rfl))
      · exact State.queueAt_congr ((State.entry_setEntry _ _ _ _).trans (if_neg hx))
  | noted he _ =>
    exact State.blocked_of_rewritten hs he ((State.entry_setEntry _ _ _ _).trans (if_pos rfl))
      (fun x hx => (State.entry_setEntry _ _ _ _).trans (if_neg (Ne.symm hx))) rfl
      fun m hm => by rw [Entry.fits_congr rfl rfl] at hm; exact hm
  | @granted s r q e en m he hq ha ho =>
    refine State.blocked_grantAll (members := [(e, m)]) hs r none fun p hp => ?_
    obtain rfl := List.mem_singleton.mp hp
    rw [State.queueAt_of_entry he]
    exact (Entry.atOnce_fits (hc.entries e en he) ho).1
  | placed he hq ha _ _ => exact State.blocked_placeSingle hc hs _ _ he hq ha
  | @setGranted s r q members ha ho =>
    refine State.blocked_grantAll (State.blocked_of_entry (fun e => by simp) hs) r _ fun p hp => ?_
    obtain ⟨en, hen, hat⟩ := State.allAtOnce_iff.mp ho p hp
    rw [State.queueAt_congr (s.entry_takeSetId p.1), State.queueAt_of_entry hen]
    exact (Entry.atOnce_fits (hc.entries p.1 en hen) hat).1
  | setPlaced ha _ _ => exact State.blocked_placeSet hc hs _ ha
  | holdEnded stale he hr hn => exact State.blocked_endHold hc hs he hr stale hn
  | waitEnded he hw hid hn => exact State.blocked_endWait hc hs he hw hid hn
  | setEnded _ _ _ hn => exact State.blocked_endSet hc hs _ _ hn
  | @upgraded s r e en c he hh _ hsole =>
    have hone := (hc.sound e en he).holders_length_of_sole hh hsole
    refine State.blocked_of_rewritten hs he (State.entry_setHoldMode s _ r hone .exclusive)
      (fun x hx => State.entry_setHoldMode_ne _ hx) (Entry.settle_queue _) fun m hm => ?_
    rw [Entry.fits_congr (Entry.settle_holders _) (Entry.settle_shareLimit _), Entry.setHoldMode_exclusive_fits hh] at hm
    cases hm
  | @downgraded s r e en he hx =>
    have hone := hc.sole_of_exclusive he hx
    refine State.blocked_runPasses (hc.setHoldMode he r hone .shared) .loud hs (fun x hx => State.narrower_of_entry ?_)
      (State.setsWhole_of_queueAt fun x => ?_)
    · exact State.entry_setHoldMode_ne _ fun h => hx (List.mem_singleton.mpr h)
    · by_cases hxe : x = e
      · subst hxe
        rw [State.queueAt_of_entry (State.entry_setHoldMode s _ r hone .shared), Entry.settle_queue, State.queueAt_of_entry he,
          Entry.setHoldMode_queue]
      · exact State.queueAt_congr (State.entry_setHoldMode_ne _ hxe)
  | ticked s =>
    refine fun e => State.blocked_of_front (fun x => ?_) (hs e)
    rw [State.entry_lowerAll, Option.map_map]
    refine congrArg (fun f => (s.entry x).map f) (funext fun en => ?_)
    simp [Entry.front, Entry.tick, Function.comp_def, Claim.key]
  | reset hst =>
    refine State.blocked_of_entry hst.entry fun e => State.blocked_iff.mpr fun en c hen _ => ?_
    simp [State.entry, State.reset] at hen

/-- Settles O60: every change of the store that could let a waiter in runs the passes that do so. -/
theorem nothingGrantableLeft : Obligations.NothingGrantableLeft := by
  intro s t hs hblocked h
  rw [State.consistent_iff] at hs
  exact (step_keeps_of_storeChange (P := fun u => u.Consistent ∧ ∀ e, u.blocked e)
    (fun _ _ hu h => ⟨h.consistent hu.1, h.blocked hu.1 hu.2⟩) ⟨hs, hblocked⟩ h).2

end Sys2Proof.Machine
end

section
/-! The waiting relation, the search of the wait-for check and the edges that a placement adds (R66 to R72). -/

namespace Sys2Proof.Machine

/-! ### Edges -/

theorem mem_queueEdges {ahead l : List ReqSlot} {x y : ReqSlot} :
    (x, y) ∈ queueEdges ahead l ↔ ∃ pre post, l = pre ++ x :: post ∧ (y ∈ ahead ∨ y ∈ pre) := by
  induction l generalizing ahead with
  | nil => simp [queueEdges]
  | cons a l ih =>
    rw [queueEdges, List.mem_append, List.mem_map, ih]
    constructor
    · rintro (⟨z, hz, heq⟩ | ⟨pre, post, rfl, hy⟩)
      · obtain ⟨rfl, rfl⟩ := Prod.mk.inj heq
        exact ⟨[], l, rfl, .inl hz⟩
      · refine ⟨a :: pre, post, rfl, ?_⟩
        rw [List.mem_append, List.mem_singleton] at hy
        rw [List.mem_cons]
        tauto
    · rintro ⟨pre, post, heq, hy⟩
      cases pre with
      | nil =>
        obtain ⟨rfl, rfl⟩ := List.cons.inj heq
        exact .inl ⟨y, hy.resolve_right List.not_mem_nil, rfl⟩
      | cons b pre =>
        obtain ⟨rfl, rfl⟩ := List.cons.inj heq
        refine .inr ⟨pre, post, rfl, ?_⟩
        rw [List.mem_cons] at hy
        rw [List.mem_append, List.mem_singleton]
        tauto

/-- Heads of a queue that leave it, those ahead of it being among what stood ahead before, make no new edge. -/
theorem queueEdges_subset {ahead ahead' l l' pre post : List ReqSlot} (hl : l = pre ++ post) (hsub : l'.Sublist post)
    (ha : ∀ y ∈ ahead', y ∈ ahead ∨ y ∈ pre) : queueEdges ahead' l' ⊆ queueEdges ahead l := by
  rintro ⟨x, y⟩ h
  obtain ⟨pre', post', rfl, hy⟩ := mem_queueEdges.mp h
  obtain ⟨m, n, hpost, hm, hn⟩ := List.append_sublist_iff.mp hsub
  obtain ⟨n₁, n₂, hn', hx, -⟩ := List.cons_sublist_iff.mp hn
  obtain ⟨a, b, rfl⟩ := List.append_of_mem hx
  refine mem_queueEdges.mpr ⟨pre ++ m ++ a, b ++ n₂, by simp [hl, hpost, hn'], ?_⟩
  simp only [List.mem_append]
  obtain hy | hy := hy
  · have := ha y hy
    tauto
  · have := hm.subset hy
    tauto

/-- The edges of the waiters on one slot. -/
def State.waitsAt (s : State) (e : EntrySlot) : List (ReqSlot × ReqSlot) :=
  queueEdges ((s.holdersAt e).map Claim.requester) ((s.queueAt e).map Claim.requester)

theorem State.mem_waitEdges {s : State} {p : ReqSlot × ReqSlot} : p ∈ s.waitEdges ↔ ∃ e, p ∈ s.waitsAt e := by
  have hslot : ∀ e : EntrySlot, s.waitsAt e = (match s.slots[e].live with | some en => en.waitEdges | none => []) := fun e => by
    unfold State.waitsAt State.holdersAt State.queueAt State.entry
    cases s.slots[e].live <;> rfl
  unfold State.waitEdges
  rw [List.mem_flatMap]
  constructor
  · rintro ⟨sl, hsl, hp⟩
    rw [State.slots_toList, List.mem_map] at hsl
    obtain ⟨e, -, rfl⟩ := hsl
    exact ⟨e, by rw [hslot]; exact hp⟩
  · rintro ⟨e, hp⟩
    refine ⟨s.slots[e], ?_, by rw [hslot] at hp; exact hp⟩
    rw [State.slots_toList]
    exact List.mem_map_of_mem (List.mem_finRange e)

/-- No slot has an edge that it had not before. -/
def State.FewerWaits (s t : State) : Prop := ∀ e, t.waitsAt e ⊆ s.waitsAt e

theorem State.FewerWaits.trans {s t u : State} (h : s.FewerWaits t) (g : t.FewerWaits u) : s.FewerWaits u := fun e => List.Subset.trans (g e) (h e)

theorem State.FewerWaits.acyclic {s t : State} (h : s.FewerWaits t) (hs : Acyclic s.waitEdges) : Acyclic t.waitEdges := by
  intro r hr
  refine hs r (Relation.TransGen.mono (fun x y hxy => ?_) r r hr)
  obtain ⟨e, he⟩ := State.mem_waitEdges.mp hxy
  exact State.mem_waitEdges.mpr ⟨e, h e he⟩

theorem State.waitsAt_congr {s t : State} {e : EntrySlot} (h : t.entry e = s.entry e) : t.waitsAt e = s.waitsAt e := by
  simp only [State.waitsAt, State.holdersAt_congr h, State.queueAt_congr h]

theorem State.waitsAt_of_queue_nil {s : State} {e : EntrySlot} (h : s.queueAt e = []) : s.waitsAt e = [] := by
  simp [State.waitsAt, h, queueEdges]

/-- Records that leave a slot make no new edge. -/
theorem State.waitsAt_subset {s t : State} {e : EntrySlot} (hh : t.holdersAt e ⊆ s.holdersAt e)
    (hq : (t.queueAt e).Sublist (s.queueAt e)) : t.waitsAt e ⊆ s.waitsAt e :=
  queueEdges_subset (pre := []) rfl (hq.map _) fun y hy => by
    obtain ⟨c, hc, rfl⟩ := List.mem_map.mp hy
    exact .inl (List.mem_map_of_mem (hh hc))

/-! ### The search -/

/-- One round of the search. -/
def reachedNext (edges : List (ReqSlot × ReqSlot)) (seen : List ReqSlot) : List ReqSlot :=
  ((edges.filter fun p => seen.contains p.1).map Prod.snd).foldr List.insert seen

theorem mem_reachedNext {edges : List (ReqSlot × ReqSlot)} {seen : List ReqSlot} {y : ReqSlot} :
    y ∈ reachedNext edges seen ↔ y ∈ seen ∨ ∃ x ∈ seen, (x, y) ∈ edges := by
  have hunion : reachedNext edges seen = ((edges.filter fun p => seen.contains p.1).map Prod.snd) ∪ seen := rfl
  rw [hunion, List.mem_union_iff, List.mem_map]
  simp only [List.mem_filter, List.contains_iff_mem, Prod.exists, exists_eq_right]
  constructor
  · rintro (⟨x, hxy, hx⟩ | hy)
    · exact .inr ⟨x, hx, hxy⟩
    · exact .inl hy
  · rintro (hy | ⟨x, hx, hxy⟩)
    · exact .inr hy
    · exact .inl ⟨x, hxy, hx⟩

theorem reachWithin_succ (edges : List (ReqSlot × ReqSlot)) (n : Nat) (seen : List ReqSlot) :
    reachWithin edges (n + 1) seen = reachWithin edges n (reachedNext edges seen) := rfl

theorem reachWithin_sound {edges : List (ReqSlot × ReqSlot)} {n : Nat} {seen : List ReqSlot} {y : ReqSlot}
    (h : y ∈ reachWithin edges n seen) : ∃ x ∈ seen, Relation.ReflTransGen (fun x y => (x, y) ∈ edges) x y := by
  induction n generalizing seen with
  | zero => exact ⟨y, h, .refl⟩
  | succ n ih =>
    rw [reachWithin_succ] at h
    obtain ⟨x, hx, hxy⟩ := ih h
    obtain hx | ⟨z, hz, hzx⟩ := mem_reachedNext.mp hx
    · exact ⟨x, hx, hxy⟩
    · exact ⟨z, hz, .head hzx hxy⟩

/-- No edge leads out of the requesters seen. -/
def SearchDone (edges : List (ReqSlot × ReqSlot)) (seen : List ReqSlot) : Prop := ∀ x ∈ seen, ∀ y, (x, y) ∈ edges → y ∈ seen

theorem SearchDone.next {edges : List (ReqSlot × ReqSlot)} {seen : List ReqSlot} (h : SearchDone edges seen) {y : ReqSlot} :
    y ∈ reachedNext edges seen ↔ y ∈ seen := by
  rw [mem_reachedNext]
  refine ⟨?_, .inl⟩
  rintro (hy | ⟨x, hx, hxy⟩)
  · exact hy
  · exact h x hx y hxy

theorem SearchDone.reachWithin {edges : List (ReqSlot × ReqSlot)} {seen : List ReqSlot} (h : SearchDone edges seen) (n : Nat) :
    SearchDone edges (reachWithin edges n seen) := by
  induction n generalizing seen with
  | zero => exact h
  | succ n ih =>
    rw [reachWithin_succ]
    exact ih fun x hx y hxy => h.next.mpr (h x (h.next.mp hx) y hxy)

/-- Each round of the search sees one more requester, until no edge leads out. -/
theorem searchDone_or_card (edges : List (ReqSlot × ReqSlot)) (n : Nat) (seen : List ReqSlot) :
    SearchDone edges (reachWithin edges n seen) ∨ n + seen.toFinset.card ≤ (reachWithin edges n seen).toFinset.card := by
  induction n generalizing seen with
  | zero => exact .inr (by simp [reachWithin])
  | succ n ih =>
    by_cases hdone : SearchDone edges seen
    · exact .inl (hdone.reachWithin (n + 1))
    · refine (ih (reachedNext edges seen)).imp id fun hcard => ?_
      unfold SearchDone at hdone
      push Not at hdone
      obtain ⟨x, hx, y, hxy, hy⟩ := hdone
      have hmore : seen.toFinset.card < (reachedNext edges seen).toFinset.card := by
        refine Finset.card_lt_card ⟨fun z hz => ?_, fun hsub => hy ?_⟩
        · exact List.mem_toFinset.mpr (mem_reachedNext.mpr (.inl (List.mem_toFinset.mp hz)))
        · exact List.mem_toFinset.mp (hsub (List.mem_toFinset.mpr (mem_reachedNext.mpr (.inr ⟨x, hx, hxy⟩))))
      rw [reachWithin_succ]
      omega

theorem seen_subset_reachWithin (edges : List (ReqSlot × ReqSlot)) (n : Nat) (seen : List ReqSlot) : seen ⊆ reachWithin edges n seen := by
  induction n generalizing seen with
  | zero => exact fun _ h => h
  | succ n ih => exact fun x hx => ih _ (mem_reachedNext.mpr (.inl hx))

/-- Among 48 requesters 48 rounds find all that can be reached. -/
theorem searchDone_reachWithin (edges : List (ReqSlot × ReqSlot)) (seen : List ReqSlot) : SearchDone edges (reachWithin edges 48 seen) := by
  obtain hdone | hcard := searchDone_or_card edges 48 seen
  · exact hdone
  · have hle : (reachWithin edges 48 seen).toFinset.card ≤ 48 := (Finset.card_le_univ _).trans (by simp)
    have hnil : seen = [] := List.toFinset_eq_empty_iff seen |>.mp (Finset.card_eq_zero.mp (by omega))
    subst hnil
    exact SearchDone.reachWithin (fun x hx => by cases hx) 48

/-- The search finds exactly the cycles (R66). -/
theorem waitsForItself_iff (edges : List (ReqSlot × ReqSlot)) (r : ReqSlot) :
    waitsForItself edges r = true ↔ Relation.TransGen (fun x y => (x, y) ∈ edges) r r := by
  have hstart : ∀ y, y ∈ (edges.filter fun p => p.1 = r).map Prod.snd ↔ (r, y) ∈ edges := fun y => by simp
  unfold waitsForItself
  rw [List.contains_iff_mem, Relation.TransGen.head'_iff]
  constructor
  · intro h
    obtain ⟨x, hx, hxr⟩ := reachWithin_sound h
    exact ⟨x, (hstart x).mp hx, hxr⟩
  · rintro ⟨x, hx, hxr⟩
    have hmem : ∀ y, Relation.ReflTransGen (fun x y => (x, y) ∈ edges) x y →
        y ∈ reachWithin edges 48 ((edges.filter fun p => p.1 = r).map Prod.snd) := fun y hy => by
      induction hy with
      | refl => exact seen_subset_reachWithin _ _ _ ((hstart x).mpr hx)
      | tail _ hyz ih => exact searchDone_reachWithin _ _ _ ih _ hyz
    exact hmem r hxr

/-- A cycle of a relation whose new pairs all touch r is an old one or one of r. -/
theorem transGen_of_touching {R R' : ReqSlot → ReqSlot → Prop} {r : ReqSlot} (h : ∀ x y, R' x y → R x y ∨ x = r ∨ y = r) {x y : ReqSlot}
    (hxy : Relation.TransGen R' x y) :
    Relation.TransGen R x y ∨ Relation.ReflTransGen R' x r ∧ Relation.ReflTransGen R' r y := by
  induction hxy with
  | single hxy =>
    obtain hold | rfl | rfl := h _ _ hxy
    · exact .inl (.single hold)
    · exact .inr ⟨.refl, .single hxy⟩
    · exact .inr ⟨.single hxy, .refl⟩
  | tail hxy hyz ih =>
    obtain hold | ⟨hxr, hry⟩ := ih
    · obtain hold' | rfl | rfl := h _ _ hyz
      · exact .inl (hold.tail hold')
      · exact .inr ⟨hxy.to_reflTransGen, .single hyz⟩
      · exact .inr ⟨hxy.to_reflTransGen.tail hyz, .refl⟩
    · exact .inr ⟨hxr, hry.tail hyz⟩

theorem not_transGen_of_touching {R R' : ReqSlot → ReqSlot → Prop} {r : ReqSlot} (h : ∀ x y, R' x y → R x y ∨ x = r ∨ y = r)
    (hR : ∀ x, ¬ Relation.TransGen R x x) (hr : ¬ Relation.TransGen R' r r) (x : ReqSlot) : ¬ Relation.TransGen R' x x := by
  intro hx
  obtain hold | ⟨hxr, hrx⟩ := transGen_of_touching h hx
  · exact hR x hold
  · obtain rfl | hrx := Relation.reflTransGen_iff_eq_or_transGen.mp hrx
    · exact hr hx
    · exact hr (hrx.trans_left hxr)

/-! ### Placements -/

/-- The place of a new waiter among the requesters of a queue (R31). -/
def insertRequester (priority : ReqSlot → Nat) (r : ReqSlot) : List ReqSlot → List ReqSlot
  | [] => [r]
  | x :: rest => if priority r ≤ priority x then x :: insertRequester priority r rest else r :: x :: rest

theorem map_requester_insertWaiter (priority : ReqSlot → Nat) (c : Claim) (l : List Claim) :
    (insertWaiter priority c l).map Claim.requester = insertRequester priority c.requester (l.map Claim.requester) := by
  induction l with
  | nil => rfl
  | cons d l ih =>
    rw [insertWaiter, List.map_cons, insertRequester]
    split
    · rw [List.map_cons, ih]
    · rfl

theorem mem_queueEdges_insertRequester {priority : ReqSlot → Nat} {r : ReqSlot} {ahead l : List ReqSlot} {x y : ReqSlot}
    (h : (x, y) ∈ queueEdges ahead (insertRequester priority r l)) : (x, y) ∈ queueEdges ahead l ∨ x = r ∨ y = r := by
  have hfirst : ∀ {ahead : List ReqSlot} {x y z : ReqSlot}, (x, y) ∈ ahead.map (fun y => (z, y)) → x = z := fun {ahead x y z} hxy => by
    obtain ⟨_, -, heq⟩ := List.mem_map.mp hxy
    exact (Prod.mk.inj heq).1.symm
  induction l generalizing ahead with
  | nil =>
    rw [insertRequester, queueEdges, queueEdges, List.append_nil] at h
    exact .inr (.inl (hfirst h))
  | cons z l ih =>
    rw [insertRequester] at h
    split at h
    · rw [queueEdges, List.mem_append] at h ⊢
      obtain h | h := h
      · exact .inl (.inl h)
      · exact (ih h).imp_left .inr
    · rw [queueEdges, List.mem_append] at h
      obtain h | h := h
      · exact .inr (.inl (hfirst h))
      · obtain ⟨pre, post, heq, hy⟩ := mem_queueEdges.mp h
        rw [List.mem_append, List.mem_singleton] at hy
        by_cases hyr : y = r
        · exact .inr (.inr hyr)
        · exact .inl (mem_queueEdges.mpr ⟨pre, post, heq, by tauto⟩)

/-- The edges on a slot with the requester r placed on some slots. -/
def State.waitsWith (s : State) (r : ReqSlot) (slots : List EntrySlot) (e : EntrySlot) : List (ReqSlot × ReqSlot) :=
  queueEdges ((s.holdersAt e).map Claim.requester)
    (if e ∈ slots then insertRequester s.priority r ((s.queueAt e).map Claim.requester) else (s.queueAt e).map Claim.requester)

theorem State.waitsWith_of_not_mem (s : State) (r : ReqSlot) {slots : List EntrySlot} {e : EntrySlot} (he : e ∉ slots) :
    s.waitsWith r slots e = s.waitsAt e := by
  simp [State.waitsWith, State.waitsAt, he]

/-- A slot with the record of r in its place. -/
theorem State.waitsAt_of_inserted {s t : State} {e : EntrySlot} {en en' : Entry} {c : Claim} {slots : List EntrySlot}
    (hen : s.entry e = some en) (hen' : t.entry e = some en') (hh : en'.holders = en.holders)
    (hq : en'.queue = insertWaiter s.priority c en.queue) (he : e ∈ slots) : t.waitsAt e = s.waitsWith c.requester slots e := by
  unfold State.waitsAt State.waitsWith
  rw [State.holdersAt_of_entry hen, State.holdersAt_of_entry hen', State.queueAt_of_entry hen, State.queueAt_of_entry hen', hh, hq,
    if_pos he, map_requester_insertWaiter]

/-- Records in their queues, slot by slot. -/
theorem State.entry_enqueueAll {s : State} {records : List (EntrySlot × Claim)} (hd : (records.map Prod.fst).Nodup) (e : EntrySlot) :
    (records.foldl (fun u p => u.enqueue p.1 p.2) s).entry e =
      match records.find? fun p => p.1 = e with
      | some p => (s.entry e).map fun en => { en with queue := insertWaiter s.priority p.2 en.queue }
      | none => s.entry e := by
  induction records generalizing s with
  | nil => rfl
  | cons p records ih =>
    obtain ⟨hp, hd⟩ := List.nodup_cons.mp hd
    have hpriority : (s.enqueue p.1 p.2).priority = s.priority := State.priority_of_standing (ClaimFrame.enqueue s p.1 p.2).standing
    rw [List.foldl_cons, ih hd, hpriority, State.entry_enqueue]
    by_cases he : p.1 = e
    · have hnone : records.find? (fun p => p.1 = e) = none := by
        rw [List.find?_eq_none]
        intro p' hp' he'
        exact hp (he ▸ of_decide_eq_true he' ▸ List.mem_map_of_mem hp')
      rw [hnone, List.find?_cons_of_pos (by simpa using he)]
      simp [he]
    · rw [List.find?_cons_of_neg (by simpa using he), if_neg he]

theorem find?_slot_cases {records : List (EntrySlot × Claim)} (e : EntrySlot) :
    (records.find? (fun p => p.1 = e) = none ∧ e ∉ records.map Prod.fst) ∨
      ∃ c, records.find? (fun p => p.1 = e) = some (e, c) ∧ (e, c) ∈ records := by
  cases hf : records.find? (fun p => p.1 = e) with
  | none =>
    refine .inl ⟨rfl, fun he => ?_⟩
    obtain ⟨p, hp, rfl⟩ := List.mem_map.mp he
    exact List.find?_eq_none.mp hf p hp (by simp)
  | some p =>
    obtain rfl : p.1 = e := by simpa using List.find?_some hf
    exact .inr ⟨p.2, rfl, List.mem_of_find?_eq_some hf⟩

theorem State.waitsAt_enqueueAll {s : State} {r : ReqSlot} {records : List (EntrySlot × Claim)} (hd : (records.map Prod.fst).Nodup)
    (hm : ∀ p ∈ records, p.2.requester = r ∧ ∃ en, s.entry p.1 = some en) (e : EntrySlot) :
    (records.foldl (fun u p => u.enqueue p.1 p.2) s).waitsAt e = s.waitsWith r (records.map Prod.fst) e := by
  have hentry := State.entry_enqueueAll (s := s) hd e
  obtain ⟨hf, he⟩ | ⟨c, hf, hc⟩ := find?_slot_cases (records := records) e
  · rw [hf] at hentry
    rw [State.waitsWith_of_not_mem s r he, State.waitsAt_congr hentry]
  · obtain ⟨rfl, en, hen⟩ := hm _ hc
    rw [hf, hen] at hentry
    exact State.waitsAt_of_inserted hen hentry rfl rfl (List.mem_map_of_mem hc)

theorem State.waitsAt_placeAll {s : State} {r : ReqSlot} {records : List (EntrySlot × Claim)} (hd : (records.map Prod.fst).Nodup)
    (hm : ∀ p ∈ records, p.2.requester = r ∧ ∃ en, s.entry p.1 = some en ∧ en.state ≠ .retiring) (e : EntrySlot) :
    (records.foldl (fun u p => u.place p.1 p.2) s).waitsAt e = s.waitsWith r (records.map Prod.fst) e := by
  have hentry := State.entry_placeAll (s := s) hd e
  obtain ⟨hf, he⟩ | ⟨c, hf, hc⟩ := find?_slot_cases (records := records) e
  · rw [hf] at hentry
    rw [State.waitsWith_of_not_mem s r he, State.waitsAt_congr hentry]
  · obtain ⟨rfl, en, hen, hret⟩ := hm _ hc
    rw [hf, hen] at hentry
    have hplaced := hentry.trans (Entry.recomputed_of_ne_retiring (en := { en with queue := insertWaiter s.priority c en.queue }) hret)
    exact State.waitsAt_of_inserted hen hplaced rfl rfl (List.mem_map_of_mem hc)

/-- Whether r would wait for itself with its records on some slots (R68). -/
def State.CycleWith (s : State) (r : ReqSlot) (slots : List EntrySlot) : Prop :=
  Relation.TransGen (fun x y => ∃ e, (x, y) ∈ s.waitsWith r slots e) r r

theorem State.cycle_iff {s u : State} {r : ReqSlot} {slots : List EntrySlot} (h : ∀ e, u.waitsAt e = s.waitsWith r slots e) :
    Relation.TransGen (fun x y => (x, y) ∈ u.waitEdges) r r ↔ s.CycleWith r slots := by
  have hrel : (fun x y => (x, y) ∈ u.waitEdges) = fun x y => ∃ e, (x, y) ∈ s.waitsWith r slots e := by
    funext x y
    rw [State.mem_waitEdges]
    simp only [h]
  rw [hrel]
  rfl

/-- The wait-for check refuses exactly a cycle (R68 to R70). -/
theorem State.wouldDeadlock_iff {s : State} {r : ReqSlot} {records : List (EntrySlot × Claim)} (hd : (records.map Prod.fst).Nodup)
    (hm : ∀ p ∈ records, p.2.requester = r ∧ ∃ en, s.entry p.1 = some en) :
    s.wouldDeadlock r records = true ↔ s.CycleWith r (records.map Prod.fst) := by
  unfold State.wouldDeadlock
  rw [waitsForItself_iff]
  exact State.cycle_iff (State.waitsAt_enqueueAll hd hm)

/-- A placement that closes no cycle of its requester closes none. -/
theorem State.acyclic_of_placed {s u : State} {r : ReqSlot} {slots : List EntrySlot} (h : ∀ e, u.waitsAt e = s.waitsWith r slots e)
    (hs : Acyclic s.waitEdges) (hr : ¬ s.CycleWith r slots) : Acyclic u.waitEdges := by
  refine not_transGen_of_touching (R := fun x y => (x, y) ∈ s.waitEdges) (fun x y hxy => ?_) hs ((State.cycle_iff h).not.mpr hr)
  obtain ⟨e, he⟩ := State.mem_waitEdges.mp hxy
  rw [h e] at he
  rw [State.mem_waitEdges]
  by_cases hmem : e ∈ slots
  · rw [State.waitsWith, if_pos hmem] at he
    exact (mem_queueEdges_insertRequester he).imp_left fun hold => ⟨e, hold⟩
  · rw [State.waitsWith_of_not_mem s r hmem] at he
    exact .inl ⟨e, he⟩

end Sys2Proof.Machine
end

section
/-! No change of the store makes a cycle of waiting requesters, so no step does (R72). -/

namespace Sys2Proof.Machine

/-! ### Changes that make no edge -/

theorem State.fewerWaits_of_entry {s t : State} (h : ∀ e, t.entry e = s.entry e) : s.FewerWaits t := fun e => by
  rw [State.waitsAt_congr (h e)]
  exact List.Subset.refl _

/-- Records leave queues and holder lists. -/
theorem State.fewerWaits_of_sublist {s t : State} (hh : ∀ e, t.holdersAt e ⊆ s.holdersAt e)
    (hq : ∀ e, (t.queueAt e).Sublist (s.queueAt e)) : s.FewerWaits t := fun e => State.waitsAt_subset (hh e) (hq e)

/-- A single slot is rewritten, its requesters staying in their places. -/
theorem State.fewerWaits_of_rewritten {s t : State} {e : EntrySlot} {en en' : Entry} (hen : s.entry e = some en)
    (hen' : t.entry e = some en') (hother : ∀ x, x ≠ e → t.entry x = s.entry x)
    (hh : en'.holders.map Claim.requester = en.holders.map Claim.requester)
    (hq : en'.queue.map Claim.requester = en.queue.map Claim.requester) : s.FewerWaits t := fun x => by
  by_cases hx : x = e
  · subst hx
    unfold State.waitsAt
    rw [State.holdersAt_of_entry hen, State.holdersAt_of_entry hen', State.queueAt_of_entry hen, State.queueAt_of_entry hen', hh, hq]
    exact List.Subset.refl _
  · rw [State.waitsAt_congr (hother x hx)]
    exact List.Subset.refl _

theorem State.fewerWaits_setEntry {s : State} {e : EntrySlot} {en : Entry} (en' : Entry) (hen : s.entry e = some en)
    (hh : en'.holders.map Claim.requester = en.holders.map Claim.requester)
    (hq : en'.queue.map Claim.requester = en.queue.map Claim.requester) : s.FewerWaits (s.setEntry e en') :=
  State.fewerWaits_of_rewritten hen ((State.entry_setEntry _ _ _ _).trans (if_pos rfl))
    (fun _ hx => (State.entry_setEntry _ _ _ _).trans (if_neg (Ne.symm hx))) hh hq

theorem State.fewerWaits_setEntry_unqueued (s : State) (e : EntrySlot) {en : Entry} (hq : en.queue = []) :
    s.FewerWaits (s.setEntry e en) := fun x => by
  by_cases hx : e = x
  · subst hx
    rw [State.waitsAt_of_queue_nil]
    · exact List.nil_subset _
    · rw [State.queueAt_of_entry ((State.entry_setEntry _ _ _ _).trans (if_pos rfl)), hq]
  · rw [State.waitsAt_congr ((State.entry_setEntry s e en x).trans (if_neg hx))]
    exact List.Subset.refl _

theorem Entry.setHoldMode_requesters (en : Entry) (r : ReqSlot) (m : Mode) :
    (en.setHoldMode r m).holders.map Claim.requester = en.holders.map Claim.requester := by
  rw [Entry.setHoldMode, List.map_map]
  refine List.map_congr_left fun c _ => ?_
  rw [Function.comp_apply]
  split <;> rfl

theorem State.fewerWaits_recomputeAll (s : State) (es : List EntrySlot) : s.FewerWaits (s.recomputeAll es) := by
  refine State.fewerWaits_of_sublist (fun e => by rw [State.holdersAt_recomputeAll]; exact List.Subset.refl _) fun e => ?_
  unfold State.queueAt
  rw [State.entry_recomputeAll]
  split
  · cases s.entry e with
    | none => exact List.Sublist.refl _
    | some en =>
      rw [Option.bind_some]
      unfold Entry.recomputed
      split
      · split
        · exact List.nil_sublist _
        · exact List.Sublist.refl _
      · exact List.Sublist.refl _
  · exact List.Sublist.refl _

theorem State.fewerWaits_recompute (s : State) (e : EntrySlot) : s.FewerWaits (s.recompute e) := s.fewerWaits_recomputeAll [e]

/-- The passes move heads of queues to their holders, or past them. -/
theorem Passed.fewerWaits {quiet : Quiet} {u t : State} (h : Passed quiet u t) : u.FewerWaits t := by
  intro e
  cases ht : t.entry e with
  | none => rw [State.waitsAt_of_queue_nil (by simp [State.queueAt, ht])]; exact List.nil_subset _
  | some en' =>
    have hlive := h.live e
    rw [ht] at hlive
    obtain ⟨en, hu⟩ := Option.isSome_iff_exists.mp hlive.symm
    have hadv := h.entries e en en' hu ht
    obtain ⟨pre, hpre⟩ := hadv.queue
    unfold State.waitsAt
    rw [State.holdersAt_of_entry hu, State.holdersAt_of_entry ht, State.queueAt_of_entry hu, State.queueAt_of_entry ht]
    refine queueEdges_subset (pre := pre.map Claim.requester) (post := en'.queue.map Claim.requester)
      (by rw [← hpre, List.map_append]) (List.Sublist.refl _) fun y hy => ?_
    obtain ⟨c, hc, rfl⟩ := List.mem_map.mp hy
    obtain hc | ⟨w, hw, hwn, rfl⟩ := (hadv.holders c).mp hc
    · exact .inl (List.mem_map_of_mem hc)
    · rw [← hpre, List.mem_append] at hw
      exact .inr (List.mem_map.mpr ⟨w, hw.resolve_right hwn, rfl⟩)

theorem State.fewerWaits_runPasses {s : State} (h : s.Consistent) (quiet : Quiet) (list : List EntrySlot) :
    s.FewerWaits (s.runPasses quiet list) := (State.runPasses_ran h quiet list).1.fewerWaits

theorem State.fewerWaits_reclaim {s : State} (h : s.Consistent) (r : ReqSlot) (stale : Bool) : s.FewerWaits (s.reclaim r stale) := by
  refine State.FewerWaits.trans (State.fewerWaits_of_sublist (fun e => ?_) fun e => ?_)
    (State.fewerWaits_runPasses (h.stripAll r stale) .loud _)
  · rw [State.holdersAt_stripAll]
    exact List.filter_subset_self _
  · rw [((h.passing 0).off.allDrained).queueAt_stripAll]
    exact List.filter_sublist

theorem State.fewerWaits_dropHold (s : State) (r : ReqSlot) (e : EntrySlot) (stale : Bool) : s.FewerWaits (s.dropHold r e stale) := by
  refine State.fewerWaits_of_sublist (fun x => ?_) fun _ => by rw [State.queueAt_dropHold]
  rw [State.holdersAt_dropHold]
  split
  · next hx => subst hx; exact List.filter_subset_self _
  · exact List.Subset.refl _

theorem State.fewerWaits_dropWait (s : State) (r : ReqSlot) (e : EntrySlot) : s.FewerWaits (s.dropWait r e) := by
  refine State.fewerWaits_of_sublist (fun x => by rw [State.holdersAt_dropWait]; exact List.Subset.refl _) fun x => ?_
  rw [State.queueAt_dropWait]
  split
  · next hx => subst hx; exact List.filter_sublist
  · exact List.Sublist.refl _

theorem State.fewerWaits_dropSet (s : State) (r : ReqSlot) (id : Word16) : s.FewerWaits (s.dropSet r id) := by
  refine State.fewerWaits_of_sublist (fun x => by rw [State.holdersAt_dropSet]; exact List.Subset.refl _) fun x => ?_
  rw [State.queueAt_dropSet]
  exact List.filter_sublist

theorem State.fewerWaits_notify (s : State) {notify : State → State} (hn : Notifying notify) : s.FewerWaits (notify s) :=
  State.fewerWaits_of_entry (hn.entry s)

theorem Purged.fewerWaits {s u : State} {e : EntrySlot} {queue : List Claim} {list : List EntrySlot} (h : Purged s e queue u list) :
    s.FewerWaits u := by
  intro x
  by_cases hx : x = e
  · subst hx
    rw [State.waitsAt_of_queue_nil h.emptied]
    exact List.nil_subset _
  · refine State.waitsAt_subset (fun c hc => ?_) ?_
    · unfold State.holdersAt at hc ⊢
      rw [h.others x hx] at hc
      cases hs : s.entry x with
      | none => simp [hs] at hc
      | some en => simpa [hs, Entry.settle_holders, Entry.withoutSets] using hc
    · unfold State.queueAt
      rw [h.others x hx]
      cases hs : s.entry x with
      | none => exact List.Sublist.refl _
      | some en =>
        show (en.withoutSets queue).settle.queue.Sublist en.queue
        rw [Entry.settle_queue]
        exact List.filter_sublist

theorem State.fewerWaits_freeSlot (s : State) (e : EntrySlot) : s.FewerWaits (s.freeSlot e) := fun x => by
  by_cases hx : e = x
  · subst hx
    rw [State.waitsAt_of_queue_nil (by simp [State.queueAt])]
    exact List.nil_subset _
  · rw [State.waitsAt_congr ((State.entry_freeSlot s e x).trans (if_neg hx))]
    exact List.Subset.refl _

theorem State.fewerWaits_retireSteps {s : State} (h : s.Consistent) {e : EntrySlot} {en : Entry} (hen : s.entry e = some en)
    (force : Bool) : s.FewerWaits (s.retireSteps e en force).1.1 := by
  obtain ⟨hfreed, -⟩ | hsame | hpurged := State.retireSteps_purged h hen force
  · rw [hfreed]
    exact s.fewerWaits_freeSlot e
  · rw [hsame]
    exact State.fewerWaits_of_entry fun _ => rfl
  · exact hpurged.fewerWaits

/-- Grants at once to slots where no one waits (R27). -/
theorem State.fewerWaits_grantAll (s : State) (r : ReqSlot) (id : Option Word16) {members : List (EntrySlot × Mode)}
    (hm : ∀ p ∈ members, s.queueAt p.1 = []) : s.FewerWaits (members.foldl (fun u p => u.grantNow r p.1 p.2 id) s) := fun x => by
  by_cases hx : x ∈ members.map Prod.fst
  · obtain ⟨p, hp, rfl⟩ := List.mem_map.mp hx
    rw [State.waitsAt_of_queue_nil ((s.queueAt_grantAll r id members p.1).trans (hm p hp))]
    exact List.nil_subset _
  · rw [State.waitsAt_congr (s.entry_grantAll_of_not_mem r id hx)]
    exact List.Subset.refl _

/-! ### Placements -/

theorem State.acyclic_placeAll {s : State} {r : ReqSlot} {records records' : List (EntrySlot × Claim)}
    (hd : (records.map Prod.fst).Nodup) (hsame : records'.map Prod.fst = records.map Prod.fst)
    (hm : ∀ p ∈ records, p.2.requester = r ∧ ∃ en, s.entry p.1 = some en ∧ en.state ≠ .retiring)
    (hm' : ∀ p ∈ records', p.2.requester = r ∧ ∃ en, s.entry p.1 = some en) (hs : Acyclic s.waitEdges)
    (hc : s.wouldDeadlock r records' = false) : Acyclic (records.foldl (fun u p => u.place p.1 p.2) s).waitEdges := by
  refine State.acyclic_of_placed (State.waitsAt_placeAll hd hm) hs fun hcycle => ?_
  rw [← hsame] at hcycle hd
  rw [(State.wouldDeadlock_iff hd hm').mpr hcycle] at hc
  cases hc

theorem State.acyclic_placeSingle {s : State} (h : s.Consistent) {r : ReqSlot} {q : Requester} {e : EntrySlot} {en : Entry} {m : Mode}
    {limit : Nat} (hen : s.entry e = some en) (hq : s.req r = some q) (ha : ClaimAllowed s r q en) (hs : Acyclic s.waitEdges)
    (hc : s.wouldDeadlock r [(e, ⟨r, m, none, false, waitDeadline limit⟩)] = false) :
    Acyclic (placeSingle r e m limit s).1.waitEdges := by
  have hplaced : Acyclic (s.place e ⟨r, m, none, false, waitDeadline limit⟩).waitEdges :=
    State.acyclic_placeAll (records := [(e, ⟨r, m, none, false, waitDeadline limit⟩)]) (List.nodup_singleton e) rfl
      (fun p hp => by obtain rfl := List.mem_singleton.mp hp; exact ⟨rfl, en, hen, ha.1⟩)
      (fun p hp => by obtain rfl := List.mem_singleton.mp hp; exact ⟨rfl, en, hen⟩) hs hc
  rw [placeSingle_fst]
  split
  · exact (State.fewerWaits_runPasses (h.place m limit hen hq ha) _ _).acyclic hplaced
  · exact hplaced

theorem State.acyclic_placeSet {s : State} (h : s.Consistent) {r : ReqSlot} {q : Requester} {members : List (EntrySlot × Mode)}
    {limit : Nat} (ha : SetAllowed s r q members) (hs : Acyclic s.waitEdges)
    (hc : s.wouldDeadlock r (setRecords r s.setIdCounter limit members) = false) :
    Acyclic (placeSet r members limit s).1.waitEdges := by
  have hlive : ∀ id, ∀ p ∈ setRecords r id limit members,
      p.2.requester = r ∧ ∃ en, s.takeSetId.entry p.1 = some en ∧ en.state ≠ .retiring := fun id p hp => by
    obtain ⟨hmem, hr, -⟩ := mem_setRecords hp
    obtain ⟨en, hen, hret, -⟩ := ha.live _ hmem
    exact ⟨hr, en, by simpa using hen, hret⟩
  have hcT : s.takeSetId.wouldDeadlock r (setRecords r s.setIdCounter limit members) = false := by
    rw [← hc]
    rw [Bool.eq_iff_iff, State.wouldDeadlock_iff (by rw [setRecords_map_fst]; exact ha.distinct) fun p hp => ?_,
      State.wouldDeadlock_iff (by rw [setRecords_map_fst]; exact ha.distinct) fun p hp => ?_]
    · rfl
    · obtain ⟨hr, en, hen, -⟩ := hlive _ p hp
      exact ⟨hr, en, by simpa using hen⟩
    · obtain ⟨hr, en, hen, -⟩ := hlive _ p hp
      exact ⟨hr, en, hen⟩
  rw [placeSet_fst]
  refine (State.fewerWaits_runPasses (h.placeRecords limit ha) _ _).acyclic ?_
  refine State.acyclic_placeAll (records' := setRecords r s.setIdCounter limit members) ?_ ?_ (hlive _) (fun p hp => ?_) ?_ hcT
  · rw [setRecords_map_fst]
    exact ha.distinct
  · rw [setRecords_map_fst, setRecords_map_fst]
  · obtain ⟨hr, en, hen, -⟩ := hlive _ p hp
    exact ⟨hr, en, hen⟩
  · exact (State.fewerWaits_of_entry (s := s) fun e => s.entry_takeSetId e).acyclic hs

/-! ### The invariant -/

theorem StoreChange.acyclic {s t : State} (hc : s.Consistent) (hs : Acyclic s.waitEdges) (h : StoreChange s t) :
    Acyclic t.waitEdges := by
  induction h with
  | same hst => exact (State.fewerWaits_of_entry hst.entry).acyclic hs
  | trans h _ ih ih' => exact ih' (h.consistent hc) (ih hc hs)
  | rewritten hq _ _ => exact (State.fewerWaits_of_entry fun e => by simp).acyclic hs
  | opened hq _ _ => exact (State.fewerWaits_of_entry fun e => by simp).acyclic hs
  | reclaimed s stale _ => exact (State.fewerWaits_reclaim hc _ stale).acyclic hs
  | vacated s stale _ =>
    exact ((State.fewerWaits_reclaim hc _ stale).trans (State.fewerWaits_of_entry fun e => State.entry_vacated _ _ _ e)).acyclic hs
  | noticeDropped s r => exact (State.fewerWaits_of_entry fun e => by simp).acyclic hs
  | @defined s f e _ _ he =>
    exact ((s.fewerWaits_setEntry_unqueued e (en := definedEntry f) rfl).trans (State.fewerWaits_of_entry fun _ => rfl)).acyclic hs
  | retired force he =>
    exact ((State.fewerWaits_retireSteps hc he force).trans (State.fewerWaits_runPasses (hc.retireSteps he force) _ _)).acyclic hs
  | @limited s e en share hold he _ _ _ =>
    exact (State.fewerWaits_setEntry { en with shareLimit := share, holdLimit := hold } he rfl rfl).acyclic hs
  | @limitRaised s e en share hold he hb hl _ =>
    exact ((State.fewerWaits_setEntry { en with shareLimit := share, holdLimit := hold } he rfl rfl).trans
      (State.fewerWaits_runPasses (hc.setLimits hold he hb hl) _ _)).acyclic hs
  | @noted s e en note he _ =>
    exact (State.fewerWaits_setEntry { en with note := note, noteStale := false } he rfl rfl).acyclic hs
  | @granted s r q e en m he hq ha ho =>
    refine (s.fewerWaits_grantAll r none (members := [(e, m)]) fun p hp => ?_).acyclic hs
    obtain rfl := List.mem_singleton.mp hp
    rw [State.queueAt_of_entry he]
    exact (Entry.atOnce_fits (hc.entries e en he) ho).1
  | placed he hq ha _ hd => exact State.acyclic_placeSingle hc he hq ha hs hd
  | @setGranted s r q members ha ho =>
    refine ((State.fewerWaits_of_entry (s := s) fun e => s.entry_takeSetId e).trans
      (s.takeSetId.fewerWaits_grantAll r _ fun p hp => ?_)).acyclic hs
    obtain ⟨en, hen, hat⟩ := State.allAtOnce_iff.mp ho p hp
    rw [State.queueAt_congr (s.entry_takeSetId p.1), State.queueAt_of_entry hen]
    exact (Entry.atOnce_fits (hc.entries p.1 en hen) hat).1
  | setPlaced ha _ hd => exact State.acyclic_placeSet hc ha hs hd
  | @holdEnded s r e en notify stale he hr hn =>
    exact ((((s.fewerWaits_dropHold r e stale).trans (State.fewerWaits_notify _ hn)).trans (State.fewerWaits_recompute _ e)).trans
      (State.fewerWaits_runPasses (hc.endHold he hr stale hn) _ _)).acyclic hs
  | @waitEnded s r e en c notify he hw hid hn =>
    exact ((((s.fewerWaits_dropWait r e).trans (State.fewerWaits_notify _ hn)).trans (State.fewerWaits_recompute _ e)).trans
      (State.fewerWaits_runPasses (hc.endWait he hw hid hn) _ _)).acyclic hs
  | @setEnded s r e en c id notify _ _ _ hn =>
    exact ((((s.fewerWaits_dropSet r id).trans (State.fewerWaits_notify _ hn)).trans (State.fewerWaits_recomputeAll _ _)).trans
      (State.fewerWaits_runPasses (hc.dropSet r id hn) _ _)).acyclic hs
  | @upgraded s r e en c he hh _ hsole =>
    have hone := (hc.sound e en he).holders_length_of_sole hh hsole
    exact (State.fewerWaits_of_rewritten he (State.entry_setHoldMode s e r hone .exclusive)
      (fun x hx => State.entry_setHoldMode_ne _ hx) (by rw [Entry.settle_holders, Entry.setHoldMode_requesters])
      (by rw [Entry.settle_queue, Entry.setHoldMode_queue])).acyclic hs
  | @downgraded s r e en he hx =>
    have hone := hc.sole_of_exclusive he hx
    exact ((State.fewerWaits_of_rewritten he (State.entry_setHoldMode s e r hone .shared)
      (fun x hx => State.entry_setHoldMode_ne _ hx) (by rw [Entry.settle_holders, Entry.setHoldMode_requesters])
      (by rw [Entry.settle_queue, Entry.setHoldMode_queue])).trans
      (State.fewerWaits_runPasses (hc.setHoldMode he r hone .shared) _ _)).acyclic hs
  | ticked s =>
    refine State.FewerWaits.acyclic (fun e => ?_) hs
    have hreq : ∀ l : List Claim, (l.map Claim.ticked).map Claim.requester = l.map Claim.requester := fun l => by
      rw [List.map_map]; rfl
    unfold State.waitsAt
    rw [State.holdersAt_lowerAll, State.queueAt_lowerAll, hreq, hreq]
    exact List.Subset.refl _
  | @reset _ t hst =>
    intro r hr
    obtain ⟨y, hy, -⟩ := Relation.TransGen.head'_iff.mp hr
    obtain ⟨e, he⟩ := State.mem_waitEdges.mp hy
    have hnone : t.queueAt e = [] := by
      unfold State.queueAt
      rw [hst.entry e]
      simp [State.entry, State.reset]
    rw [State.waitsAt_of_queue_nil hnone] at he
    cases he

/-- Settles O59: removals, grants and passes make no edge, and a placement is refused when it closes a cycle. -/
theorem waitingStaysAcyclic : Obligations.WaitingStaysAcyclic := by
  intro s t hs hacyclic h
  rw [State.consistent_iff] at hs
  exact (step_keeps_of_storeChange (P := fun u => u.Consistent ∧ Acyclic u.waitEdges)
    (fun _ _ hu h => ⟨h.consistent hu.1, h.acyclic hu.1 hu.2⟩) ⟨hs, hacyclic⟩ h).2

end Sys2Proof.Machine
end

section
/-! The requester table stays in range, and what the changes of a command leave of the link, the ports, the decoder and the settings. -/

namespace Sys2Proof.Machine

/-! ### The requester table -/

/-- Every open record is legal and no two have one origin and one local id (R93, R97, R100). -/
def State.ReqsLegal (s : State) : Prop :=
  (∀ r, ∀ q ∈ s.req r, q.legal) ∧
    ∀ r, ∀ q ∈ s.req r, ∀ r', ∀ q' ∈ s.req r', q.origin = q'.origin → q.localId = q'.localId → r = r'

/-- Every requester is closed, or as it was in the fields that no work on claim records writes. -/
def State.SameOrFree (s t : State) : Prop := ∀ r, t.req r = none ∨ (t.req r).map Requester.fixed = (s.req r).map Requester.fixed

theorem State.SameOrFree.refl (s : State) : s.SameOrFree s := fun _ => .inr rfl

theorem State.SameOrFree.trans {s t u : State} (h : s.SameOrFree t) (g : t.SameOrFree u) : s.SameOrFree u := fun r => by
  obtain hu | hu := g r
  · exact .inl hu
  · obtain ht | ht := h r
    · rw [ht] at hu
      exact .inl (by simpa using hu)
    · exact .inr (hu.trans ht)

theorem ClaimFrame.sameOrFree {s t : State} (h : ClaimFrame s t) : s.SameOrFree t := fun r => .inr (h.requesters r)

theorem SameStore.sameOrFree {s t : State} (h : SameStore s t) : s.SameOrFree t := fun r => .inr (by rw [h.req])

theorem State.sameOrFree_of_req {s t : State} (h : ∀ r, t.req r = s.req r) : s.SameOrFree t := fun r => .inr (by rw [h])

theorem State.sameOrFree_vacated (s : State) (r : ReqSlot) (stale : Bool) : s.SameOrFree (s.vacated r stale) := fun r' => by
  rw [State.req_vacated]
  split
  · exact .inl rfl
  · exact (ClaimFrame.reclaim s r stale).sameOrFree r'

theorem State.sameOrFree_evict (s : State) (r : ReqSlot) (cause : Cause) : s.SameOrFree (s.evict r cause) := by
  unfold State.evict
  split
  · exact .refl s
  · exact (s.sameOrFree_vacated r true).trans (SameStore.raise _ _).sameOrFree

theorem State.req_evict_self (s : State) (r : ReqSlot) (cause : Cause) : (s.evict r cause).req r = none := by
  unfold State.evict
  split
  · next h => exact h
  · exact (SameStore.raise _ _).req r |>.trans ((s.req_vacated r true r).trans (if_pos rfl))

theorem State.sameOrFree_evictAll (s : State) (rs : List ReqSlot) (cause : Cause) : s.SameOrFree (s.evictAll rs cause) := by
  unfold State.evictAll
  induction rs generalizing s with
  | nil => exact .refl s
  | cons r rs ih => exact (s.sameOrFree_evict r cause).trans (ih _)

theorem State.sameOrFree_deleteNode (s : State) (a : Nat) : s.SameOrFree (s.deleteNode a) := by
  unfold State.deleteNode
  exact (State.sameOrFree_of_req fun _ => rfl).trans (State.sameOrFree_evictAll _ _ _)

theorem Requester.legal_of_fixed {q q' : Requester} (h : q'.fixed = q.fixed) (hq : q.legal) : q'.legal := by
  simp only [Requester.fixed, Prod.mk.injEq] at h
  obtain ⟨⟨ho, hl, hp⟩, hb, ht, htl⟩ := h
  unfold Requester.legal
  rw [ho, hl, hp, hb, ht, htl]
  exact hq

theorem State.ReqsLegal.sameOrFree {s t : State} (hs : s.ReqsLegal) (h : s.SameOrFree t) : t.ReqsLegal := by
  have hfrom : ∀ r q', t.req r = some q' → ∃ q, s.req r = some q ∧ q'.fixed = q.fixed := fun r q' hq' => by
    obtain hnone | hsame := h r
    · rw [hnone] at hq'
      cases hq'
    · rw [hq', Option.map_some] at hsame
      obtain ⟨q, hq, hf⟩ := Option.map_eq_some_iff.mp hsame.symm
      exact ⟨q, hq, hf.symm⟩
  refine ⟨fun r q' hq' => ?_, fun r q' hq' r' p' hp' ho hl => ?_⟩
  · obtain ⟨q, hq, hf⟩ := hfrom r q' hq'
    exact Requester.legal_of_fixed hf (hs.1 r q hq)
  · obtain ⟨q, hq, hf⟩ := hfrom r q' hq'
    obtain ⟨p, hp, hf'⟩ := hfrom r' p' hp'
    simp only [Requester.fixed, Prod.mk.injEq] at hf hf'
    obtain ⟨⟨hqo, hql, -⟩, -⟩ := hf
    obtain ⟨⟨hpo, hpl, -⟩, -⟩ := hf'
    exact hs.2 r q hq r' p hp (by rw [← hqo, ho, hpo]) (by rw [← hql, hl, hpl])

/-- The records change where they stand, each keeping its origin and local id. -/
theorem State.ReqsLegal.mapped {s t : State} (hs : s.ReqsLegal) (f : ReqSlot → Requester → Requester)
    (h : ∀ r, t.req r = (s.req r).map (f r)) (hf : ∀ r q, s.req r = some q → (f r q).origin = q.origin ∧ (f r q).localId = q.localId)
    (hlegal : ∀ r q, s.req r = some q → (f r q).legal) : t.ReqsLegal := by
  refine ⟨fun r q' hq' => ?_, fun r q' hq' r' p' hp' ho hl => ?_⟩
  · rw [Option.mem_def, h] at hq'
    obtain ⟨q, hq, rfl⟩ := Option.map_eq_some_iff.mp hq'
    exact hlegal r q hq
  · rw [Option.mem_def, h] at hq' hp'
    obtain ⟨q, hq, rfl⟩ := Option.map_eq_some_iff.mp hq'
    obtain ⟨p, hp, rfl⟩ := Option.map_eq_some_iff.mp hp'
    rw [(hf r q hq).1, (hf r' p hp).1] at ho
    rw [(hf r q hq).2, (hf r' p hp).2] at hl
    exact hs.2 r q hq r' p hp ho hl

theorem State.ReqsLegal.modifyReq {s : State} (hs : s.ReqsLegal) (r : ReqSlot) (f : Requester → Requester)
    (hf : ∀ q, s.req r = some q → (f q).origin = q.origin ∧ (f q).localId = q.localId ∧ (f q).legal) : (s.modifyReq r f).ReqsLegal := by
  refine hs.mapped (fun r' => if r = r' then f else id) (fun r' => ?_) (fun r' q hq => ?_) (fun r' q hq => ?_)
  · rw [State.req_modifyReq]
    split
    · next h => subst h; rfl
    · rw [Option.map_id]; rfl
  · split
    · next h => subst h; exact ⟨(hf q hq).1, (hf q hq).2.1⟩
    · exact ⟨rfl, rfl⟩
  · split
    · next h => subst h; exact (hf q hq).2.2
    · exact hs.1 r' q hq

/-- A record that takes a slot under an origin and local id that no other open requester has (R93). -/
theorem State.ReqsLegal.setReq {s : State} (hs : s.ReqsLegal) {r : ReqSlot} {q : Requester} (hq : q.legal)
    (hnew : ∀ r' q', s.req r' = some q' → ¬ (q'.origin = q.origin ∧ q'.localId = q.localId)) : (s.setReq r (some q)).ReqsLegal := by
  refine ⟨fun r' p hp => ?_, fun r' p hp r'' p' hp' ho hl => ?_⟩
  · rw [Option.mem_def, State.req_setReq] at hp
    split at hp
    · cases hp
      exact hq
    · exact hs.1 r' p hp
  · rw [Option.mem_def, State.req_setReq] at hp hp'
    split at hp
    · next h =>
      cases hp
      split at hp'
      · next h' => exact h.symm.trans h'
      · exact absurd ⟨ho.symm, hl.symm⟩ (hnew r'' p' hp')
    · split at hp'
      · cases hp'
        exact absurd ⟨ho, hl⟩ (hnew r' p hp)
      · exact hs.2 r' p hp r'' p' hp' ho hl

theorem Requester.legal_renewed {q : Requester} (h : q.legal) : ({ q with tenureLeft := armed q.tenure } : Requester).legal := by
  obtain ⟨hid, hp, hb1, hb24, ht0, ht, -, -⟩ := h
  refine ⟨hid, hp, hb1, hb24, ht0, ht, ?_, fun n hn => ?_⟩
  · show armed q.tenure = none ↔ q.tenure = 0
    unfold armed
    split <;> simp_all
  · change n ∈ armed q.tenure at hn
    unfold armed at hn
    split at hn
    · cases hn
    · cases hn
      exact le_refl q.tenure

theorem Requester.legal_ticked {q : Requester} (h : q.legal) : ({ q with tenureLeft := lowered q.tenureLeft } : Requester).legal := by
  obtain ⟨hid, hp, hb1, hb24, ht0, ht, hnone, hle⟩ := h
  refine ⟨hid, hp, hb1, hb24, ht0, ht, ?_, fun n hn => ?_⟩
  · show lowered q.tenureLeft = none ↔ q.tenure = 0
    rw [lowered, Option.map_eq_none_iff]
    exact hnone
  · obtain ⟨m, hm, rfl⟩ := Option.map_eq_some_iff.mp hn
    exact (Nat.sub_le m 1).trans (hle m hm)

theorem openedRecord_legal {o : Origin} {rid : Byte} {f : OpenFields} (h : openRefused o rid f = false) : (openedRecord o rid f).legal := by
  simp only [openRefused, Bool.or_eq_false_iff, Bool.not_eq_false', decide_eq_false_iff_not, Bool.and_eq_false_iff] at h
  obtain ⟨⟨⟨⟨⟨hid, hp⟩, hb0⟩, hb⟩, ht⟩, hport⟩ := h
  refine ⟨hid, by simpa [openedRecord] using hp, by simp only [openedRecord]; omega, by simp only [openedRecord]; omega, fun h0 => ?_,
    by simp only [openedRecord]; omega, ?_, fun n hn => ?_⟩
  · cases o with
    | portA => exact .inl rfl
    | portB => exact .inr rfl
    | node n => simp only [openedRecord] at h0; simp [h0] at hport
  · show armed f.tenure = none ↔ f.tenure = 0
    unfold armed
    split <;> simp_all
  · change n ∈ armed f.tenure at hn
    unfold armed at hn
    split at hn
    · cases hn
    · cases hn
      exact le_refl f.tenure

theorem State.ReqsLegal.restartTenureOf {s : State} (hs : s.ReqsLegal) (o : Origin) (rid : Byte) : (s.restartTenureOf o rid).ReqsLegal := by
  unfold State.restartTenureOf
  split
  · exact hs.modifyReq _ _ fun q hq => ⟨rfl, rfl, Requester.legal_renewed (hs.1 _ q hq)⟩
  · exact hs

theorem ClaimFrame.placeSingle (r : ReqSlot) (e : EntrySlot) (m : Mode) (limit : Nat) (s : State) :
    ClaimFrame s (placeSingle r e m limit s).1 := by
  rw [placeSingle_fst]
  split
  · exact (ClaimFrame.place s e _).trans (.runPasses _ _ _)
  · exact .place s e _

theorem ClaimFrame.placeSet (r : ReqSlot) (members : List (EntrySlot × Mode)) (limit : Nat) (s : State) :
    ClaimFrame s.takeSetId (placeSet r members limit s).1 := by
  rw [placeSet_fst]
  exact (ClaimFrame.foldl _ (fun u p => .place u _ _) _ _).trans (.runPasses _ _ _)

theorem ClaimFrame.grantAll (r : ReqSlot) (id : Option Word16) (members : List (EntrySlot × Mode)) (s : State) :
    ClaimFrame s (members.foldl (fun u p => u.grantNow r p.1 p.2 id) s) := by
  induction members generalizing s with
  | nil => exact .refl s
  | cons p members ih => exact (ClaimFrame.grantNow s r p.1 p.2 id).trans (ih _)

theorem ClaimFrame.notify {notify : State → State} (hn : Notifying notify) (s : State) : ClaimFrame s (notify s) := by
  cases hn with
  | nothing => exact .refl s
  | notice r e body => exact .queueNotice s r e body

theorem Effected.reqsLegal {o : Origin} {rid : Byte} {s t : State} (hs : s.ReqsLegal) (h : Effected o rid s t) : t.ReqsLegal := by
  cases h with
  | unchanged => exact hs
  | opened hf hfree hr => exact hs.setReq (openedRecord_legal hf) fun r' q' hq' => State.findReq_eq_none hfree r' q' hq'
  | @reopened f r r' hf hr hr' =>
    refine (hs.sameOrFree (s.sameOrFree_evict r .reopen)).setReq (openedRecord_legal hf) fun x p hp => ?_
    rintro ⟨ho, hl⟩
    obtain hnone | hsame := s.sameOrFree_evict r .reopen x
    · rw [hnone] at hp
      cases hp
    · rw [hp, Option.map_some] at hsame
      obtain ⟨p', hp', hfix⟩ := Option.map_eq_some_iff.mp hsame.symm
      simp only [Requester.fixed, Prod.mk.injEq] at hfix
      obtain ⟨⟨hpo, hpl, -⟩, -⟩ := hfix
      obtain ⟨q, hq, hqo, hql⟩ := State.req_of_findReq hr
      obtain rfl := hs.2 x p' hp' r q hq (by rw [hpo, ho, hqo]; rfl) (by rw [hpl, hl, hql]; rfl)
      rw [State.req_evict_self] at hp
      cases hp
  | evicted r cause => exact hs.sameOrFree (s.sameOrFree_evict r cause)
  | purged o' => exact hs.sameOrFree (s.sameOrFree_evictAll _ _)
  | reclaimed hq => exact hs.sameOrFree (ClaimFrame.reclaim s _ false).sameOrFree
  | closed hq => exact hs.sameOrFree (s.sameOrFree_vacated _ false)
  | @budgeted r q b hq h1 h24 hb =>
    refine hs.modifyReq r _ fun q hq => ⟨rfl, rfl, ?_⟩
    obtain ⟨hid, hp, -, -, hrest⟩ := hs.1 r q hq
    exact ⟨hid, hp, h1, h24, hrest⟩
  | overrunCleared hq =>
    refine hs.sameOrFree fun r' => .inr ?_
    rw [State.req_setReq]
    split
    · next h => subst h; rw [hq]; rfl
    · rfl
  | noticeFetched r => exact hs.sameOrFree (State.sameOrFree_of_req fun r => by simp)
  | defined _ _ _ => exact hs.sameOrFree (State.sameOrFree_of_req fun r => rfl)
  | retired force he => exact hs.sameOrFree ((ClaimFrame.retireSteps s _ _ force).trans (.runPasses _ _ _)).sameOrFree
  | limited hold he _ _ _ => exact hs.sameOrFree (State.sameOrFree_of_req fun r => by simp)
  | limitRaised hold he _ _ _ =>
    exact hs.sameOrFree ((State.sameOrFree_of_req fun r => by simp).trans (ClaimFrame.runPasses _ _ _).sameOrFree)
  | noted he _ => exact hs.sameOrFree (State.sameOrFree_of_req fun r => by simp)
  | granted _ _ _ _ => exact hs.sameOrFree (ClaimFrame.grantNow s _ _ _ _).sameOrFree
  | placed _ _ _ _ _ => exact hs.sameOrFree (ClaimFrame.placeSingle _ _ _ _ s).sameOrFree
  | setGranted _ _ =>
    exact hs.sameOrFree ((State.sameOrFree_of_req fun _ => rfl).trans (ClaimFrame.grantAll _ _ _ _).sameOrFree)
  | setPlaced _ _ _ => exact hs.sameOrFree ((State.sameOrFree_of_req fun _ => rfl).trans (ClaimFrame.placeSet _ _ _ s).sameOrFree)
  | released _ _ _ => exact hs.sameOrFree (((ClaimFrame.dropHold s _ _ _).trans (.recompute _ _)).trans (.runPasses _ _ _)).sameOrFree
  | cancelled _ _ _ _ => exact hs.sameOrFree (((ClaimFrame.dropWait s _ _).trans (.recompute _ _)).trans (.runPasses _ _ _)).sameOrFree
  | setCancelled _ _ _ _ => exact hs.sameOrFree (ClaimFrame.endSet s _ _ _ fun s => .refl s).sameOrFree
  | upgraded _ _ _ _ => exact hs.sameOrFree ((State.sameOrFree_of_req fun r => by simp).trans (ClaimFrame.recompute _ _).sameOrFree)
  | downgraded _ _ =>
    exact hs.sameOrFree ((State.sameOrFree_of_req fun r => by simp).trans
      ((ClaimFrame.recompute _ _).trans (.runPasses _ _ _)).sameOrFree)
  | rightsSet g => exact hs
  | timebaseSet _ _ => exact hs.sameOrFree ((State.sameOrFree_of_req fun r => rfl).trans (SameStore.deriveBitTime _).sameOrFree)
  | routed _ _ => exact hs
  | eventsCleared p => exact hs.sameOrFree (SameStore.clearEvents s p).sameOrFree
  | thresholdSet _ => exact hs
  | nodeAdded _ _ => exact hs.sameOrFree ((SameStore.link s _).trans (.resumePolling _)).sameOrFree
  | nodeLeaving _ => exact hs
  | nodeDeleted _ _ _ _ => exact hs.sameOrFree (s.sameOrFree_deleteNode _)
  | configured rate enable => exact hs.sameOrFree (SameStore.configureLink s rate enable).sameOrFree

end Sys2Proof.Machine
end

section
/-! What the changes of a command leave of the link, the ports, the decoder and the settings; the settings stay in range. -/

namespace Sys2Proof.Machine

/-! ### The link, the ports, the decoder and the settings -/

/-- The decoder, the ports, the link and the settings of the pool report and of the time base are as they were. -/
structure CoreFrame (s t : State) : Prop where
  decoder : t.decoder = s.decoder
  link : t.link = s.link
  portA : t.portA = s.portA
  portB : t.portB = s.portB
  inReset : t.inReset = s.inReset
  divider : t.divider = s.divider
  poolThreshold : t.poolThreshold = s.poolThreshold
  poolState : t.poolState = s.poolState

theorem CoreFrame.refl (s : State) : CoreFrame s s := ⟨rfl, rfl, rfl, rfl, rfl, rfl, rfl, rfl⟩

theorem CoreFrame.trans {s t u : State} (h : CoreFrame s t) (g : CoreFrame t u) : CoreFrame s u :=
  ⟨g.decoder.trans h.decoder, g.link.trans h.link, g.portA.trans h.portA, g.portB.trans h.portB, g.inReset.trans h.inReset,
    g.divider.trans h.divider, g.poolThreshold.trans h.poolThreshold, g.poolState.trans h.poolState⟩

theorem EvictFrame.core {s t : State} (h : EvictFrame s t) : CoreFrame s t := by
  have hs := h.settings
  simp only [Prod.mk.injEq] at hs
  obtain ⟨-, hd, -, ht, hp, hr, -⟩ := hs
  exact ⟨h.decoder, h.link, h.portA, h.portB, hr, hd, ht, hp⟩

theorem ClaimFrame.core {s t : State} (h : ClaimFrame s t) : CoreFrame s t := h.toEvictFrame.core

theorem CoreFrame.setReq (s : State) (r : ReqSlot) (q : Option Requester) : CoreFrame s (s.setReq r q) :=
  ⟨rfl, rfl, rfl, rfl, rfl, rfl, rfl, rfl⟩

theorem CoreFrame.modifyReq (s : State) (r : ReqSlot) (f : Requester → Requester) : CoreFrame s (s.modifyReq r f) := by
  constructor <;> simp

theorem CoreFrame.setEntry (s : State) (e : EntrySlot) (en : Entry) : CoreFrame s (s.setEntry e en) :=
  ⟨rfl, rfl, rfl, rfl, rfl, rfl, rfl, rfl⟩

theorem CoreFrame.takeSetId (s : State) : CoreFrame s s.takeSetId := ⟨rfl, rfl, rfl, rfl, rfl, rfl, rfl, rfl⟩

theorem CoreFrame.vacated (s : State) (r : ReqSlot) (stale : Bool) : CoreFrame s (s.vacated r stale) :=
  ((ClaimFrame.reclaim s r stale).core.trans (EvictFrame.discardNotices _ r).core).trans (.setReq _ _ _)

theorem CoreFrame.restartTenureOf (s : State) (o : Origin) (rid : Byte) : CoreFrame s (s.restartTenureOf o rid) := by
  unfold State.restartTenureOf
  split
  · exact .modifyReq s _ _
  · exact .refl s

/-- The changes of a command, told apart by what they do to the decoder, the link and the settings. -/
inductive Governed : State → State → Prop where
  | core {s t : State} : CoreFrame s t → Governed s t
  | timebaseSet {s : State} {n : Nat} : 4000 ≤ n → n ≤ 40000 →
      Governed s ({ s with divider := n, clkCount := 0 } : State).deriveBitTime
  | thresholdSet {s : State} {n : Nat} : n ≤ 64 →
      Governed s { s with poolThreshold := n, poolState := rearmed s.freeRecords n }
  | nodeAdded {s : State} {a : Nat} : addressValid a = true → s.node a = none →
      Governed s ({ s with link := { s.link with roster := insertNode (joinedRecord a) s.link.roster } } : State).resumePolling
  | nodeLeaving {s : State} {a : Nat} : s.inExchange a = true → Governed s (s.modifyNode a fun n => { n with state := .leaving })
  | nodeDeleted {s : State} {a : Nat} {n : NodeRecord} : s.node a = some n → n.state ≠ .leaving → s.inExchange a = false →
      Governed s (s.deleteNode a)
  | configured (s : State) (rate : LinkRate) (enable : Bool) : Governed s (s.configureLink rate enable)

theorem Effected.governed {o : Origin} {rid : Byte} {s t : State} (h : Effected o rid s t) : Governed s t := by
  cases h with
  | unchanged => exact .core (.refl s)
  | opened _ _ _ => exact .core (.setReq s _ _)
  | reopened _ _ _ => exact .core ((EvictFrame.evict s _ _).core.trans (.setReq _ _ _))
  | evicted r cause => exact .core (EvictFrame.evict s r cause).core
  | purged o' => exact .core (EvictFrame.evictAll s _ _).core
  | reclaimed _ => exact .core (ClaimFrame.reclaim s _ _).core
  | closed _ => exact .core (.vacated s _ false)
  | budgeted _ _ _ _ => exact .core (.modifyReq s _ _)
  | overrunCleared _ => exact .core (.setReq s _ _)
  | noticeFetched r => exact .core ⟨rfl, rfl, rfl, rfl, rfl, rfl, rfl, rfl⟩
  | defined _ _ _ => exact .core ⟨rfl, rfl, rfl, rfl, rfl, rfl, rfl, rfl⟩
  | retired force _ => exact .core ((ClaimFrame.retireSteps s _ _ force).trans (.runPasses _ _ _)).core
  | limited _ _ _ _ _ => exact .core (.setEntry s _ _)
  | limitRaised _ _ _ _ _ => exact .core ((CoreFrame.setEntry s _ _).trans (ClaimFrame.runPasses _ _ _).core)
  | noted _ _ => exact .core (.setEntry s _ _)
  | granted _ _ _ _ => exact .core (ClaimFrame.grantNow s _ _ _ _).core
  | placed _ _ _ _ _ => exact .core (ClaimFrame.placeSingle _ _ _ _ s).core
  | setGranted _ _ => exact .core ((CoreFrame.takeSetId s).trans (ClaimFrame.grantAll _ _ _ _).core)
  | setPlaced _ _ _ => exact .core ((CoreFrame.takeSetId s).trans (ClaimFrame.placeSet _ _ _ s).core)
  | released _ _ _ => exact .core (((ClaimFrame.dropHold s _ _ _).trans (.recompute _ _)).trans (.runPasses _ _ _)).core
  | cancelled _ _ _ _ => exact .core (((ClaimFrame.dropWait s _ _).trans (.recompute _ _)).trans (.runPasses _ _ _)).core
  | setCancelled _ _ _ _ => exact .core (ClaimFrame.endSet s _ _ _ fun s => .refl s).core
  | upgraded _ _ _ _ => exact .core ((CoreFrame.setEntry s _ _).trans (ClaimFrame.recompute _ _).core)
  | downgraded _ _ => exact .core ((CoreFrame.setEntry s _ _).trans ((ClaimFrame.recompute _ _).trans (.runPasses _ _ _)).core)
  | rightsSet _ => exact .core ⟨rfl, rfl, rfl, rfl, rfl, rfl, rfl, rfl⟩
  | timebaseSet h1 h2 => exact .timebaseSet h1 h2
  | routed _ _ => exact .core ⟨rfl, rfl, rfl, rfl, rfl, rfl, rfl, rfl⟩
  | eventsCleared p => cases p <;> exact .core ⟨rfl, rfl, rfl, rfl, rfl, rfl, rfl, rfl⟩
  | thresholdSet h => exact .thresholdSet h
  | nodeAdded hv hn => exact .nodeAdded hv hn
  | nodeLeaving hx => exact .nodeLeaving hx
  | nodeDeleted _ hn hl hx => exact .nodeDeleted hn hl hx
  | configured rate enable => exact .configured s rate enable

/-! ### The settings -/

/-- The time base and the pool threshold are in range (R77, R130). -/
def State.SettingsLegal (s : State) : Prop := 4000 ≤ s.divider ∧ s.divider ≤ 40000 ∧ s.poolThreshold ≤ 64

/-- POOL_LOW is armed exactly while the free records reach the threshold (R129). -/
def State.PoolSettled (s : State) : Prop := s.poolState = rearmed s.freeRecords s.poolThreshold

theorem State.registersLegal_iff (s : State) : s.registersLegal ↔ s.ReqsLegal ∧ s.SettingsLegal ∧ s.PoolSettled :=
  ⟨fun ⟨hr, hu, h1, h2, ht, hp⟩ => ⟨⟨hr, hu⟩, ⟨h1, h2, ht⟩, hp⟩, fun ⟨⟨hr, hu⟩, ⟨h1, h2, ht⟩, hp⟩ => ⟨hr, hu, h1, h2, ht, hp⟩⟩

/-- What the changes of the link leave alone. -/
structure LinkOnly (s t : State) : Prop where
  divider : t.divider = s.divider
  poolThreshold : t.poolThreshold = s.poolThreshold
  poolState : t.poolState = s.poolState
  freeRecords : t.freeRecords = s.freeRecords
  inReset : t.inReset = s.inReset
  portA : t.portA = s.portA
  portB : t.portB = s.portB
  requesters : t.requesters = s.requesters
  notices : t.notices = s.notices
  eventsA : t.eventsA = s.eventsA
  eventsB : t.eventsB = s.eventsB
  decoder : t.decoder = s.decoder

theorem LinkOnly.link (s : State) (l : Link) : LinkOnly s { s with link := l } :=
  ⟨rfl, rfl, rfl, rfl, rfl, rfl, rfl, rfl, rfl, rfl, rfl, rfl⟩

theorem LinkOnly.refl (s : State) : LinkOnly s s := ⟨rfl, rfl, rfl, rfl, rfl, rfl, rfl, rfl, rfl, rfl, rfl, rfl⟩

theorem LinkOnly.trans {s t u : State} (h : LinkOnly s t) (g : LinkOnly t u) : LinkOnly s u :=
  ⟨g.divider.trans h.divider, g.poolThreshold.trans h.poolThreshold, g.poolState.trans h.poolState, g.freeRecords.trans h.freeRecords,
    g.inReset.trans h.inReset, g.portA.trans h.portA, g.portB.trans h.portB, g.requesters.trans h.requesters, g.notices.trans h.notices,
    g.eventsA.trans h.eventsA, g.eventsB.trans h.eventsB, g.decoder.trans h.decoder⟩

theorem LinkOnly.deriveBitTime (s : State) : LinkOnly s s.deriveBitTime := by
  unfold State.deriveBitTime
  split <;> exact .link s _

theorem LinkOnly.resumePolling (s : State) : LinkOnly s s.resumePolling := by
  unfold State.resumePolling
  split
  · exact .link s _
  · exact .refl s

theorem LinkOnly.nodeAdded (s : State) (a : Nat) :
    LinkOnly s ({ s with link := { s.link with roster := insertNode (joinedRecord a) s.link.roster } } : State).resumePolling :=
  LinkOnly.trans (t := { s with link := { s.link with roster := insertNode (joinedRecord a) s.link.roster } }) (.link s _)
    (.resumePolling _)

theorem LinkOnly.closeExchange (s : State) : LinkOnly s s.closeExchange := by
  unfold State.closeExchange
  split
  · exact .refl s
  · split
    · exact .link s _
    · exact .link s _

theorem LinkOnly.configureLink (s : State) (rate : LinkRate) (enable : Bool) : LinkOnly s (s.configureLink rate enable) := by
  have hrate : ∀ u : State, LinkOnly u (u.setRate rate) := fun u => .link u _
  have hclose : ∀ u : State, LinkOnly u u.closeIfEnding := fun u => by
    unfold State.closeIfEnding
    split
    · exact .closeExchange u
    · exact .refl u
  unfold State.configureLink
  split
  · split
    · exact .link s _
    · split
      · exact hrate s
      · exact (hrate s).trans (.link _ _)
  · dsimp only
    split
    · exact (((hrate s).trans (hclose _)).trans (.link _ _)).trans (.resumePolling _)
    · exact (hrate s).trans (hclose _)

theorem LinkOnly.startPoll (s : State) (a c : Nat) : LinkOnly s (s.startPoll a c) := by
  unfold State.startPoll
  split
  · exact .refl s
  · exact (LinkOnly.link s _).trans (.link _ _)

/-- The state without a node's record, before its requesters are evicted (R138). -/
def State.withoutNode (s : State) (a : Nat) : State :=
  { s with
    link := { s.link with
      roster := s.link.roster.filter fun n => n.address ≠ a
      responseWait := s.link.responseWait.filter fun x => x ≠ a }
    decoder := s.decoder.map (discardedFor a) }

theorem CoreFrame.deleteNode (s : State) (a : Nat) : CoreFrame (s.withoutNode a) (s.deleteNode a) :=
  (EvictFrame.evictAll (s.withoutNode a) (s.reqsOf (.node a)) .roster).core

/-- The report of the pool leaves POOL_LOW armed exactly while the free records reach the threshold (R129). -/
theorem State.poolSettled_reportPool {v : State} {before : Nat} (h : v.poolState = rearmed before v.poolThreshold) :
    (v.reportPool before).PoolSettled := by
  unfold State.reportPool State.PoolSettled
  split
  · next hsame => rw [hsame]; exact h
  · split
    · next hlow =>
      split
      · show PoolState.fired = rearmed v.freeRecords v.poolThreshold
        rw [rearmed_of_lt hlow]
      · next hf => rw [hf, rearmed_of_lt hlow]
    · next hlow =>
      show PoolState.armed = rearmed v.freeRecords v.poolThreshold
      rw [rearmed_of_le (by omega)]

theorem State.settings_reportPool (s : State) (before : Nat) :
    ((s.reportPool before).divider, (s.reportPool before).poolThreshold) = (s.divider, s.poolThreshold) := by
  rw [s.reportPool_frame before]

theorem CoreFrame.settings {s t : State} (h : CoreFrame s t) (hs : s.SettingsLegal) (hp : s.PoolSettled) :
    t.SettingsLegal ∧ t.poolState = rearmed s.freeRecords t.poolThreshold := by
  unfold State.SettingsLegal
  rw [h.divider, h.poolThreshold, h.poolState]
  exact ⟨hs, hp⟩

theorem LinkOnly.settings {s t : State} (h : LinkOnly s t) (hs : s.SettingsLegal) (hp : s.PoolSettled) :
    t.SettingsLegal ∧ t.poolState = rearmed s.freeRecords t.poolThreshold := by
  unfold State.SettingsLegal
  rw [h.divider, h.poolThreshold, h.poolState]
  exact ⟨hs, hp⟩

theorem Governed.settings {s t : State} (h : Governed s t) (hs : s.SettingsLegal) (hp : s.PoolSettled) :
    t.SettingsLegal ∧ t.poolState = rearmed s.freeRecords t.poolThreshold := by
  cases h with
  | core h => exact h.settings hs hp
  | @timebaseSet n hn hn' =>
    exact (LinkOnly.deriveBitTime { s with divider := n, clkCount := 0 }).settings ⟨hn, hn', hs.2.2⟩ hp
  | thresholdSet hn => exact ⟨⟨hs.1, hs.2.1, hn⟩, rfl⟩
  | @nodeAdded a _ _ => exact (LinkOnly.nodeAdded s a).settings hs hp
  | nodeLeaving _ => exact ⟨hs, hp⟩
  | @nodeDeleted a n _ _ _ => exact (CoreFrame.deleteNode s a).settings hs hp
  | configured rate enable => exact (LinkOnly.configureLink s rate enable).settings hs hp

/-! ### Every step -/

/-- What the requester table and the settings are read from is as it was. -/
structure SameRegisters (s t : State) : Prop where
  requesters : t.requesters = s.requesters
  divider : t.divider = s.divider
  poolThreshold : t.poolThreshold = s.poolThreshold
  poolState : t.poolState = s.poolState
  freeRecords : t.freeRecords = s.freeRecords

theorem SameRegisters.legal {s t : State} (h : SameRegisters s t) (hs : s.registersLegal) : t.registersLegal := by
  unfold State.registersLegal State.req
  rw [h.requesters, h.divider, h.poolThreshold, h.poolState, h.freeRecords]
  exact hs

theorem SameRegisters.trans {s t u : State} (h : SameRegisters s t) (g : SameRegisters t u) : SameRegisters s u :=
  ⟨g.requesters.trans h.requesters, g.divider.trans h.divider, g.poolThreshold.trans h.poolThreshold, g.poolState.trans h.poolState,
    g.freeRecords.trans h.freeRecords⟩

theorem LinkOnly.sameRegisters {s t : State} (h : LinkOnly s t) : SameRegisters s t :=
  ⟨h.requesters, h.divider, h.poolThreshold, h.poolState, h.freeRecords⟩

theorem SameRegisters.setPort (s : State) (p : PortId) (q : Port) : SameRegisters s (s.setPort p q) := by
  constructor <;> simp

theorem SameRegisters.settleAttention (s : State) : SameRegisters s s.settleAttention := ⟨rfl, rfl, rfl, rfl, rfl⟩

theorem SameRegisters.raise (s : State) (d : Detail) : SameRegisters s (s.raise d) := ⟨rfl, rfl, rfl, rfl, rfl⟩

theorem SameRegisters.modifyNode (s : State) (a : Nat) (f : NodeRecord → NodeRecord) : SameRegisters s (s.modifyNode a f) :=
  ⟨rfl, rfl, rfl, rfl, rfl⟩

theorem SameRegisters.decoder (s : State) (d : List Handed) : SameRegisters s { s with decoder := d } := ⟨rfl, rfl, rfl, rfl, rfl⟩

theorem SameRegisters.refl (s : State) : SameRegisters s s := ⟨rfl, rfl, rfl, rfl, rfl⟩

theorem SameRegisters.endFrame (s : State) (p : PortId) (bytes : List Byte) (partialByte : Bool) :
    SameRegisters s (s.endFrame p bytes partialByte) := by
  have hreceive := SameRegisters.setPort s p ((s.port p).receive bytes)
  unfold State.endFrame
  dsimp only
  split
  · exact hreceive
  · split
    · exact ((hreceive.trans (.raise _ _)).trans (.setPort _ _ _)).trans (.settleAttention _)
    · split
      · exact hreceive
      · exact (hreceive.trans (.setPort _ _ _)).trans (.decoder _ _)

theorem SameRegisters.respond (s : State) (h : Handed) (a : Answer) : SameRegisters s (s.respond h a) := by
  unfold State.respond
  split
  · exact .setPort s _ _
  · exact .setPort s _ _
  · split
    · exact .refl s
    · exact ⟨rfl, rfl, rfl, rfl, rfl⟩

theorem SameRegisters.updateHealth (s : State) (a : Nat) (outcome : ExchangeOutcome) : SameRegisters s (s.updateHealth a outcome) := by
  unfold State.updateHealth
  split
  · exact .refl s
  · next n _ =>
    have hsilence : ∀ u : State, SameRegisters u (if n.fallsSilent then u.raise (.nodeSilent a) else u) := fun u => by
      split
      · exact .raise u _
      · exact .refl u
    dsimp only
    split
    · split
      · exact .modifyNode s a _
      · exact (SameRegisters.modifyNode s a _).trans (.raise _ _)
    · exact ((SameRegisters.modifyNode s a _).trans (.raise _ _)).trans (hsilence _)
    · exact (SameRegisters.modifyNode s a _).trans (hsilence _)

theorem State.registersLegal_restartTenureOf {s : State} (h : s.registersLegal) (o : Origin) (rid : Byte) :
    (s.restartTenureOf o rid).registersLegal := by
  rw [State.registersLegal_iff] at h ⊢
  obtain ⟨hr, hs, hp⟩ := h
  obtain ⟨hs', hp'⟩ := (CoreFrame.restartTenureOf s o rid).settings hs hp
  refine ⟨hr.restartTenureOf o rid, hs', ?_⟩
  have hfree : (s.restartTenureOf o rid).freeRecords = s.freeRecords := by
    unfold State.restartTenureOf State.restartTenure
    split <;> simp
  unfold State.PoolSettled
  rw [hp', hfree]

theorem State.registersLegal_takeOutcome {s : State} (h : s.registersLegal) (a : Nat) (outcome : ExchangeOutcome) :
    (s.takeOutcome a outcome).registersLegal := by
  have hrequest : ∀ (u : State) (q : Option NodeRequest), u.registersLegal → (u.takeRequest a q).registersLegal := fun u q hu => by
    unfold State.takeRequest
    split
    · split
      · dsimp only
        split
        · exact State.registersLegal_restartTenureOf ((SameRegisters.modifyNode u a _).legal hu) _ _
        · exact (SameRegisters.modifyNode u a _).legal hu
      · exact (SameRegisters.decoder u _).legal hu
    · exact hu
  have hack : ∀ (u : State) (w : Option Word16), u.registersLegal → (u.noticeAck a w).registersLegal := fun u w hu => by
    unfold State.noticeAck
    split
    · exact hu
    · unfold State.ackNotice
      split
      · exact SameRegisters.legal (s := u) ⟨rfl, rfl, rfl, rfl, rfl⟩ hu
      · exact hu
  unfold State.takeOutcome
  split
  · exact h
  · split
    · exact h
    · refine (SameRegisters.updateHealth _ _ _).legal ?_
      split
      · exact hrequest _ _ (hack _ _ ((SameRegisters.modifyNode s a _).legal h))
      · exact h
      · exact h

/-- The end of an event after which POOL_LOW is reported. -/
theorem State.registersLegal_reportPool {s v : State} (hr : v.ReqsLegal)
    (hv : v.SettingsLegal ∧ v.poolState = rearmed s.freeRecords v.poolThreshold) : (v.reportPool s.freeRecords).registersLegal := by
  rw [State.registersLegal_iff]
  refine ⟨hr.sameOrFree (SameStore.reportPool v _).sameOrFree, ?_, State.poolSettled_reportPool hv.2⟩
  have hset := v.settings_reportPool s.freeRecords
  simp only [Prod.mk.injEq] at hset
  unfold State.SettingsLegal
  rw [hset.1, hset.2]
  exact hv.1

theorem State.registersLegal_endEvent {s v : State} (hs : s.registersLegal) (hr : s.SameOrFree v) (hc : CoreFrame s v) :
    (v.endEvent s.freeRecords).registersLegal := by
  rw [State.registersLegal_iff] at hs
  obtain ⟨hreq, hset, hp⟩ := hs
  exact (SameRegisters.settleAttention _).legal (State.registersLegal_reportPool (hreq.sameOrFree hr) (hc.settings hset hp))

theorem State.registersLegal_reset : State.reset.registersLegal := by
  have hreq : ∀ r, State.reset.req r = none := fun r => by simp [State.req, State.reset]
  exact ⟨fun r q hq => by simp [hreq] at hq, fun r q hq => by simp [hreq] at hq, by decide, by decide, by decide, rfl⟩

theorem Stepped.registersLegal {s t : State} (hs : s.registersLegal) (h : Stepped s t) : t.registersLegal := by
  cases h with
  | same => exact hs
  | @command v o rid code payload h names a _ he =>
    have hdrop : (s.dropHanded o).registersLegal := SameRegisters.legal (s := s) ⟨rfl, rfl, rfl, rfl, rfl⟩ hs
    have hfree : (if names then (s.dropHanded o).restartTenureOf o rid else s.dropHanded o).freeRecords = s.freeRecords := by
      split
      · unfold State.restartTenureOf State.restartTenure
        split <;> simp
      · rfl
    have hnamed : (if names then (s.dropHanded o).restartTenureOf o rid else s.dropHanded o).registersLegal := by
      split
      · exact State.registersLegal_restartTenureOf hdrop o rid
      · exact hdrop
    rw [State.registersLegal_iff] at hnamed
    obtain ⟨hreq, hset, hp⟩ := hnamed
    have hv := he.governed.settings hset hp
    rw [hfree] at hv
    exact ((SameRegisters.respond _ _ _).trans (.settleAttention _)).legal (State.registersLegal_reportPool (he.reqsLegal hreq) hv)
  | transferStarted _ => exact (SameRegisters.setPort s _ _).legal hs
  | frameEnded bytes b _ => exact (SameRegisters.endFrame s _ _ _).legal hs
  | readEnded n _ => exact (SameRegisters.setPort s _ _).legal hs
  | ignoredEnded n _ => exact (SameRegisters.setPort s _ _).legal hs
  | ticked _ =>
    rw [State.registersLegal_iff] at hs ⊢
    obtain ⟨hreq, hset, hp⟩ := hs
    exact ⟨hreq.mapped (fun _ q => { q with tenureLeft := lowered q.tenureLeft }) s.req_lowerAll (fun _ _ _ => ⟨rfl, rfl⟩)
      (fun r q hq => Requester.legal_ticked (hreq.1 r q hq)), hset, hp⟩
  | @waitExpired r e en c _ _ _ =>
    have h : ClaimFrame s ((((s.dropWait r e).queueNotice r e (.waitExpired none)).recompute e).runPasses .loud [e]) :=
      (((ClaimFrame.dropWait s r e).trans (.queueNotice _ _ _ _)).trans (.recompute _ _)).trans (.runPasses _ _ _)
    exact State.registersLegal_endEvent hs h.sameOrFree h.core
  | @setExpired r e en c id _ _ _ =>
    have h := ClaimFrame.endSet s r id (fun s => s.queueNotice r e (.waitExpired (some id))) fun u => .queueNotice u _ _ _
    exact State.registersLegal_endEvent hs h.sameOrFree h.core
  | @holdExpired r e en c _ _ =>
    have h : ClaimFrame s ((((s.dropHold r e true).queueNotice r e (.revoked .holdLimit)).recompute e).runPasses .loud [e]) :=
      (((ClaimFrame.dropHold s r e true).trans (.queueNotice _ _ _ _)).trans (.recompute _ _)).trans (.runPasses _ _ _)
    exact State.registersLegal_endEvent hs h.sameOrFree h.core
  | tenureExpired r => exact State.registersLegal_endEvent hs (s.sameOrFree_evict r _) (EvictFrame.evict s r _).core
  | pollingStopped _ _ => exact (LinkOnly.link s _).sameRegisters.legal hs
  | responseAwaited c p _ _ _ => exact (LinkOnly.link s _).sameRegisters.legal hs
  | pollStarted a c _ _ _ => exact (LinkOnly.startPoll s a c).sameRegisters.legal hs
  | windowOpened _ _ => exact (LinkOnly.link s _).sameRegisters.legal hs
  | byteReceived b _ _ => exact (LinkOnly.link s _).sameRegisters.legal hs
  | exchangeEnded _ _ =>
    exact ((LinkOnly.closeExchange _).sameRegisters.trans (.settleAttention _)).legal (State.registersLegal_takeOutcome hs _ _)
  | @nodeRemoved a _ =>
    rw [State.registersLegal_iff] at hs
    obtain ⟨hreq, hset, hp⟩ := hs
    have hdel := (CoreFrame.deleteNode s a).settings (s := s.withoutNode a) hset hp
    have hclose := LinkOnly.closeExchange (s.deleteNode a)
    refine (SameRegisters.settleAttention _).legal (State.registersLegal_reportPool ?_ ?_)
    · exact (hreq.sameOrFree (s.sameOrFree_deleteNode a)).sameOrFree (SameStore.closeExchange _).sameOrFree
    · unfold State.SettingsLegal
      rw [hclose.divider, hclose.poolThreshold, hclose.poolState]
      exact hdel
  | linkDisabled _ _ _ => exact ((LinkOnly.link s _).trans (.closeExchange _)).sameRegisters.legal hs
  | bitTimeChanged _ _ _ => exact ((LinkOnly.link s _).trans (.closeExchange _)).sameRegisters.legal hs
  | reset => exact SameRegisters.legal (s := State.reset) ⟨rfl, rfl, rfl, rfl, rfl⟩ State.registersLegal_reset
  | resetEnded => exact SameRegisters.legal (s := s) ⟨rfl, rfl, rfl, rfl, rfl⟩ hs

/-- Settles O55: the requester records change only in ways that keep them legal and apart, and the report at the end of an event
settles POOL_LOW. -/
theorem registersKept : Obligations.RegistersKept := by
  intro s t hs h
  obtain ⟨rest, hr⟩ := step_stepped h
  exact Stepped.registersLegal (s := { s with pending := rest }) hs hr

end Sys2Proof.Machine
end

section
/-! The notice queues stay bounded, owned and of distinct serials (R112, R113, R121). -/

namespace Sys2Proof.Machine

/-! ### How many notices there are -/

/-- Every notice stands in one of the 48 queues. -/
theorem State.length_notices (s : State) : s.notices.length = ∑ r, (s.noticeQueue r).length := by
  have hsum : ∀ l : List Notice, l.length = ∑ r : ReqSlot, (l.filter fun n => n.owner = r).length := fun l => by
    induction l with
    | nil => simp
    | cons n l ih =>
      have hcons : ∀ r : ReqSlot, ((n :: l).filter fun n => n.owner = r).length =
          (l.filter fun n => n.owner = r).length + if n.owner = r then 1 else 0 := fun r => by
        by_cases hr : n.owner = r <;> simp [hr]
      simp only [hcons, Finset.sum_add_distrib, Finset.sum_ite_eq, Finset.mem_univ, if_true, List.length_cons]
      rw [← ih]
  exact hsum s.notices

theorem State.length_notices_le {s : State} (h : ∀ r, (s.noticeQueue r).length ≤ Config.noticeCapacity) : s.notices.length ≤ 768 := by
  rw [s.length_notices]
  exact (Finset.sum_le_card_nsmul _ _ _ fun r _ => h r).trans (by decide)

/-- The serial that the counter takes when a notice is queued is carried by none (R112). -/
theorem noticeSerial_fresh {notices : List Notice} (h : notices.length < 65536) (v : Word16) :
    nextUnused (notices.map Notice.serial) v ∉ notices.map Notice.serial :=
  nextUnused_not_mem (by simpa using h) v

/-! ### The queues -/

/-- Notices leave, and those that stay have open owners. -/
theorem State.noticesLegal_of_sublist {s t : State} (hs : s.noticesLegal) (hn : t.notices.Sublist s.notices)
    (hserial : t.noticeSerial = s.noticeSerial) (hopen : ∀ n ∈ t.notices, (s.req n.owner).isSome → (t.req n.owner).isSome) :
    t.noticesLegal := by
  obtain ⟨hlen, howned, hdistinct, hfresh⟩ := hs
  have hserials := hn.map Notice.serial
  refine ⟨fun r => (hn.filter fun n => n.owner = r).length_le.trans (hlen r), fun n hn' => hopen n hn' (howned n (hn.subset hn')),
    hdistinct.sublist hserials, ?_⟩
  rw [hserial]
  exact fun h => hfresh (hserials.subset h)

theorem State.noticesLegal_of_notices {s t : State} (hs : s.noticesLegal) (hn : t.notices = s.notices)
    (hserial : t.noticeSerial = s.noticeSerial) (hopen : ∀ r, (s.req r).isSome → (t.req r).isSome) : t.noticesLegal :=
  State.noticesLegal_of_sublist hs (by rw [hn]) hserial fun n _ => hopen n.owner

theorem State.noticesLegal_queueNotice {s : State} (hs : s.noticesLegal) (r : ReqSlot) (e : EntrySlot) (body : NoticeBody) :
    (s.queueNotice r e body).noticesLegal := by
  obtain ⟨hlen, howned, hdistinct, hfresh⟩ := hs
  have hcount := State.length_notices_le hlen
  unfold State.queueNotice
  split
  · exact ⟨hlen, howned, hdistinct, hfresh⟩
  · next q hq =>
    split
    · next hroom =>
      refine ⟨fun r' => ?_, fun n hn => ?_, ?_, noticeSerial_fresh (by rw [List.length_append, List.length_singleton]; omega) _⟩
      · show ((s.notices ++ [_]).filter fun n : Notice => n.owner = r').length ≤ _
        rw [List.filter_append, List.length_append]
        by_cases hr : r = r'
        · subst hr
          simpa [State.noticeQueue] using hroom
        · simpa [hr, State.noticeQueue] using hlen r'
      · obtain hn | hn := List.mem_append.mp hn
        · exact howned n hn
        · obtain rfl := List.mem_singleton.mp hn
          show (s.req r).isSome = true
          rw [hq]
          rfl
      · rw [List.map_append, List.nodup_append]
        refine ⟨hdistinct, List.nodup_singleton _, fun a ha b hb => ?_⟩
        obtain rfl := List.mem_singleton.mp hb
        rintro rfl
        exact hfresh ha
    · refine State.noticesLegal_of_notices ⟨hlen, howned, hdistinct, hfresh⟩ rfl rfl fun r' hr' => ?_
      rw [State.req_setReq]
      split
      · rfl
      · exact hr'

theorem ClaimWork.grantAll (r : ReqSlot) (id : Option Word16) (members : List (EntrySlot × Mode)) (s : State) :
    ClaimWork s (members.foldl (fun u p => u.grantNow r p.1 p.2 id) s) := by
  induction members generalizing s with
  | nil => exact .refl s
  | cons p members ih => exact (ClaimWork.grantNow s r p.1 p.2 id).trans (ih _)

theorem ClaimWork.placeSet (r : ReqSlot) (members : List (EntrySlot × Mode)) (limit : Nat) (s : State) :
    ClaimWork s.takeSetId (placeSet r members limit s).1 := by
  rw [placeSet_fst]
  exact (ClaimWork.foldl _ (fun u p => .place u _ _) _ _).trans (.runPasses _ _ _)

theorem ClaimWork.noticesLegal {s t : State} (h : ClaimWork s t) (hs : s.noticesLegal) : t.noticesLegal := by
  induction h with
  | refl _ => exact hs
  | trans _ _ ih ih' => exact ih' (ih hs)
  | modifyEntry s e f _ => exact State.noticesLegal_of_notices hs (by simp) (by simp) fun r => by simp
  | modifyReq s r f _ =>
    refine State.noticesLegal_of_notices hs (by simp) (by simp) fun r' hr' => ?_
    rw [State.req_modifyReq]
    split
    · next h => subst h; rwa [Option.isSome_map]
    · exact hr'
  | freeRecords s n => exact hs
  | freeSlot s e => exact State.noticesLegal_of_notices hs rfl rfl fun r hr => hr
  | queueNotice s r e body => exact State.noticesLegal_queueNotice hs r e body

theorem State.noticesLegal_vacated {s : State} (hs : s.noticesLegal) (r : ReqSlot) (stale : Bool) : (s.vacated r stale).noticesLegal := by
  have hreclaim := (ClaimWork.reclaim s r stale).noticesLegal hs
  have hnotices : (s.vacated r stale).notices = (s.reclaim r stale).notices.filter fun n => n.owner ≠ r := by
    simp [State.vacated, State.discardNotices_eq]
  refine State.noticesLegal_of_sublist hreclaim (by rw [hnotices]; exact List.filter_sublist) ?_ fun n hn => ?_
  · simp [State.vacated, State.discardNotices_eq]
  · rw [hnotices] at hn
    have hne : n.owner ≠ r := by simpa using (List.mem_filter.mp hn).2
    rw [State.req_vacated, if_neg (Ne.symm hne)]
    exact id

theorem StoreChange.noticesLegal {s t : State} (hs : s.noticesLegal) (h : StoreChange s t) : t.noticesLegal := by
  induction h with
  | same hst => exact State.noticesLegal_of_notices hs hst.notices hst.noticeSerial fun r hr => by rwa [hst.req]
  | trans _ _ ih ih' => exact ih' (ih hs)
  | rewritten hq _ _ =>
    refine State.noticesLegal_of_notices hs rfl rfl fun r' hr' => ?_
    rw [State.req_setReq]
    split
    · rfl
    · exact hr'
  | opened hq _ _ =>
    refine State.noticesLegal_of_notices hs rfl rfl fun r' hr' => ?_
    rw [State.req_setReq]
    split
    · rfl
    · exact hr'
  | reclaimed s stale _ => exact (ClaimWork.reclaim s _ stale).noticesLegal hs
  | vacated s stale _ => exact State.noticesLegal_vacated hs _ stale
  | noticeDropped s r => exact State.noticesLegal_of_sublist hs List.eraseP_sublist rfl fun n _ h => h
  | defined _ _ _ => exact State.noticesLegal_of_notices hs rfl rfl fun r hr => hr
  | retired force _ => exact ((ClaimWork.retireSteps _ _ _ force).trans (.runPasses _ _ _)).noticesLegal hs
  | limited hold he _ _ _ => exact State.noticesLegal_of_notices hs rfl rfl fun r hr => hr
  | limitRaised hold he _ _ _ =>
    exact (ClaimWork.runPasses _ _ _).noticesLegal (State.noticesLegal_of_notices hs rfl rfl fun r hr => hr)
  | noted he _ => exact State.noticesLegal_of_notices hs rfl rfl fun r hr => hr
  | granted _ _ _ _ => exact (ClaimWork.grantNow _ _ _ _ _).noticesLegal hs
  | placed _ _ _ _ _ => exact (ClaimWork.placeSingle _ _ _ _ _).noticesLegal hs
  | @setGranted s r q members _ _ =>
    exact (ClaimWork.grantAll r _ members s.takeSetId).noticesLegal
      (State.noticesLegal_of_notices hs rfl rfl fun r hr => hr)
  | @setPlaced s r q members limit _ _ _ =>
    exact (ClaimWork.placeSet r members limit s).noticesLegal (s := s.takeSetId)
      (State.noticesLegal_of_notices hs rfl rfl fun r hr => hr)
  | holdEnded stale _ _ hn =>
    exact (((ClaimWork.dropHold _ _ _ _).trans (.notify hn _)).trans (.trans (.recompute _ _) (.runPasses _ _ _))).noticesLegal hs
  | waitEnded _ _ _ hn =>
    exact (((ClaimWork.dropWait _ _ _).trans (.notify hn _)).trans (.trans (.recompute _ _) (.runPasses _ _ _))).noticesLegal hs
  | setEnded _ _ _ hn => exact (ClaimWork.endSet hn _ _ _).noticesLegal hs
  | upgraded _ _ _ _ =>
    exact (ClaimWork.recompute _ _).noticesLegal (State.noticesLegal_of_notices hs rfl rfl fun r hr => hr)
  | downgraded _ _ =>
    exact ((ClaimWork.recompute _ _).trans (.runPasses _ _ _)).noticesLegal (State.noticesLegal_of_notices hs rfl rfl fun r hr => hr)
  | ticked s =>
    refine State.noticesLegal_of_notices hs rfl rfl fun r hr => ?_
    rwa [State.req_lowerAll, Option.isSome_map]
  | @reset _ t hst =>
    refine State.noticesLegal_of_notices ?_ hst.notices hst.noticeSerial fun r hr => by rwa [hst.req]
    simp [State.noticesLegal, State.noticeQueue, State.reset]

/-- Settles O15: by cases of the room in the queue. -/
theorem noticeQueuedOrDropped : Obligations.NoticeQueuedOrDropped := by
  intro s r q e body hq
  have hnotices := s.notices_queueNotice r e body
  refine ⟨fun hroom => ?_, fun hfull => ?_⟩
  · have hnew : (s.queueNotice r e body).notices = s.notices ++ [⟨r, s.noticeSerial, e, s.generation e, body⟩] := by
      rw [hnotices, if_pos ⟨by simp [hq], hroom⟩]
    have hqueued : s.queueNotice r e body = { s with
        notices := s.notices ++ [⟨r, s.noticeSerial, e, s.generation e, body⟩]
        noticeSerial :=
          nextUnused ((s.notices ++ [(⟨r, s.noticeSerial, e, s.generation e, body⟩ : Notice)]).map Notice.serial) s.noticeSerial } := by
      simp only [State.queueNotice, hq]
      exact if_pos hroom
    refine ⟨?_, fun r' hr' => ?_, fun hcount => ?_, ?_⟩
    · rw [State.noticeQueue_of_append hnew]
      simp
    · rw [State.noticeQueue_of_append hnew]
      simp [Ne.symm hr']
    · rw [hqueued]
      exact noticeSerial_fresh (by rw [List.length_append, List.length_singleton]; omega) _
    · rw [hqueued]
  · have hno : ¬ (s.noticeQueue r).length < Config.noticeCapacity := by
      simp only [Config.noticeCapacity]
      omega
    simp only [State.queueNotice, hq]
    exact if_neg hno

/-- Settles O56: a notice is queued under a serial that none carries, in a queue with room, for an open requester, and leaves with it. -/
theorem noticesKept : Obligations.NoticesKept := fun _ _ hs h =>
  step_keeps_of_storeChange (fun _ _ hs h => StoreChange.noticesLegal hs h) hs h

end Sys2Proof.Machine
end

section
/-! The ports, the decoder and the ATN lines stay in agreement (R123, R151, R152, R154). -/

namespace Sys2Proof.Machine

/-! ### One port -/

/-- The number of commands of an origin at the decoder. -/
def State.handedCount (s : State) (o : Origin) : Nat := (s.decoder.filter fun h => h.origin = o).length

/-- A port agrees with the number of its commands at the decoder and with reset (R151, R152, R154). -/
def Port.Sound (q : Port) (count : Nat) (inReset : Bool) : Prop :=
  (q.response.isSome ↔ q.phase = .holding) ∧
  count = (if q.phase = .working then 1 else 0) ∧
  (q.transfer = some .responseRead → q.phase = .holding ∧ some q.sdo = q.response.map SdoLine.sending) ∧
  (q.transfer = some .commandFrame → q.phase = .ready ∧ q.sdo = .high) ∧
  (q.transfer = some .ignored → q.sdo = .high) ∧
  (inReset = true → q.sdo = .high ∧ (q.transfer = none ∨ q.transfer = some .ignored))

theorem PortId.origin_injective : Function.Injective PortId.origin := by
  intro p q h
  cases p
  · cases q
    · rfl
    · cases h
  · cases q
    · cases h
    · rfl

def State.PortsSound (s : State) : Prop := ∀ p : PortId, (s.port p).Sound (s.handedCount p.origin) s.inReset

/-- Each ATN line stands at the level of its attention condition (R123). -/
def State.AtnSettled (s : State) : Prop := ∀ p : PortId, (s.port p).atnLow = s.attention p

theorem State.portsLegal_iff (s : State) : s.portsLegal ↔ s.PortsSound ∧ s.AtnSettled := by
  have hport : ∀ p, s.portLegal p ↔ (s.port p).Sound (s.handedCount p.origin) s.inReset ∧ (s.port p).atnLow = s.attention p := fun p =>
    ⟨fun ⟨h1, h2, h3, h4, h5, h6, h7⟩ => ⟨⟨h1, h2, h3, h4, h5, h6⟩, h7⟩, fun ⟨⟨h1, h2, h3, h4, h5, h6⟩, h7⟩ => ⟨h1, h2, h3, h4, h5, h6, h7⟩⟩
  refine ⟨fun ⟨ha, hb⟩ => ⟨fun p => ?_, fun p => ?_⟩, fun ⟨h, h'⟩ => ⟨(hport .a).mpr ⟨h .a, h' .a⟩, (hport .b).mpr ⟨h .b, h' .b⟩⟩⟩
  · cases p
    · exact ((hport .a).mp ha).1
    · exact ((hport .b).mp hb).1
  · cases p
    · exact ((hport .a).mp ha).2
    · exact ((hport .b).mp hb).2

theorem Port.Sound.startTransfer {q : Port} {count : Nat} {inReset : Bool} (h : q.Sound count inReset) (hm : q.selMayFall = true) :
    (q.startTransfer inReset).Sound count inReset := by
  obtain ⟨hresp, hcount, -, -, -, -⟩ := h
  have htransfer : q.transfer ≠ some .responseRead ∧ q.transfer ≠ some .commandFrame := by
    unfold Port.selMayFall at hm
    constructor <;> intro ht <;> simp [ht] at hm
  unfold Port.startTransfer
  split
  · exact ⟨hresp, hcount, nofun, nofun, fun _ => rfl, fun _ => ⟨rfl, .inr rfl⟩⟩
  · next hr =>
    have hoff : ∀ {P : Prop}, inReset = true → P := fun h => absurd h hr
    split
    · next hphase =>
      rw [hphase] at hresp
      obtain ⟨resp, hsome⟩ := Option.isSome_iff_exists.mp (hresp.mpr rfl)
      exact ⟨by simp [hsome, hphase], hcount, fun _ => ⟨hphase, by simp [Port.sdoOfRead, hsome]⟩, nofun, nofun, hoff⟩
    · next hphase => exact ⟨hresp, hcount, nofun, fun _ => ⟨hphase, rfl⟩, nofun, hoff⟩
    · exact ⟨hresp, hcount, nofun, nofun, fun _ => rfl, hoff⟩

theorem Port.Sound.endRead {q : Port} {count : Nat} {inReset : Bool} (h : q.Sound count inReset) (ht : q.transfer = some .responseRead)
    (clocked : Nat) : (q.endRead clocked).Sound count inReset := by
  obtain ⟨hresp, hcount, hread, -, -, hreset⟩ := h
  obtain ⟨hphase, -⟩ := hread ht
  have hoff : ∀ {P : Prop}, inReset = true → P := fun h => by
    have := (hreset h).2
    simp [ht] at this
  unfold Port.endRead
  split
  · exact ⟨hresp, hcount, nofun, nofun, nofun, hoff⟩
  · next response hr =>
    dsimp only
    split
    · exact ⟨by simp, by simpa [hphase] using hcount, nofun, nofun, nofun, hoff⟩
    · exact ⟨hresp, hcount, nofun, nofun, nofun, hoff⟩

theorem Port.Sound.endIgnored {q : Port} {count : Nat} {inReset : Bool} (h : q.Sound count inReset) (clocked : Nat) :
    (q.endIgnored inReset clocked).Sound count inReset := by
  obtain ⟨hresp, hcount, -, -, -, -⟩ := h
  exact ⟨hresp, hcount, nofun, nofun, nofun, fun hr => ⟨if_pos hr, .inl rfl⟩⟩

/-- What a command frame meets: a READY port, outside reset, none of its commands at the decoder. -/
theorem Port.Sound.receiving {q : Port} {count : Nat} {inReset : Bool} (h : q.Sound count inReset) (ht : q.transfer = some .commandFrame) :
    q.phase = .ready ∧ q.response = none ∧ count = 0 ∧ inReset = false := by
  obtain ⟨hresp, hcount, -, hframe, -, hreset⟩ := h
  obtain ⟨hphase, -⟩ := hframe ht
  refine ⟨hphase, ?_, by simpa [hphase] using hcount, ?_⟩
  · rw [hphase] at hresp
    cases hr : q.response with
    | none => rfl
    | some _ => simp [hr] at hresp
  · by_contra hr
    have := (hreset (by simpa using hr)).2
    simp [ht] at this

theorem Port.Sound.receive {q : Port} {count : Nat} {inReset : Bool} (h : q.Sound count inReset) (ht : q.transfer = some .commandFrame)
    (bytes : List Byte) : (q.receive bytes).Sound count inReset := by
  obtain ⟨-, -, -, hr⟩ := h.receiving ht
  obtain ⟨hresp, hcount, -⟩ := h
  exact ⟨hresp, hcount, nofun, nofun, nofun, fun h => by rw [hr] at h; cases h⟩

/-- A port whose command left the decoder takes its response (R154, R155). -/
theorem Port.Sound.respond {q : Port} {inReset : Bool} (h : q.Sound 1 inReset) (frame : List Byte) :
    ({ q with phase := .holding, response := some frame } : Port).Sound 0 inReset := by
  obtain ⟨-, hcount, hread, hframe, hignored, hreset⟩ := h
  have hworking : q.phase = .working := by
    by_contra hp
    simp [hp] at hcount
  refine ⟨by simp, by simp, fun ht => ?_, fun ht => ?_, hignored, hreset⟩
  · have := (hread ht).1
    simp [hworking] at this
  · have := (hframe ht).1
    simp [hworking] at this

/-- The response to a frame error, at a READY port without a transfer (R152, R153). -/
theorem Port.Sound.answerError {q : Port} {inReset : Bool} (h : q.Sound 0 inReset) (ht : q.transfer = none) (frame : List Byte) :
    ({ q with phase := .holding, response := some frame } : Port).Sound 0 inReset := by
  obtain ⟨-, -, -, -, -, hreset⟩ := h
  exact ⟨by simp, by simp, fun h => by simp [ht] at h, fun h => by simp [ht] at h, fun h => by simp [ht] at h, hreset⟩

theorem Port.Sound.handOver {q : Port} {inReset : Bool} (h : q.Sound 0 inReset) (ht : q.transfer = none) (hp : q.phase = .ready) :
    ({ q with phase := .working } : Port).Sound 1 inReset := by
  obtain ⟨hresp, -, -, -, -, hreset⟩ := h
  rw [hp] at hresp
  exact ⟨by simpa using hresp, by simp, fun h => by simp [ht] at h, fun h => by simp [ht] at h, fun h => by simp [ht] at h, hreset⟩

theorem Port.Sound.atn {q : Port} {count : Nat} {inReset : Bool} (h : q.Sound count inReset) (b : Bool) :
    ({ q with atnLow := b } : Port).Sound count inReset := h

/-! ### The state -/

/-- The ports and their commands at the decoder are as they were. -/
structure SamePorts (s t : State) : Prop where
  portA : t.portA = s.portA
  portB : t.portB = s.portB
  inReset : t.inReset = s.inReset
  handed : ∀ p : PortId, t.handedCount p.origin = s.handedCount p.origin

theorem SamePorts.port {s t : State} (h : SamePorts s t) (p : PortId) : t.port p = s.port p := by
  cases p
  · exact h.portA
  · exact h.portB

theorem SamePorts.sound {s t : State} (h : SamePorts s t) (hs : s.PortsSound) : t.PortsSound := fun p => by
  rw [h.port, h.handed, h.inReset]
  exact hs p

theorem SamePorts.refl (s : State) : SamePorts s s := ⟨rfl, rfl, rfl, fun _ => rfl⟩

theorem SamePorts.trans {s t u : State} (h : SamePorts s t) (g : SamePorts t u) : SamePorts s u :=
  ⟨g.portA.trans h.portA, g.portB.trans h.portB, g.inReset.trans h.inReset, fun p => (g.handed p).trans (h.handed p)⟩

theorem State.handedCount_congr {s t : State} (h : t.decoder = s.decoder) (o : Origin) : t.handedCount o = s.handedCount o := by
  unfold State.handedCount
  rw [h]

theorem CoreFrame.samePorts {s t : State} (h : CoreFrame s t) : SamePorts s t :=
  ⟨h.portA, h.portB, h.inReset, fun p => State.handedCount_congr h.decoder p.origin⟩

theorem LinkOnly.samePorts {s t : State} (h : LinkOnly s t) : SamePorts s t :=
  ⟨h.portA, h.portB, h.inReset, fun p => State.handedCount_congr h.decoder p.origin⟩

theorem discardedFor_origin (a : Nat) (h : Handed) : (discardedFor a h).origin = h.origin := by
  unfold discardedFor
  split <;> rfl

theorem SamePorts.withoutNode (s : State) (a : Nat) : SamePorts s (s.withoutNode a) := by
  refine ⟨rfl, rfl, rfl, fun p => ?_⟩
  have hmap : (s.decoder.map (discardedFor a)).filter (fun h => h.origin = p.origin) =
      (s.decoder.filter fun h => h.origin = p.origin).map (discardedFor a) := by
    rw [List.filter_map]
    refine congrArg _ (List.filter_congr fun h _ => ?_)
    rw [Function.comp_apply, discardedFor_origin]
  show ((s.decoder.map (discardedFor a)).filter fun h => h.origin = p.origin).length = _
  rw [hmap, List.length_map]
  rfl

theorem SamePorts.deleteNode (s : State) (a : Nat) : SamePorts s (s.deleteNode a) :=
  (SamePorts.withoutNode s a).trans (CoreFrame.deleteNode s a).samePorts

theorem Governed.samePorts {s t : State} (h : Governed s t) : SamePorts s t := by
  cases h with
  | core h => exact h.samePorts
  | @timebaseSet n _ _ =>
    exact SamePorts.trans (t := { s with divider := n, clkCount := 0 }) ⟨rfl, rfl, rfl, fun _ => rfl⟩ (LinkOnly.deriveBitTime _).samePorts
  | thresholdSet _ => exact ⟨rfl, rfl, rfl, fun _ => rfl⟩
  | @nodeAdded a _ _ => exact (LinkOnly.nodeAdded s a).samePorts
  | nodeLeaving _ => exact ⟨rfl, rfl, rfl, fun _ => rfl⟩
  | @nodeDeleted a n _ _ _ => exact .deleteNode s a
  | configured rate enable => exact (LinkOnly.configureLink s rate enable).samePorts

theorem SamePorts.reportPool (s : State) (before : Nat) : SamePorts s (s.reportPool before) := by
  rw [s.reportPool_frame before]
  exact ⟨rfl, rfl, rfl, fun _ => rfl⟩

/-- After the ATN lines are settled, ports that agree are legal. -/
theorem State.PortsSound.settle {s : State} (h : s.PortsSound) : s.settleAttention.portsLegal := by
  rw [State.portsLegal_iff]
  refine ⟨fun p => ?_, fun p => ?_⟩
  · cases p
    · exact (h .a).atn _
    · exact (h .b).atn _
  · rw [State.attention_settleAttention]
    cases p <;> rfl

/-- The ports are legal where neither they nor what attention reads changed. -/
theorem SamePorts.legal {s t : State} (h : SamePorts s t) (hatt : ∀ p, t.attention p = s.attention p) (hs : s.portsLegal) :
    t.portsLegal := by
  rw [State.portsLegal_iff] at hs ⊢
  exact ⟨h.sound hs.1, fun p => by rw [h.port, hatt]; exact hs.2 p⟩

theorem LinkOnly.portsLegal {s t : State} (h : LinkOnly s t) (hs : s.portsLegal) : t.portsLegal :=
  h.samePorts.legal (State.attention_congr h.requesters h.notices h.eventsA h.eventsB) hs

theorem State.PortsSound.setPort {s : State} (h : s.PortsSound) {p : PortId} {q : Port} (hq : q.Sound (s.handedCount p.origin) s.inReset) :
    (s.setPort p q).PortsSound := fun p' => by
  rw [State.port_setPort, State.setPort_inReset, State.handedCount_congr (State.setPort_decoder s p q)]
  split
  · next hp => subst hp; exact hq
  · exact h p'

/-- A port changes that keeps its ATN level. -/
theorem State.portsLegal_setPort {s : State} (h : s.portsLegal) {p : PortId} {q : Port}
    (hq : q.Sound (s.handedCount p.origin) s.inReset) (hatn : q.atnLow = (s.port p).atnLow) : (s.setPort p q).portsLegal := by
  rw [State.portsLegal_iff] at h ⊢
  refine ⟨h.1.setPort hq, fun p' => ?_⟩
  rw [State.port_setPort, State.attention_setPort]
  split
  · next hp => subst hp; exact hatn.trans (h.2 p)
  · exact h.2 p'

theorem Port.endRead_atnLow (q : Port) (clocked : Nat) : (q.endRead clocked).atnLow = q.atnLow := by
  unfold Port.endRead
  split
  · rfl
  · dsimp only
    split <;> rfl

/-! ### Commands and frames -/

theorem State.handedCount_dropHanded_ne (s : State) {o o' : Origin} (h : o ≠ o') : (s.dropHanded o).handedCount o' = s.handedCount o' := by
  have hfilter : ∀ l : List Handed, (l.eraseP fun x => x.origin = o).filter (fun x => x.origin = o') = l.filter fun x => x.origin = o' :=
    fun l => by
      induction l with
      | nil => rfl
      | cons x l ih =>
        rw [List.eraseP_cons]
        by_cases hx : x.origin = o
        · simp [hx, h]
        · simp only [hx, decide_false, cond_false, List.filter_cons, ih]
  exact congrArg List.length (hfilter s.decoder)

theorem State.handedCount_dropHanded_self {s : State} {o : Origin} {h : Handed} (hh : s.handedFrom o = some h) :
    s.handedCount o = (s.dropHanded o).handedCount o + 1 := by
  have hfilter : ∀ l : List Handed, (∃ x ∈ l, x.origin = o) → (l.filter fun x => x.origin = o).length =
      ((l.eraseP fun x => x.origin = o).filter fun x => x.origin = o).length + 1 := fun l => by
    induction l with
    | nil => simp
    | cons x l ih =>
      rintro ⟨y, hy, hyo⟩
      rw [List.eraseP_cons]
      by_cases hx : x.origin = o
      · simp [hx]
      · obtain rfl | hy := List.mem_cons.mp hy
        · exact absurd hyo hx
        · simpa [hx] using ih ⟨y, hy, hyo⟩
  exact hfilter s.decoder ⟨h, List.mem_of_find?_eq_some hh, by simpa using List.find?_some hh⟩

theorem State.handedFrom_of_stands {s : State} {o : Origin} {rid code : Byte} {payload : List Byte} {h : Handed}
    (hs : s.stands o rid code payload = some h) : s.handedFrom o = some h := by
  unfold State.stands at hs
  split at hs
  · cases hs
  · next x hx =>
    split at hs
    · cases hs
      exact hx
    · cases hs

/-- A command is taken and its response made: what a port is left with. -/
theorem State.portsSound_respond {s v : State} {h : Handed} (hs : s.PortsSound) (hh : s.handedFrom h.origin = some h)
    (hv : SamePorts (s.dropHanded h.origin) v) (a : Answer) : (v.respond h a).PortsSound := by
  have hother : ∀ p : PortId, h.origin ≠ p.origin → (v.port p).Sound (v.handedCount p.origin) v.inReset := fun p hp => by
    rw [hv.port, hv.handed, hv.inReset, State.handedCount_dropHanded_ne s hp]
    exact hs p
  have hown : ∀ p : PortId, h.origin = p.origin → ∀ frame,
      ({ v.port p with phase := .holding, response := some frame } : Port).Sound (v.handedCount p.origin) v.inReset := fun p hp frame => by
    have hcount := State.handedCount_dropHanded_self hh
    have hsound := hs p
    obtain ⟨-, hwork, -⟩ := hs p
    have hone : s.handedCount p.origin = 1 := by
      rw [hp] at hcount
      split at hwork <;> omega
    rw [hp, hone] at hcount
    rw [hone] at hsound
    have hzero : v.handedCount p.origin = 0 := by
      rw [hv.handed, hp]
      omega
    rw [hv.port, hv.inReset, hzero]
    exact hsound.respond frame
  have hwrite : ∀ p₀ : PortId, h.origin = p₀.origin → (v.writeResponse p₀ a).PortsSound := fun p₀ hp₀ p => by
    unfold State.writeResponse
    rw [State.port_setPort, State.setPort_inReset, State.handedCount_congr (State.setPort_decoder _ _ _)]
    split
    · next hp => subst hp; exact hown p₀ hp₀ _
    · next hp =>
      refine hother p fun ho => hp ?_
      exact PortId.origin_injective (hp₀.symm.trans ho)
  unfold State.respond
  split
  · next ho => exact hwrite .a ho
  · next ho => exact hwrite .b ho
  · next n ho =>
    have hnode : v.PortsSound := fun p => hother p fun hp => by
      rw [ho] at hp
      cases p <;> cases hp
    split
    · exact hnode
    · exact SamePorts.sound (s := v) ⟨rfl, rfl, rfl, fun _ => rfl⟩ hnode

theorem handedFrame_of_good {p : PortId} {bytes : List Byte} {partialByte : Bool} (h : frameError bytes partialByte = none) :
    ∃ x, handedFrame p bytes = some x ∧ x.origin = p.origin := by
  unfold frameError at h
  split at h
  · cases h
  · split at h
    · cases h
    · next len hlen =>
      split at h
      · cases h
      · next hbad =>
        obtain ⟨h2, h34, hl⟩ : 2 ≤ len.toNat ∧ len.toNat ≤ 34 ∧ bytes.length = len.toNat + 2 := by omega
        match bytes, hl with
        | _ :: rid :: code :: rest, _ => exact ⟨_, rfl, rfl⟩
        | [_, _], hl => exact absurd hl (by simp only [List.length_cons, List.length_nil]; omega)
        | [_], hl => exact absurd hl (by simp only [List.length_cons, List.length_nil]; omega)
        | [], hl => exact absurd hl (by simp only [List.length_nil]; omega)

theorem State.portsLegal_endFrame {s : State} (hs : s.portsLegal) {p : PortId} (ht : (s.port p).transfer = some .commandFrame)
    (bytes : List Byte) (partialByte : Bool) : (s.endFrame p bytes partialByte).portsLegal := by
  have hsound := ((State.portsLegal_iff s).mp hs).1
  obtain ⟨hphase, -, hcount, hr⟩ := (hsound p).receiving ht
  have hreceive := State.portsLegal_setPort hs ((hsound p).receive ht bytes) rfl
  have hport : ((s.setPort p ((s.port p).receive bytes)).port p) = (s.port p).receive bytes := by simp
  have hgood : ((s.port p).receive bytes).Sound 0 s.inReset := hcount ▸ (hsound p).receive ht bytes
  unfold State.endFrame
  dsimp only
  generalize hu : s.setPort p ((s.port p).receive bytes) = u at hreceive hport ⊢
  have hucount : u.handedCount p.origin = 0 := by
    rw [← hu, State.handedCount_congr (State.setPort_decoder _ _ _), hcount]
  have hureset : u.inReset = s.inReset := by rw [← hu]; simp
  split
  · exact hreceive
  · split
    · next k result _ =>
      refine State.PortsSound.settle ?_
      have hraised : (u.raise (frameErrorDetail p k)).PortsSound :=
        SamePorts.sound (s := u) ⟨rfl, rfl, rfl, fun _ => rfl⟩ ((State.portsLegal_iff u).mp hreceive).1
      have hraisedPort : (u.raise (frameErrorDetail p k)).port p = (s.port p).receive bytes := by
        rw [← hport]
        cases p <;> rfl
      refine hraised.setPort ?_
      rw [hraisedPort]
      show Port.Sound _ (u.handedCount p.origin) u.inReset
      rw [hucount, hureset]
      exact hgood.answerError rfl _
    · next hgoodFrame =>
      obtain ⟨x, hx, hxo⟩ := handedFrame_of_good (p := p) hgoodFrame
      rw [hx]
      rw [State.portsLegal_iff] at hreceive ⊢
      have hcountOf : ∀ o, ({ u.setPort p { u.port p with phase := .working } with decoder := u.decoder ++ [x] } : State).handedCount o =
          u.handedCount o + if x.origin = o then 1 else 0 := fun o => by
        show ((u.decoder ++ [x]).filter fun h => h.origin = o).length = _
        rw [List.filter_append, List.length_append]
        by_cases ho : x.origin = o <;> simp [ho, State.handedCount]
      refine ⟨fun p' => ?_, fun p' => ?_⟩
      · have hportOf : ({ u.setPort p { u.port p with phase := .working } with decoder := u.decoder ++ [x] } : State).port p' =
            if p = p' then { u.port p with phase := .working } else u.port p' := by
          rw [← State.port_setPort]
          cases p' <;> rfl
        have hresetOf : ({ u.setPort p { u.port p with phase := .working } with decoder := u.decoder ++ [x] } : State).inReset = u.inReset :=
          State.setPort_inReset _ _ _
        rw [hcountOf, hportOf, hresetOf]
        split
        · next hp =>
          subst hp
          rw [if_pos hxo, hucount, hport, hureset]
          exact hgood.handOver rfl hphase
        · next hp =>
          rw [if_neg fun ho => hp ?_]
          · exact hreceive.1 p'
          · exact PortId.origin_injective (hxo.symm.trans ho)
      · have hatt : ({ u.setPort p { u.port p with phase := .working } with decoder := u.decoder ++ [x] } : State).attention p' =
            u.attention p' := State.attention_congr (State.setPort_requesters _ _ _) (State.setPort_notices _ _ _)
          (State.setPort_eventsA _ _ _) (State.setPort_eventsB _ _ _) p'
        have hportOf : ({ u.setPort p { u.port p with phase := .working } with decoder := u.decoder ++ [x] } : State).port p' =
            if p = p' then { u.port p with phase := .working } else u.port p' := by
          rw [← State.port_setPort]
          cases p' <;> rfl
        rw [hatt, hportOf, ← hreceive.2 p']
        split
        · next hp => subst hp; rfl
        · rfl

/-! ### Other rows -/

theorem SamePorts.appended (s : State) (x : Handed) (n : Nat) (hx : x.origin = .node n) :
    SamePorts s { s with decoder := s.decoder ++ [x] } := by
  refine ⟨rfl, rfl, rfl, fun p => ?_⟩
  show ((s.decoder ++ [x]).filter fun h => h.origin = p.origin).length = _
  have hne : ¬ x.origin = p.origin := by
    rw [hx]
    cases p <;> simp [PortId.origin]
  rw [List.filter_append]
  simp [hne, State.handedCount]

theorem SamePorts.restartTenureOf (s : State) (o : Origin) (rid : Byte) : SamePorts s (s.restartTenureOf o rid) :=
  (CoreFrame.restartTenureOf s o rid).samePorts

theorem SamePorts.raise (s : State) (d : Detail) : SamePorts s (s.raise d) := ⟨rfl, rfl, rfl, fun _ => rfl⟩

theorem SamePorts.modifyNode (s : State) (a : Nat) (f : NodeRecord → NodeRecord) : SamePorts s (s.modifyNode a f) :=
  ⟨rfl, rfl, rfl, fun _ => rfl⟩

theorem SamePorts.updateHealth (s : State) (a : Nat) (outcome : ExchangeOutcome) : SamePorts s (s.updateHealth a outcome) := by
  unfold State.updateHealth
  split
  · exact .refl s
  · next n _ =>
    have hsilence : ∀ u : State, SamePorts u (if n.fallsSilent then u.raise (.nodeSilent a) else u) := fun u => by
      split
      · exact .raise u _
      · exact .refl u
    dsimp only
    split
    · split
      · exact .modifyNode s a _
      · exact (SamePorts.modifyNode s a _).trans (.raise _ _)
    · exact ((SamePorts.modifyNode s a _).trans (.raise _ _)).trans (hsilence _)
    · exact (SamePorts.modifyNode s a _).trans (hsilence _)

theorem SamePorts.takeOutcome (s : State) (a : Nat) (outcome : ExchangeOutcome) : SamePorts s (s.takeOutcome a outcome) := by
  have hrequest : ∀ (u : State) (q : Option NodeRequest), SamePorts u (u.takeRequest a q) := fun u q => by
    unfold State.takeRequest
    split
    · split
      · dsimp only
        split
        · exact (SamePorts.modifyNode u a _).trans (.restartTenureOf _ _ _)
        · exact .modifyNode u a _
      · exact .appended u _ a rfl
    · exact .refl u
  have hack : ∀ (u : State) (w : Option Word16), SamePorts u (u.noticeAck a w) := fun u w => by
    unfold State.noticeAck
    split
    · exact .refl u
    · unfold State.ackNotice
      split
      · exact ⟨rfl, rfl, rfl, fun _ => rfl⟩
      · exact .refl u
  unfold State.takeOutcome
  split
  · exact .refl s
  · split
    · exact .refl s
    · dsimp only
      split
      · exact (((SamePorts.modifyNode s a _).trans (hack _ _)).trans (hrequest _ _)).trans (.updateHealth _ _ _)
      · exact .updateHealth s _ _
      · exact .updateHealth s _ _

theorem State.attention_lowerAll (s : State) (p : PortId) : s.lowerAll.attention p = s.attention p := by
  have hreqs : s.lowerAll.reqsOf p.origin = s.reqsOf p.origin := by
    unfold State.reqsOf
    refine List.filter_congr fun r _ => ?_
    rw [State.req_lowerAll]
    cases s.req r <;> rfl
  have hset : s.lowerAll.attentionSet p = s.attentionSet p := by
    unfold State.attentionSet
    rw [hreqs]
    refine List.filter_congr fun r _ => ?_
    rw [State.req_lowerAll]
    cases s.req r <;> rfl
  unfold State.attention
  rw [hset]
  cases p <;> rfl

theorem State.attention_reset (p : PortId) : State.reset.attention p = false := by
  have hreq : ∀ r, State.reset.req r = none := fun r => by simp [State.req, State.reset]
  have hset : State.reset.attentionSet p = [] := by
    unfold State.attentionSet State.reqsOf
    simp [hreq]
  unfold State.attention
  rw [hset]
  cases p <;> simp [State.events, State.reset]

theorem Stepped.portsLegal {s t : State} (hs : s.portsLegal) (h : Stepped s t) : t.portsLegal := by
  have hsound := ((State.portsLegal_iff s).mp hs).1
  have hend : ∀ {v : State} (before : Nat), SamePorts s v → (v.endEvent before).portsLegal := fun before hv =>
    ((SamePorts.reportPool _ before).sound (hv.sound hsound)).settle
  cases h with
  | same => exact hs
  | @command v o rid code payload h names a hstands he =>
    obtain ⟨rfl, -⟩ := State.stands_fields hstands
    have hh := State.handedFrom_of_stands hstands
    have hnamed : SamePorts (s.dropHanded h.origin)
        (if names then (s.dropHanded h.origin).restartTenureOf h.origin rid else s.dropHanded h.origin) := by
      split
      · exact .restartTenureOf _ _ _
      · exact .refl _
    exact (State.portsSound_respond hsound hh ((hnamed.trans he.governed.samePorts).trans (.reportPool _ _)) a).settle
  | transferStarted hm => exact State.portsLegal_setPort hs ((hsound _).startTransfer hm) (Port.startTransfer_atnLow _ _)
  | frameEnded bytes b ht => exact State.portsLegal_endFrame hs ht bytes b
  | readEnded n ht => exact State.portsLegal_setPort hs ((hsound _).endRead ht n) (Port.endRead_atnLow _ _)
  | ignoredEnded n _ => exact State.portsLegal_setPort hs ((hsound _).endIgnored n) rfl
  | ticked _ => exact SamePorts.legal (s := s) ⟨rfl, rfl, rfl, fun _ => rfl⟩ s.attention_lowerAll hs
  | @waitExpired r e en c _ _ _ =>
    exact hend _ ((((ClaimFrame.dropWait s r e).trans (.queueNotice _ _ _ _)).trans (.recompute _ _)).trans (.runPasses _ _ _)).core.samePorts
  | @setExpired r e en c id _ _ _ =>
    exact hend _ (ClaimFrame.endSet s r id (fun s => s.queueNotice r e (.waitExpired (some id))) fun u => .queueNotice u _ _ _).core.samePorts
  | @holdExpired r e en c _ _ =>
    exact hend _ ((((ClaimFrame.dropHold s r e true).trans (.queueNotice _ _ _ _)).trans (.recompute _ _)).trans
      (.runPasses _ _ _)).core.samePorts
  | tenureExpired r => exact hend _ (EvictFrame.evict s r _).core.samePorts
  | pollingStopped _ _ => exact (LinkOnly.link s _).portsLegal hs
  | responseAwaited c p _ _ _ => exact (LinkOnly.link s _).portsLegal hs
  | pollStarted a c _ _ _ => exact (LinkOnly.startPoll s a c).portsLegal hs
  | windowOpened _ _ => exact (LinkOnly.link s _).portsLegal hs
  | byteReceived b _ _ => exact (LinkOnly.link s _).portsLegal hs
  | exchangeEnded _ _ =>
    exact (((SamePorts.takeOutcome s _ _).trans (LinkOnly.closeExchange _).samePorts).sound hsound).settle
  | @nodeRemoved a _ => exact hend _ ((SamePorts.deleteNode s a).trans (LinkOnly.closeExchange _).samePorts)
  | linkDisabled _ _ _ => exact ((LinkOnly.link s _).trans (.closeExchange _)).portsLegal hs
  | bitTimeChanged _ _ _ => exact ((LinkOnly.link s _).trans (.closeExchange _)).portsLegal hs
  | reset =>
    have hport : ∀ q : Port, (q.resetKeepingSel).Sound 0 true := fun q => by
      refine ⟨by simp [Port.resetKeepingSel, Port.reset], by simp [Port.resetKeepingSel, Port.reset], fun ht => ?_, fun ht => ?_,
        fun _ => rfl, fun _ => ⟨rfl, ?_⟩⟩
      · simp [Port.resetKeepingSel] at ht
      · simp [Port.resetKeepingSel] at ht
      · cases h : q.transfer <;> simp [Port.resetKeepingSel, h]
    rw [State.portsLegal_iff]
    refine ⟨fun p => ?_, fun p => ?_⟩
    · cases p
      · exact hport s.portA
      · exact hport s.portB
    · have hatt : State.attention { State.reset with
          portA := s.portA.resetKeepingSel, portB := s.portB.resetKeepingSel, pending := s.pending } p = State.reset.attention p :=
        State.attention_congr rfl rfl rfl rfl p
      rw [hatt, State.attention_reset]
      cases p <;> rfl
  | resetEnded =>
    rw [State.portsLegal_iff] at hs ⊢
    refine ⟨fun p => ?_, hs.2⟩
    obtain ⟨h1, h2, h3, h4, h5, -⟩ := hs.1 p
    exact ⟨h1, h2, h3, h4, h5, nofun⟩

/-- Settles O57: each row leaves a port in agreement with the decoder, and the ATN lines settled or nothing that they read changed. -/
theorem portsKept : Obligations.PortsKept := by
  intro s t hs h
  obtain ⟨rest, hr⟩ := step_stepped h
  exact Stepped.portsLegal (s := { s with pending := rest }) hs hr

end Sys2Proof.Machine
end

section
/-! The roster, the exchange and the wait for responses: what each change of the link keeps (R131 to R142). -/

namespace Sys2Proof.Machine

/-! ### Looking up a node -/

theorem find?_address_of_mem {l : List NodeRecord} (h : l.Pairwise fun m n => m.address < n.address) {n : NodeRecord} (hn : n ∈ l) :
    (l.find? fun m => m.address = n.address) = some n := by
  induction l with
  | nil => cases hn
  | cons m l ih =>
    obtain ⟨hm, hl⟩ := List.pairwise_cons.mp h
    obtain rfl | hn := List.mem_cons.mp hn
    · simp
    · have hne : m.address ≠ n.address := (hm n hn).ne
      rw [List.find?_cons_of_neg (by simpa using hne)]
      exact ih hl hn

theorem State.node_some {s : State} {a : Nat} {n : NodeRecord} (h : s.node a = some n) : n ∈ s.link.roster ∧ n.address = a :=
  ⟨List.mem_of_find?_eq_some h, by simpa using List.find?_some h⟩

theorem State.node_isSome {s : State} {a : Nat} : (s.node a).isSome ↔ ∃ n ∈ s.link.roster, n.address = a := by
  unfold State.node
  rw [List.find?_isSome]
  simp

theorem State.node_modifyNode (s : State) (a : Nat) {f : NodeRecord → NodeRecord} (hf : ∀ n, (f n).address = n.address) (b : Nat) :
    (s.modifyNode a f).node b = (s.node b).map fun n => if n.address = a then f n else n := by
  unfold State.node State.modifyNode
  dsimp only
  rw [List.find?_map]
  refine congrArg _ (congrArg (fun p => List.find? p s.link.roster) (funext fun n => ?_))
  rw [Function.comp_apply]
  split
  · rw [hf]
  · rfl

/-! ### The invariant -/

/-- The roster, the exchange and the line agree, `extra` naming a node whose response is being made: what holds also while claims
deferred to the end of an exchange are being taken (R131 to R142). -/
structure State.LinkKept (extra : Option Nat) (s : State) : Prop where
  sorted : s.link.roster.Pairwise fun m n => m.address < n.address
  records : ∀ n ∈ s.link.roster, n.legal
  leaving : ∀ n ∈ s.link.roster, n.state = .leaving → s.link.exchange.map Exchange.node = some n.address
  disabled : s.link.enabled = false → ∀ n ∈ s.link.roster, n.state = .joining
  sequences : ∀ h ∈ s.decoder, h.sequence ≤ 15
  live : ∀ x ∈ s.link.exchange, x.phase ≠ .ending → (s.node x.node).isSome ∧ s.link.enabled = true
  idle : s.link.exchange = none → s.link.pendingDisable = false ∧ s.link.bitTimePending = false ∧ s.link.lde = false
  polling : ∀ x ∈ s.link.exchange, s.link.lde = decide (x.phase = .polling)
  line : s.link.lde = false ↔ s.link.ltx = .idleHigh
  rate : s.link.pendingRate.isSome → s.link.bitTimePending = true
  disabling : s.link.pendingDisable = true → s.link.enabled = true
  bitTime : s.link.bitTimePending = false → s.link.bitTime = bitTimeOf s.divider s.link.rate
  waiting : s.link.responseWait ≠ [] → s.link.exchange = none ∧ s.link.pollWait = false ∧ s.link.enabled = true
  awaited : ∀ a ∈ s.link.responseWait, (s.node a).isSome ∧ (s.awaitsResponse a = true ∨ extra = some a)

/-- An exchange at its end has claims deferred to it (assumption 6). -/
def State.EndKept (s : State) : Prop := ∀ x ∈ s.link.exchange, x.phase = .ending → s.endDeferred = true

theorem State.linkLegal_iff (s : State) : s.rosterLegal ∧ s.linkLegal ↔ s.LinkKept none ∧ s.EndKept := by
  constructor
  · rintro ⟨⟨hsorted, hrecords, hleaving, hdisabled, hseq⟩, hend, hidle, hpolling, hline, hrate, hdisabling, hbit, hwait, hawait⟩
    refine ⟨⟨hsorted, hrecords, hleaving, fun h => (hdisabled h).1, hseq, fun x hx hp => ⟨?_, ?_⟩, hidle, hpolling, hline, hrate,
      hdisabling, hbit, hwait, fun a ha => ⟨(hawait a ha).1, .inl (hawait a ha).2⟩⟩, fun x hx hp => ?_⟩
    · simpa [hp] using hend x hx
    · by_contra hen
      exact hp ((hdisabled (by simpa using hen)).2 x hx)
    · simpa [hp] using hend x hx
  · rintro ⟨h, hend⟩
    refine ⟨⟨h.sorted, h.records, h.leaving, fun hen => ⟨h.disabled hen, fun x hx => ?_⟩, h.sequences⟩, fun x hx => ?_, h.idle,
      h.polling, h.line, h.rate, h.disabling, h.bitTime, h.waiting, fun a ha => ⟨(h.awaited a ha).1, ?_⟩⟩
    · by_contra hp
      rw [(h.live x hx hp).2] at hen
      cases hen
    · split
      · next hp => exact hend x hx hp
      · next hp => exact (h.live x hx hp).1
    · exact (h.awaited a ha).2.resolve_right nofun

theorem State.node_congr {s t : State} (h : t.link.roster = s.link.roster) (a : Nat) : t.node a = s.node a := by
  unfold State.node
  rw [h]

theorem State.awaitsResponse_congr {s t : State} (h : t.decoder = s.decoder) (a : Nat) : t.awaitsResponse a = s.awaitsResponse a := by
  unfold State.awaitsResponse
  rw [h]

theorem State.endDeferred_congr {s t : State} (h : t.link = s.link) : t.endDeferred = s.endDeferred := by
  have hnode := fun a => State.node_congr (s := s) (t := t) (by rw [h]) a
  unfold State.endDeferred
  rw [h]
  simp only [hnode]

/-- The invariant reads the link, the decoder and the divider value alone. -/
theorem State.LinkKept.congr {s t : State} {extra : Option Nat} (h : s.LinkKept extra) (hl : t.link = s.link)
    (hd : t.decoder = s.decoder) (hdiv : t.divider = s.divider) : t.LinkKept extra := by
  have hnode := fun a => State.node_congr (s := s) (t := t) (by rw [hl]) a
  have hawait := fun a => State.awaitsResponse_congr hd a
  obtain ⟨h1, h2, h3, h4, h5, h6, h7, h8, h9, h10, h11, h12, h13, h14⟩ := h
  constructor <;> simp only [hl, hd, hdiv, hnode, hawait] <;> assumption

theorem State.EndKept.congr {s t : State} (h : s.EndKept) (hl : t.link = s.link) : t.EndKept := by
  unfold State.EndKept
  rw [State.endDeferred_congr hl, hl]
  exact h

theorem State.endDeferred_iff {s : State} : s.endDeferred = true ↔ s.link.pendingDisable = true ∨ s.link.bitTimePending = true ∨
    ∃ x ∈ s.link.exchange, ∃ n ∈ s.node x.node, n.state = .leaving := by
  unfold State.endDeferred
  rw [Bool.or_eq_true, Bool.or_eq_true, or_assoc]
  refine or_congr_right (or_congr_right ?_)
  cases s.link.exchange with
  | none => simp
  | some x => cases hn : s.node x.node <;> simp [hn]

/-! ### The end of an exchange -/

theorem State.LinkKept.closeExchange {s : State} {extra : Option Nat} (h : s.LinkKept extra)
    (hp : ∀ x ∈ s.link.exchange, x.phase ≠ .polling) : s.closeExchange.LinkKept extra ∧ s.closeExchange.EndKept := by
  unfold State.closeExchange
  split
  · next hx => exact ⟨h, fun x hx' => by rw [hx] at hx'; cases hx'⟩
  · next x hx =>
    have hlde : s.link.lde = false := by
      rw [h.polling x hx]
      simpa using hp x hx
    have hwait : s.link.responseWait = [] := by
      by_contra hne
      have := (h.waiting hne).1
      rw [hx] at this
      cases this
    split
    · next hend =>
      refine ⟨{ h with
        leaving := fun n hn hl => ?_
        live := fun y hy hne => ?_
        idle := nofun
        polling := fun y hy => ?_
        waiting := fun hne => absurd hwait hne }, fun _ _ _ => ?_⟩
      · have := h.leaving n hn hl
        rw [hx] at this
        exact this
      · cases hy
        exact absurd rfl hne
      · cases hy
        exact hlde
      · rw [State.endDeferred_iff] at hend ⊢
        refine hend.imp_right (Or.imp_right ?_)
        rintro ⟨y, hy, n, hn, hl⟩
        rw [hx] at hy
        cases hy
        exact ⟨_, rfl, n, hn, hl⟩
    · next hend =>
      have hno := fun hor => hend (State.endDeferred_iff.mpr hor)
      refine ⟨{ h with
        leaving := fun n hn hl => ?_
        live := nofun
        idle := fun _ => ⟨by simpa using fun hd => hno (.inl hd), by simpa using fun hb => hno (.inr (.inl hb)), hlde⟩
        polling := nofun
        waiting := fun hne => absurd hwait hne }, nofun⟩
      have hnode := h.leaving n hn hl
      rw [hx] at hnode
      have hxn : x.node = n.address := by simpa using hnode
      refine absurd (.inr (.inr ⟨x, hx, n, ?_, hl⟩)) hno
      rw [hxn]
      exact find?_address_of_mem h.sorted hn

/-! ### Changes of node records -/

theorem State.LinkKept.modifyNode {s : State} {extra : Option Nat} (h : s.LinkKept extra) (a : Nat) {f : NodeRecord → NodeRecord}
    (hf : ∀ n, (f n).address = n.address) (hlegal : ∀ n ∈ s.link.roster, n.address = a → (f n).legal)
    (hleaving : ∀ n ∈ s.link.roster, n.address = a → (f n).state = .leaving → s.link.exchange.map Exchange.node = some a)
    (hjoining : s.link.enabled = false → ∀ n ∈ s.link.roster, n.address = a → (f n).state = .joining) :
    (s.modifyNode a f).LinkKept extra := by
  have hfrom : ∀ n' ∈ (s.modifyNode a f).link.roster, ∃ n ∈ s.link.roster, n'.address = n.address ∧
      (n.address = a ∧ n' = f n ∨ n' = n) := fun n' hn' => by
    obtain ⟨n, hn, rfl⟩ := List.mem_map.mp hn'
    refine ⟨n, hn, ?_⟩
    split
    · next ha => exact ⟨hf n, .inl ⟨ha, rfl⟩⟩
    · exact ⟨rfl, .inr rfl⟩
  have hnode : ∀ b, ((s.modifyNode a f).node b).isSome = (s.node b).isSome := fun b => by
    rw [State.node_modifyNode s a hf, Option.isSome_map]
  refine { h with
    sorted := ?_
    records := fun n' hn' => ?_
    leaving := fun n' hn' hl => ?_
    disabled := fun hen n' hn' => ?_
    live := fun x hx hp => by rw [hnode]; exact h.live x hx hp
    awaited := fun b hb => by rw [hnode]; exact h.awaited b hb }
  · refine List.Pairwise.map _ (fun m n hmn => ?_) h.sorted
    have haddr : ∀ n : NodeRecord, (if n.address = a then f n else n).address = n.address := fun n => by
      split
      · exact hf n
      · rfl
    rw [haddr, haddr]
    exact hmn
  · obtain ⟨n, hn, -, ⟨ha, rfl⟩ | rfl⟩ := hfrom n' hn'
    · exact hlegal n hn ha
    · exact h.records _ hn
  · obtain ⟨n, hn, haddr, ⟨ha, rfl⟩ | rfl⟩ := hfrom n' hn'
    · rw [haddr, ha]
      exact hleaving n hn ha hl
    · exact h.leaving _ hn hl
  · obtain ⟨n, hn, -, ⟨ha, rfl⟩ | rfl⟩ := hfrom n' hn'
    · exact hjoining hen n hn ha
    · exact h.disabled hen _ hn

/-- A change of a record that keeps its state. -/
theorem State.LinkKept.modifyNode_same {s : State} {extra : Option Nat} (h : s.LinkKept extra) (a : Nat)
    {f : NodeRecord → NodeRecord} (hf : ∀ n, (f n).address = n.address) (hst : ∀ n, (f n).state = n.state)
    (hlegal : ∀ n ∈ s.link.roster, n.address = a → (f n).legal) : (s.modifyNode a f).LinkKept extra :=
  h.modifyNode a hf hlegal (fun n hn ha hl => ha ▸ h.leaving n hn (hst n ▸ hl)) fun hen n hn _ => (hst n).trans (h.disabled hen n hn)

theorem State.EndKept.modifyNode {s : State} (h : s.EndKept) (a : Nat) {f : NodeRecord → NodeRecord}
    (hf : ∀ n, (f n).address = n.address) (hst : ∀ n, (f n).state = n.state) : (s.modifyNode a f).EndKept := fun x hx hp => by
  have hend := h x hx hp
  rw [State.endDeferred_iff] at hend ⊢
  refine hend.imp_right (Or.imp_right ?_)
  rintro ⟨y, hy, n, hn, hl⟩
  refine ⟨y, hy, if n.address = a then f n else n, ?_, ?_⟩
  · rw [Option.mem_def, State.node_modifyNode s a hf, hn]
    rfl
  split
  · exact (hst n).trans hl
  · exact hl

/-! ### A node is added, deleted, or leaves -/

theorem mem_insertNode {n m : NodeRecord} {l : List NodeRecord} : m ∈ insertNode n l ↔ m = n ∨ m ∈ l := by
  induction l with
  | nil => simp [insertNode]
  | cons k l ih =>
    unfold insertNode
    split
    · rw [List.mem_cons, ih, List.mem_cons]
      tauto
    · rw [List.mem_cons]

theorem insertNode_sorted {n : NodeRecord} {l : List NodeRecord} (h : l.Pairwise fun m n => m.address < n.address)
    (hn : ∀ m ∈ l, m.address ≠ n.address) : (insertNode n l).Pairwise fun m n => m.address < n.address := by
  induction l with
  | nil => exact List.pairwise_singleton _ _
  | cons k l ih =>
    obtain ⟨hk, hl⟩ := List.pairwise_cons.mp h
    have hne := hn k List.mem_cons_self
    unfold insertNode
    split
    · next hlt =>
      refine List.pairwise_cons.mpr ⟨fun m hm => ?_, ih hl fun m hm => hn m (List.mem_cons_of_mem _ hm)⟩
      obtain rfl | hm := mem_insertNode.mp hm
      · exact hlt
      · exact hk m hm
    · next hge =>
      refine List.pairwise_cons.mpr ⟨fun m hm => ?_, h⟩
      obtain rfl | hm := List.mem_cons.mp hm
      · omega
      · have := hk m hm
        omega

/-- A new cycle starts where NLC waits for polling to become possible. -/
theorem State.LinkKept.resumePolling {s : State} {extra : Option Nat} (h : s.LinkKept extra) : s.resumePolling.LinkKept extra := by
  unfold State.resumePolling
  split
  · exact { h with waiting := fun hne => ⟨(h.waiting hne).1, rfl, (h.waiting hne).2.2⟩ }
  · exact h

theorem State.EndKept.resumePolling {s : State} (h : s.EndKept) : s.resumePolling.EndKept := by
  unfold State.resumePolling
  split
  · exact h
  · exact h

theorem State.LinkKept.nodeAdded {s : State} {extra : Option Nat} (h : s.LinkKept extra) {a : Nat} (hv : addressValid a = true)
    (hn : s.node a = none) :
    ({ s with link := { s.link with roster := insertNode (joinedRecord a) s.link.roster } } : State).LinkKept extra := by
  have hnew : ∀ m ∈ s.link.roster, m.address ≠ a := fun m hm ha => by
    have := State.node_isSome.mpr ⟨m, hm, ha⟩
    rw [hn] at this
    cases this
  have hnode : ∀ b, (s.node b).isSome →
      (State.node { s with link := { s.link with roster := insertNode (joinedRecord a) s.link.roster } } b).isSome := fun b hb => by
    obtain ⟨m, hm, hmb⟩ := State.node_isSome.mp hb
    exact State.node_isSome.mpr ⟨m, mem_insertNode.mpr (.inr hm), hmb⟩
  refine { h with
    sorted := insertNode_sorted h.sorted hnew
    records := fun n hn' => ?_
    leaving := fun n hn' hl => ?_
    disabled := fun hen n hn' => ?_
    live := fun x hx hp => ⟨hnode _ (h.live x hx hp).1, (h.live x hx hp).2⟩
    awaited := fun b hb => ⟨hnode _ (h.awaited b hb).1, (h.awaited b hb).2⟩ }
  · obtain rfl | hn' := mem_insertNode.mp hn'
    · simp only [addressValid, Bool.and_eq_true, decide_eq_true_eq] at hv
      exact ⟨hv.1, hv.2, by simp [joinedRecord], by simp [joinedRecord], rfl, nofun⟩
    · exact h.records n hn'
  · obtain rfl | hn' := mem_insertNode.mp hn'
    · cases hl
    · exact h.leaving n hn' hl
  · obtain rfl | hn' := mem_insertNode.mp hn'
    · rfl
    · exact h.disabled hen n hn'

theorem State.EndKept.nodeAdded {s : State} {extra : Option Nat} (hk : s.LinkKept extra) (h : s.EndKept) {a : Nat} (hn : s.node a = none) :
    State.EndKept { s with link := { s.link with roster := insertNode (joinedRecord a) s.link.roster } } := fun x hx hp => by
  have hend := h x hx hp
  rw [State.endDeferred_iff] at hend ⊢
  refine hend.imp_right (Or.imp_right ?_)
  rintro ⟨y, hy, n, hn', hl⟩
  obtain ⟨hmem, haddr⟩ := State.node_some hn'
  refine ⟨y, hy, n, ?_, hl⟩
  rw [← haddr]
  refine find?_address_of_mem (insertNode_sorted hk.sorted fun m hm ha => ?_) (mem_insertNode.mpr (.inr hmem))
  have := State.node_isSome.mpr ⟨m, hm, ha⟩
  rw [show (joinedRecord a).address = a from rfl, hn] at this
  cases this

theorem State.awaitsResponse_withoutNode (s : State) {a b : Nat} (h : b ≠ a) : (s.withoutNode a).awaitsResponse b = s.awaitsResponse b := by
  unfold State.awaitsResponse
  show (s.decoder.map (discardedFor a)).any _ = _
  rw [List.any_map]
  refine congrArg (fun p => s.decoder.any p) (funext fun x => ?_)
  rw [Function.comp_apply, discardedFor_origin]
  unfold discardedFor
  split
  · next hx =>
    have : ¬ x.origin = .node b := fun hb => h (by rw [hx] at hb; cases hb; rfl)
    simp [this]
  · rfl

theorem State.node_withoutNode (s : State) {a b : Nat} (h : b ≠ a) : (s.withoutNode a).node b = s.node b := by
  unfold State.node
  show ((s.link.roster.filter fun n => n.address ≠ a).find? fun n => n.address = b) = _
  rw [List.find?_filter]
  refine congrArg (fun p => s.link.roster.find? p) (funext fun n => ?_)
  by_cases hn : n.address = b
  · simp [hn, h]
  · simp [hn]

/-- The record of a node that is not polled, or whose exchange is at its end, is deleted. -/
theorem State.LinkKept.withoutNode {s : State} {extra : Option Nat} (h : s.LinkKept extra) {a : Nat} (hx : s.inExchange a = false) :
    (s.withoutNode a).LinkKept extra := by
  refine { h with
    sorted := h.sorted.filter _
    records := fun n hn => h.records n (List.mem_filter.mp hn).1
    leaving := fun n hn => h.leaving n (List.mem_filter.mp hn).1
    disabled := fun hen n hn => h.disabled hen n (List.mem_filter.mp hn).1
    sequences := fun x hx' => ?_
    live := fun x hx' hp => ?_
    waiting := fun hne => h.waiting fun hnil => hne ?_
    awaited := fun b hb => ?_ }
  · obtain ⟨y, hy, rfl⟩ := List.mem_map.mp hx'
    have : (discardedFor a y).sequence = y.sequence := by
      unfold discardedFor
      split <;> rfl
    rw [this]
    exact h.sequences y hy
  · have hne : x.node ≠ a := fun ha => by
      unfold State.inExchange at hx
      rw [show s.link.exchange = some x from hx'] at hx
      simp [ha, hp] at hx
    rw [State.node_withoutNode s hne]
    exact h.live x hx' hp
  · show s.link.responseWait.filter _ = []
    rw [hnil]
    rfl
  · obtain ⟨hb, hne⟩ := List.mem_filter.mp hb
    have hne : b ≠ a := by simpa using hne
    rw [State.node_withoutNode s hne, State.awaitsResponse_withoutNode s hne]
    exact h.awaited b hb

theorem State.EndKept.withoutNode {s : State} (h : s.EndKept) {a : Nat} {n : NodeRecord} (hn : s.node a = some n)
    (hl : n.state ≠ .leaving) : (s.withoutNode a).EndKept := fun x hx hp => by
  have hend := h x hx hp
  rw [State.endDeferred_iff] at hend ⊢
  refine hend.imp_right (Or.imp_right ?_)
  rintro ⟨y, hy, m, hm, hml⟩
  refine ⟨y, hy, m, ?_, hml⟩
  have hne : y.node ≠ a := fun ha => by
    rw [ha, hn] at hm
    cases hm
    exact hl hml
  rwa [State.node_withoutNode s hne]

/-! ### LINK_CONFIG and the time base -/

theorem State.LinkKept.deferred {s : State} {extra : Option Nat} (h : s.LinkKept extra) {x : Exchange} (hx : s.link.exchange = some x)
    (hen : s.link.enabled = true) (rate : LinkRate) (disable : Bool) : (s.deferLink rate disable).LinkKept extra :=
  { h with
    idle := fun hnone => by rw [show s.link.exchange = none from hnone] at hx; cases hx
    rate := fun _ => rfl
    disabling := fun _ => hen
    bitTime := nofun }

theorem State.LinkKept.setRate {s : State} {extra : Option Nat} (h : s.LinkKept extra) (rate : LinkRate) :
    (s.setRate rate).LinkKept extra :=
  { h with
    idle := fun hnone => ⟨(h.idle hnone).1, rfl, (h.idle hnone).2.2⟩
    rate := nofun
    bitTime := fun _ => rfl }

theorem disabledRecord_legal {n : NodeRecord} (h : n.legal) : (disabledRecord n).legal := by
  obtain ⟨h1, h2, -, h4, h5⟩ := h
  exact ⟨h1, h2, Nat.zero_le _, h4, h5⟩

/-- A disable takes effect between exchanges or at the end of one. -/
theorem State.LinkKept.disableLink {s : State} {extra : Option Nat} (h : s.LinkKept extra)
    (hp : ∀ x ∈ s.link.exchange, x.phase = .ending) : s.disableLink.LinkKept extra := by
  have hfrom : ∀ n' ∈ s.disableLink.link.roster, ∃ n ∈ s.link.roster, n' = disabledRecord n := fun n' hn' => by
    obtain ⟨n, hn, rfl⟩ := List.mem_map.mp hn'
    exact ⟨n, hn, rfl⟩
  refine { h with
    sorted := ?_
    records := fun n' hn' => ?_
    leaving := fun n' hn' hl => ?_
    disabled := fun _ n' hn' => ?_
    live := fun x hx hne => absurd (hp x hx) hne
    idle := fun hnone => ⟨rfl, (h.idle hnone).2⟩
    disabling := nofun
    waiting := fun hne => absurd rfl hne
    awaited := nofun }
  · exact List.Pairwise.map _ (fun _ _ hmn => hmn) h.sorted
  · obtain ⟨n, hn, rfl⟩ := hfrom n' hn'
    exact disabledRecord_legal (h.records n hn)
  · obtain ⟨n, hn, rfl⟩ := hfrom n' hn'
    cases hl
  · obtain ⟨n, hn, rfl⟩ := hfrom n' hn'
    rfl

theorem State.LinkKept.configureLink {s : State} {extra : Option Nat} (h : s.LinkKept extra) (rate : LinkRate)
    (enable : Bool) : (s.configureLink rate enable).LinkKept extra ∧ (s.configureLink rate enable).EndKept := by
  have hrate := h.setRate rate
  unfold State.configureLink
  split
  · next hen =>
    split
    · next x hx =>
      exact ⟨h.deferred hx hen rate _, fun y hy hp => State.endDeferred_iff.mpr (.inr (.inl rfl))⟩
    · next hx =>
      have hnone : ∀ u : State, u.link.exchange = none → u.EndKept := fun u hu x hx' => by
        rw [hu] at hx'
        cases hx'
      split
      · exact ⟨hrate, hnone _ hx⟩
      · refine ⟨hrate.disableLink fun y hy => ?_, hnone _ hx⟩
        rw [show (s.setRate rate).link.exchange = none from hx] at hy
        cases hy
  · next hen =>
    have hdis : s.link.enabled = false := by simpa using hen
    have hphase : ∀ x ∈ s.link.exchange, x.phase = .ending := fun x hx => by
      by_contra hp
      exact hen (h.live x hx hp).2
    have hclose : (s.setRate rate).closeIfEnding.LinkKept extra ∧ (s.setRate rate).closeIfEnding.EndKept := by
      unfold State.closeIfEnding
      split
      · exact hrate.closeExchange fun x hx hp => by rw [hphase x hx] at hp; cases hp
      · next hne =>
        refine ⟨hrate, fun x hx hp => absurd ?_ hne⟩
        unfold State.ending
        rw [show (s.setRate rate).link.exchange = some x from hx]
        simpa using hp
    have henabled : (s.setRate rate).closeIfEnding.link.enabled = false := by
      unfold State.closeIfEnding State.closeExchange
      split
      · split
        · exact hdis
        · split
          · exact hdis
          · exact hdis
      · exact hdis
    dsimp only
    split
    · obtain ⟨hk, he⟩ := hclose
      refine ⟨State.LinkKept.resumePolling { hk with
        disabled := nofun
        live := fun x hx hp => ⟨(hk.live x hx hp).1, rfl⟩
        disabling := fun _ => rfl
        waiting := fun hne => ?_ }, State.EndKept.resumePolling he⟩
      have := (hk.waiting hne).2.2
      rw [henabled] at this
      cases this
    · exact hclose

theorem State.LinkKept.deriveBitTime {s : State} {extra : Option Nat} (h : s.LinkKept extra) (n : Nat) :
    ({ s with divider := n, clkCount := 0 } : State).deriveBitTime.LinkKept extra ∧
      ({ s with divider := n, clkCount := 0 } : State).deriveBitTime.EndKept := by
  unfold State.deriveBitTime
  split
  · next hx =>
    exact ⟨{ h with bitTime := fun _ => rfl }, fun x hx' => by rw [show s.link.exchange = none from hx] at hx'; cases hx'⟩
  · next x hx =>
    refine ⟨{ h with
      idle := fun hnone => by rw [show s.link.exchange = some x from hx] at hnone; cases hnone
      rate := fun _ => rfl
      bitTime := nofun }, fun y hy hp => State.endDeferred_iff.mpr (.inr (.inl rfl))⟩

/-! ### Commands -/

theorem Governed.linkKept {s t : State} {extra : Option Nat} (h : Governed s t) (hs : s.LinkKept extra) (hend : s.EndKept) :
    t.LinkKept extra ∧ t.EndKept := by
  cases h with
  | core h => exact ⟨hs.congr h.link h.decoder h.divider, hend.congr h.link⟩
  | timebaseSet _ _ => exact hs.deriveBitTime _
  | thresholdSet _ => exact ⟨hs.congr rfl rfl rfl, hend.congr rfl⟩
  | nodeAdded hv hn => exact ⟨(hs.nodeAdded hv hn).resumePolling, (hend.nodeAdded hs hn).resumePolling⟩
  | @nodeLeaving a hx =>
    have hexchange : ∃ x, s.link.exchange = some x ∧ x.node = a ∧ x.phase ≠ .ending := by
      unfold State.inExchange at hx
      split at hx
      · next x hx' => exact ⟨x, hx', by simpa using hx⟩
      · cases hx
    obtain ⟨x, hx', rfl, hp⟩ := hexchange
    refine ⟨hs.modifyNode x.node (fun _ => rfl) (fun n hn _ => hs.records n hn) (fun _ _ _ _ => by rw [hx']; rfl) fun hen => ?_,
      fun y hy hpy => ?_⟩
    · rw [(hs.live x hx' hp).2] at hen
      cases hen
    · obtain rfl : x = y := Option.some.inj (hx'.symm.trans hy)
      exact absurd hpy hp
  | @nodeDeleted a n hn hl hx =>
    have hcore := CoreFrame.deleteNode s a
    exact ⟨(hs.withoutNode hx).congr hcore.link hcore.decoder hcore.divider, (hend.withoutNode hn hl).congr hcore.link⟩
  | configured rate enable => exact hs.configureLink rate enable

end Sys2Proof.Machine
end

section
/-! Every step keeps the roster, the exchange and the wait for responses legal (R131 to R149). -/

namespace Sys2Proof.Machine

/-! ### Replies -/

/-- Where a reply's request is read from (R165). -/
theorem request_of_parseReply {reply : List Byte} {r : Reply} {q : NodeRequest} (h : parseReply reply = some r)
    (hq : r.request = some q) :
    ∃ control, reply[2]? = some control ∧ control.getLsbD 2 = true ∧ requestAt reply (3 + ackBytes control) = some q := by
  match reply, h with
  | _ :: source :: control :: rest, h =>
    refine ⟨control, rfl, ?_⟩
    cases h
    simp only at hq
    split at hq
    · next hbit => exact ⟨hbit, hq⟩
    · cases hq

theorem sequence_of_requestAt {reply : List Byte} {start : Nat} {q : NodeRequest} (h : requestAt reply start = some q) :
    ∃ b : Byte, reply[start]? = some b ∧ q.sequence = b.toNat := by
  unfold requestAt at h
  split at h
  · next sequence localId code length tail hdrop =>
    cases h
    refine ⟨sequence, ?_, rfl⟩
    have := congrArg (fun l => l[0]?) hdrop
    simpa using this
  · cases h

/-- The sequence of a request in a good reply is at most 15 (R165). -/
theorem sequence_of_good {node : Nat} {reply : List Byte} {r : Reply} {q : NodeRequest} (h : classify node reply = .good r)
    (hq : r.request = some q) : q.sequence ≤ 15 := by
  have hparts : blocksAgree reply = true ∧ parseReply reply = some r := by
    unfold classify at h
    split at h
    · cases h
    · split at h
      · cases h
      · split at h
        · cases h
        · next hblocks =>
          split at h
          · cases h
          · split at h
            · cases h
            · next r' hr' =>
              split at h
              · cases h
              · cases h
                exact ⟨by simpa using hblocks, hr'⟩
  obtain ⟨hblocks, hparse⟩ := hparts
  obtain ⟨control, hcontrol, hbit, hat⟩ := request_of_parseReply hparse hq
  obtain ⟨b, hb, hseq⟩ := sequence_of_requestAt hat
  unfold blocksAgree at hblocks
  rw [hcontrol] at hblocks
  simp only [hbit, hb, Bool.not_true, Bool.false_or, Option.map_some, Option.getD_some, Bool.and_eq_true, decide_eq_true_eq] at hblocks
  rw [hseq]
  exact hblocks.2.1

/-! ### The decoder -/

theorem mem_eraseP_of_ne_found {l : List Handed} {p : Handed → Bool} {h x : Handed} (hh : l.find? p = some h) (hx : x ∈ l) (hne : x ≠ h) :
    x ∈ l.eraseP p := by
  induction l with
  | nil => cases hx
  | cons y l ih =>
    rw [List.eraseP_cons]
    by_cases hy : p y = true
    · rw [List.find?_cons_of_pos hy] at hh
      cases hh
      rw [hy, cond_true]
      exact (List.mem_cons.mp hx).resolve_left hne
    · rw [List.find?_cons_of_neg hy] at hh
      rw [Bool.eq_false_iff.mpr hy, cond_false]
      obtain rfl | hx := List.mem_cons.mp hx
      · exact List.mem_cons_self
      · exact List.mem_cons_of_mem _ (ih hh hx)

/-- The node whose request is being answered (R146), none for a port or a deleted node. -/
def answering (h : Handed) : Option Nat :=
  match h.origin with
  | .portA => none
  | .portB => none
  | .node n => if h.discard then none else some n

theorem State.LinkKept.dropHanded {s : State} (h : s.LinkKept none) {x : Handed} (hx : s.handedFrom x.origin = some x) :
    (s.dropHanded x.origin).LinkKept (answering x) := by
  refine { h with
    sequences := fun y hy => h.sequences y (List.mem_of_mem_eraseP hy)
    awaited := fun a ha => ⟨(h.awaited a ha).1, ?_⟩ }
  have hawait := (h.awaited a ha).2.resolve_right nofun
  unfold State.awaitsResponse at hawait
  obtain ⟨y, hy, hya⟩ := List.any_eq_true.mp hawait
  simp only [Bool.and_eq_true, decide_eq_true_eq, Bool.not_eq_true'] at hya
  by_cases hyx : y = x
  · subst hyx
    exact .inr (by simp [answering, hya.1, hya.2])
  · refine .inl (List.any_eq_true.mpr ⟨y, mem_eraseP_of_ne_found hx hy hyx, ?_⟩)
    simp [hya.1, hya.2]

theorem State.LinkKept.appended {s : State} {extra : Option Nat} (h : s.LinkKept extra) {x : Handed} (hx : x.sequence ≤ 15) :
    State.LinkKept extra { s with decoder := s.decoder ++ [x] } := by
  refine { h with
    sequences := fun y hy => ?_
    awaited := fun a ha => ⟨(h.awaited a ha).1, (h.awaited a ha).2.imp_left fun hw => ?_⟩ }
  · obtain hy | hy := List.mem_append.mp hy
    · exact h.sequences y hy
    · obtain rfl := List.mem_singleton.mp hy
      exact hx
  · unfold State.awaitsResponse at hw ⊢
    rw [List.any_append, hw, Bool.true_or]

/-! ### Responses -/

theorem State.LinkKept.none_of {s : State} {extra : Option Nat} (h : s.LinkKept extra) (he : ∀ a ∈ s.link.responseWait, extra ≠ some a) :
    s.LinkKept none :=
  { h with awaited := fun a ha => ⟨(h.awaited a ha).1, .inl ((h.awaited a ha).2.resolve_right (he a ha))⟩ }

theorem storedRecord_legal {n : NodeRecord} (h : n.legal) {sequence : Nat} (hq : sequence ≤ 15) (a : Answer) :
    ({ n with lastSequence := some sequence, stored := some ⟨sequence, a.result, a.payload⟩, acknowledged := false } : NodeRecord).legal := by
  obtain ⟨h1, h2, h3, h4, -, -⟩ := h
  exact ⟨h1, h2, h3, h4, rfl, fun q hq' => by cases hq'; exact hq⟩

/-- The response is stored and ends the wait for it, or goes to a port or nowhere (R142, R146, R149). -/
theorem State.LinkKept.respond {v : State} {x : Handed} (h : v.LinkKept (answering x)) (hend : v.EndKept) (hq : x.sequence ≤ 15)
    (a : Answer) : (v.respond x a).LinkKept none ∧ (v.respond x a).EndKept := by
  unfold State.respond
  split
  · next ho =>
    have hk : v.LinkKept none := by simpa only [answering, ho] using h
    exact ⟨hk.congr (State.setPort_link _ _ _) (State.setPort_decoder _ _ _) (State.setPort_divider _ _ _),
      hend.congr (State.setPort_link _ _ _)⟩
  · next ho =>
    have hk : v.LinkKept none := by simpa only [answering, ho] using h
    exact ⟨hk.congr (State.setPort_link _ _ _) (State.setPort_decoder _ _ _) (State.setPort_divider _ _ _),
      hend.congr (State.setPort_link _ _ _)⟩
  · next n ho =>
    split
    · next hd =>
      have hk : v.LinkKept none := by simpa only [answering, ho, hd, if_true] using h
      exact ⟨hk, hend⟩
    · next hd =>
      have hstored := h.modifyNode_same n (f := fun n =>
        { n with lastSequence := some x.sequence, stored := some ⟨x.sequence, a.result, a.payload⟩, acknowledged := false })
        (fun _ => rfl) (fun _ => rfl) fun m hm _ => storedRecord_legal (h.records m hm) hq a
      have hstoredEnd := hend.modifyNode n (f := fun n =>
        { n with lastSequence := some x.sequence, stored := some ⟨x.sequence, a.result, a.payload⟩, acknowledged := false })
        (fun _ => rfl) fun _ => rfl
      have hx : answering x = some n := by simp [answering, ho, hd]
      rw [hx] at hstored
      unfold State.storeResponse Link.responseWritten
      dsimp only
      refine ⟨?_, hstoredEnd⟩
      split
      · exact { hstored with waiting := fun hne => absurd rfl hne, awaited := nofun }
      · next hn => exact hstored.none_of fun b hb hnb => hn (by cases hnb; exact hb)

/-! ### The outcome of an exchange -/

theorem State.LinkKept.restartTenureOf {s : State} {extra : Option Nat} (h : s.LinkKept extra) (o : Origin) (rid : Byte) :
    (s.restartTenureOf o rid).LinkKept extra :=
  have hcore := CoreFrame.restartTenureOf s o rid
  h.congr hcore.link hcore.decoder hcore.divider

theorem failed_legal {n : NodeRecord} (h : n.legal) : n.failed.legal := by
  obtain ⟨h1, h2, h3, h4, h5⟩ := h
  have hm : missedUp n.missed ≤ 4 := by
    unfold missedUp
    split <;> omega
  unfold NodeRecord.failed
  dsimp only
  split
  · exact ⟨h1, h2, hm, h4, h5⟩
  · exact ⟨h1, h2, hm, h4, h5⟩

theorem failed_address (n : NodeRecord) : n.failed.address = n.address := by
  unfold NodeRecord.failed
  dsimp only
  split <;> rfl

theorem failed_leaving {n : NodeRecord} (h : n.failed.state = .leaving) : n.state = .leaving := by
  unfold NodeRecord.failed at h
  dsimp only at h
  split at h
  · cases h
  · exact h

theorem errorUp_le (n : Nat) : errorUp n ≤ 255 := by
  unfold errorUp
  split <;> omega

/-- The link during the taking of an outcome: enabled, with the exchange as it was. -/
def State.Taking (x : Option Exchange) (s : State) : Prop := s.LinkKept none ∧ s.link.enabled = true ∧ s.link.exchange = x

theorem State.Taking.modifyNode {s : State} {x : Option Exchange} (h : s.Taking x) (a : Nat) {f : NodeRecord → NodeRecord}
    (hf : ∀ n, (f n).address = n.address) (hlegal : ∀ n : NodeRecord, n.legal → (f n).legal)
    (hleaving : ∀ n : NodeRecord, (f n).state = .leaving → n.state = .leaving) : (s.modifyNode a f).Taking x := by
  obtain ⟨hk, hen, hx⟩ := h
  refine ⟨hk.modifyNode a hf (fun n hn _ => hlegal n (hk.records n hn)) (fun n hn ha hl => ?_) (fun hdis => ?_), hen, hx⟩
  · rw [← ha]
    exact hk.leaving n hn (hleaving n hl)
  · rw [hen] at hdis
    cases hdis

theorem State.Taking.congr {s t : State} {x : Option Exchange} (h : s.Taking x) (hl : t.link = s.link) (hd : t.decoder = s.decoder)
    (hdiv : t.divider = s.divider) : t.Taking x :=
  ⟨h.1.congr hl hd hdiv, by rw [hl]; exact h.2.1, by rw [hl]; exact h.2.2⟩

theorem State.Taking.updateHealth {s : State} {x : Option Exchange} (h : s.Taking x) (a : Nat) (outcome : ExchangeOutcome) :
    (s.updateHealth a outcome).Taking x := by
  have hraise : ∀ {u : State} (d : Detail), u.Taking x → (u.raise d).Taking x := fun d hu => hu.congr rfl rfl rfl
  unfold State.updateHealth
  split
  · exact h
  · next n _ =>
    have hsilence : ∀ {u : State}, u.Taking x → (if n.fallsSilent then u.raise (.nodeSilent a) else u).Taking x := fun hu => by
      split
      · exact hraise _ hu
      · exact hu
    dsimp only
    split
    · have hactive := h.modifyNode a (f := fun n => { n with state := .active, missed := 0 }) (fun _ => rfl)
        (fun _ ⟨h1, h2, _, h4, h5⟩ => ⟨h1, h2, Nat.zero_le _, h4, h5⟩) nofun
      split
      · exact hactive
      · exact hraise _ hactive
    · refine hsilence (hraise _ (h.modifyNode a (fun n => failed_address n) (fun n hn => ?_) fun n hl => failed_leaving hl))
      obtain ⟨h1, h2, h3, -, h5⟩ := failed_legal hn
      exact ⟨h1, h2, h3, errorUp_le _, h5⟩
    · exact hsilence (h.modifyNode a failed_address (fun n hn => failed_legal hn) fun n hl => failed_leaving hl)

theorem NodeRecord.respAck_eq (n : NodeRecord) (ack : Option Nat) : n.respAck ack = n ∨ n.respAck ack = { n with acknowledged := true } := by
  unfold NodeRecord.respAck
  split
  · split
    · exact .inr rfl
    · exact .inl rfl
  · exact .inl rfl

theorem State.Taking.takeReply {s : State} {x : Option Exchange} (h : s.Taking x) (a : Nat) {r : Reply}
    (hr : ∀ q, r.request = some q → q.sequence ≤ 15) : (s.takeReply a r).Taking x := by
  have hacked : (s.modifyNode a fun n => n.respAck r.respAck).Taking x := by
    refine h.modifyNode a (fun n => ?_) (fun n hn => ?_) (fun n hl => ?_)
    · obtain heq | heq := n.respAck_eq r.respAck <;> rw [heq]
    · obtain heq | heq := n.respAck_eq r.respAck <;> rw [heq] <;> exact hn
    · obtain heq | heq := n.respAck_eq r.respAck <;> rw [heq] at hl <;> exact hl
  have hnotice : ∀ {u : State}, u.Taking x → (u.noticeAck a r.noticeAck).Taking x := fun {u} hu => by
    unfold State.noticeAck
    split
    · exact hu
    · unfold State.ackNotice
      split
      · exact hu.congr rfl rfl rfl
      · exact hu
  have hrequest : ∀ {u : State}, u.Taking x → (u.takeRequest a r.request).Taking x := fun {u} hu => by
    unfold State.takeRequest
    split
    · next q n hq _ =>
      split
      · have hclear := hu.modifyNode a (f := fun n => { n with acknowledged := false }) (fun _ => rfl) (fun _ hn => hn) fun _ hl => hl
        dsimp only
        split
        · have hcore := CoreFrame.restartTenureOf (u.modifyNode a fun n => { n with acknowledged := false }) (.node a) q.localId
          exact hclear.congr hcore.link hcore.decoder hcore.divider
        · exact hclear
      · exact ⟨hu.1.appended (hr q hq), hu.2.1, hu.2.2⟩
    · exact hu
  exact hrequest (hnotice hacked)

theorem State.Taking.takeOutcome {s : State} {x : Option Exchange} (h : s.Taking x) (a node : Nat) (reply : List Byte) :
    (s.takeOutcome a (classify node reply)).Taking x := by
  unfold State.takeOutcome
  split
  · exact h
  · split
    · exact h
    · dsimp only
      split
      · next r hr =>
        exact (h.takeReply a fun q hq => sequence_of_good hr hq).updateHealth a _
      · exact h.updateHealth a _
      · exact h.updateHealth a _

/-! ### The other rows -/

theorem State.LinkKept.startPoll {s : State} (h : s.LinkKept none) (hx : s.link.exchange = none) (hw : s.link.responseWait = [])
    (hen : s.link.enabled = true) (a c : Nat) : (s.startPoll a c).LinkKept none := by
  unfold State.startPoll
  split
  · exact h
  · next n hn =>
    have hnoleaving : ∀ m ∈ s.link.roster, m.state ≠ .leaving := fun m hm hl => by
      have := h.leaving m hm hl
      rw [hx] at this
      cases this
    have hflight := h.modifyNode_same a (f := fun n => { n with noticeInFlight := (s.offeredNotice a).map Notice.serial })
      (fun _ => rfl) (fun _ => rfl) fun m hm _ => h.records m hm
    dsimp only
    refine { hflight with
      leaving := fun m hm hl => ?_
      live := fun y hy _ => ?_
      idle := nofun
      polling := fun y hy => by cases hy; rfl
      line := ⟨nofun, nofun⟩
      waiting := fun hne => absurd hw hne }
    · obtain ⟨m', hm', rfl⟩ := List.mem_map.mp hm
      refine absurd ?_ (hnoleaving m' hm')
      split at hl
      · exact hl
      · exact hl
    · cases hy
      refine ⟨?_, hen⟩
      show ((s.modifyNode a _).node a).isSome = true
      rw [State.node_modifyNode s a (f := fun n => { n with noticeInFlight := (s.offeredNotice a).map Notice.serial }) (fun _ => rfl), hn]
      rfl

theorem State.LinkKept.waitForResponse {s : State} (h : s.LinkKept none) (hx : s.link.exchange = none) (hp : s.link.pollWait = false)
    (hen : s.link.enabled = true) (count : Nat) (position : Option Nat) : (s.waitForResponse count position).LinkKept none := by
  refine { h with
    waiting := fun _ => ⟨hx, hp, hen⟩
    awaited := fun a ha => ?_ }
  obtain ⟨n, hn, rfl⟩ := List.mem_map.mp ha
  obtain ⟨hn, hw⟩ := List.mem_filter.mp hn
  refine ⟨State.node_isSome.mpr ⟨n, ?_, rfl⟩, .inl hw⟩
  unfold nodesAbove at hn
  split at hn
  · exact hn
  · exact (List.mem_filter.mp hn).1

theorem State.LinkKept.setPhase {s : State} (h : s.LinkKept none) {x : Exchange} (hx : s.link.exchange = some x) (hp : x.phase ≠ .ending)
    {reply : List Byte} (hlde : s.link.lde = false) : (s.setPhase x (.window reply)).LinkKept none := by
  refine { h with
    leaving := fun n hn hl => ?_
    live := fun y hy _ => ?_
    idle := nofun
    polling := fun y hy => by cases hy; exact hlde
    waiting := fun hne => ?_ }
  · have := h.leaving n hn hl
    rw [hx] at this
    exact this
  · cases hy
    exact h.live x hx hp
  · have := (h.waiting hne).1
    rw [hx] at this
    cases this

theorem State.endKept_of_phase {s : State} (h : ∀ x ∈ s.link.exchange, x.phase ≠ .ending) : s.EndKept := fun x hx hp => absurd hp (h x hx)

theorem State.leavingAtEnd_eq_some {s : State} {a : Nat} (h : s.leavingAtEnd = some a) :
    ∃ x, s.link.exchange = some x ∧ x.phase = .ending ∧ x.node = a := by
  unfold State.leavingAtEnd at h
  split at h
  · cases h
  · next x hx =>
    split at h
    · next hp =>
      split at h
      · split at h
        · cases h
          exact ⟨x, hx, hp, rfl⟩
        · cases h
      · cases h
    · cases h

theorem State.ending_phase {s : State} (h : s.ending = true) : ∀ x ∈ s.link.exchange, x.phase = .ending := fun x hx => by
  unfold State.ending at h
  rw [show s.link.exchange = some x from hx] at h
  simpa using h

theorem CoreFrame.endEvent_link (v : State) (before : Nat) :
    (v.endEvent before).link = v.link ∧ (v.endEvent before).decoder = v.decoder ∧ (v.endEvent before).divider = v.divider := by
  unfold State.endEvent State.settleAttention
  rw [v.reportPool_frame before]
  exact ⟨rfl, rfl, rfl⟩

theorem State.endFrame_link (s : State) (p : PortId) (bytes : List Byte) (partialByte : Bool) :
    (s.endFrame p bytes partialByte).link = s.link ∧ (s.endFrame p bytes partialByte).divider = s.divider ∧
      ((s.endFrame p bytes partialByte).decoder = s.decoder ∨
        ∃ x : Handed, x.sequence ≤ 15 ∧ (s.endFrame p bytes partialByte).decoder = s.decoder ++ [x]) := by
  unfold State.endFrame
  dsimp only
  split
  · exact ⟨State.setPort_link _ _ _, State.setPort_divider _ _ _, .inl (State.setPort_decoder _ _ _)⟩
  · split
    · refine ⟨?_, ?_, .inl ?_⟩ <;> simp [State.writeResponse]
    · split
      · exact ⟨State.setPort_link _ _ _, State.setPort_divider _ _ _, .inl (State.setPort_decoder _ _ _)⟩
      · next x hx =>
        refine ⟨by simp, by simp, .inr ⟨x, ?_, by simp⟩⟩
        unfold handedFrame at hx
        split at hx
        · cases hx
          exact Nat.zero_le _
        · cases hx

theorem State.LinkKept.reset : State.reset.LinkKept none := by
  have hbit : Link.reset.bitTime = bitTimeOf 16000 .k125 := by decide
  constructor <;> simp [State.reset, Link.reset]
  exact hbit

theorem Stepped.linkKept {s t : State} (hs : s.LinkKept none) (hend : s.EndKept) (h : Stepped s t) : t.LinkKept none ∧ t.EndKept := by
  have hcore : ∀ {v : State} (before : Nat), CoreFrame s v → (v.endEvent before).LinkKept none ∧ (v.endEvent before).EndKept :=
    fun {v} before hv => by
      obtain ⟨hl, hd, hdiv⟩ := CoreFrame.endEvent_link v before
      exact ⟨hs.congr (hl.trans hv.link) (hd.trans hv.decoder) (hdiv.trans hv.divider), hend.congr (hl.trans hv.link)⟩
  cases h with
  | same => exact ⟨hs, hend⟩
  | @command v o rid code payload h names a hstands he =>
    obtain ⟨rfl, -⟩ := State.stands_fields hstands
    have hh := State.handedFrom_of_stands hstands
    have hnamed : CoreFrame (s.dropHanded h.origin)
        (if names then (s.dropHanded h.origin).restartTenureOf h.origin rid else s.dropHanded h.origin) := by
      split
      · exact .restartTenureOf _ _ _
      · exact .refl _
    have hdrop : (s.dropHanded h.origin).EndKept := hend.congr rfl
    have hv := he.governed.linkKept ((hs.dropHanded hh).congr hnamed.link hnamed.decoder hnamed.divider) (hdrop.congr hnamed.link)
    have hreport : (v.reportPool s.freeRecords).link = v.link ∧ (v.reportPool s.freeRecords).decoder = v.decoder ∧
        (v.reportPool s.freeRecords).divider = v.divider := by
      rw [v.reportPool_frame]
      exact ⟨rfl, rfl, rfl⟩
    have hq := hs.sequences h (List.mem_of_find?_eq_some hh)
    obtain ⟨hk, hke⟩ := State.LinkKept.respond (hv.1.congr hreport.1 hreport.2.1 hreport.2.2) (hv.2.congr hreport.1) hq a
    exact ⟨hk.congr rfl rfl rfl, hke.congr rfl⟩
  | transferStarted _ =>
    exact ⟨hs.congr (State.setPort_link _ _ _) (State.setPort_decoder _ _ _) (State.setPort_divider _ _ _),
      hend.congr (State.setPort_link _ _ _)⟩
  | @frameEnded p bytes b _ =>
    obtain ⟨hl, hdiv, hd | ⟨x, hx, hd⟩⟩ := s.endFrame_link p bytes b
    · exact ⟨hs.congr hl hd hdiv, hend.congr hl⟩
    · exact ⟨(hs.appended hx).congr hl hd hdiv, hend.congr hl⟩
  | readEnded n _ =>
    exact ⟨hs.congr (State.setPort_link _ _ _) (State.setPort_decoder _ _ _) (State.setPort_divider _ _ _),
      hend.congr (State.setPort_link _ _ _)⟩
  | ignoredEnded n _ =>
    exact ⟨hs.congr (State.setPort_link _ _ _) (State.setPort_decoder _ _ _) (State.setPort_divider _ _ _),
      hend.congr (State.setPort_link _ _ _)⟩
  | ticked _ => exact ⟨hs.congr rfl rfl rfl, hend.congr rfl⟩
  | @waitExpired r e en c _ _ _ =>
    exact hcore _ ((((ClaimFrame.dropWait s r e).trans (.queueNotice _ _ _ _)).trans (.recompute _ _)).trans (.runPasses _ _ _)).core
  | @setExpired r e en c id _ _ _ =>
    exact hcore _ (ClaimFrame.endSet s r id (fun s => s.queueNotice r e (.waitExpired (some id))) fun u => .queueNotice u _ _ _).core
  | @holdExpired r e en c _ _ =>
    exact hcore _ ((((ClaimFrame.dropHold s r e true).trans (.queueNotice _ _ _ _)).trans (.recompute _ _)).trans (.runPasses _ _ _)).core
  | tenureExpired r => exact hcore _ (EvictFrame.evict s r _).core
  | pollingStopped hx hw => exact ⟨{ hs with waiting := fun hne => absurd hw hne }, State.endKept_of_phase fun x hx' => by
      rw [show Link.exchange _ = none from hx] at hx'; cases hx'⟩
  | responseAwaited count position hx hp hen =>
    exact ⟨hs.waitForResponse hx hp hen count position, fun x hx' => by
      rw [show (s.waitForResponse count position).link.exchange = none from hx] at hx'; cases hx'⟩
  | pollStarted a c hx hw hen =>
    refine ⟨hs.startPoll hx hw hen a c, State.endKept_of_phase fun x hx' => ?_⟩
    unfold State.startPoll at hx'
    split at hx'
    · rw [hx] at hx'
      cases hx'
    · cases hx'
      exact nofun
  | @windowOpened x hx hp =>
    refine ⟨?_, State.endKept_of_phase fun y hy => ?_⟩
    · exact { hs with
        leaving := fun n hn hl => by have := hs.leaving n hn hl; rw [hx] at this; exact this
        live := fun y hy _ => by cases hy; exact hs.live x hx (by rw [hp]; exact nofun)
        idle := nofun
        polling := fun y hy => by cases hy; rfl
        line := Iff.rfl.trans ⟨fun _ => rfl, fun _ => rfl⟩
        waiting := fun hne => by have := (hs.waiting hne).1; rw [hx] at this; cases this }
    · cases hy
      exact nofun
  | @byteReceived x reply b hx hp =>
    refine ⟨hs.setPhase hx (by rw [hp]; exact nofun) ?_, State.endKept_of_phase fun y hy => by cases hy; exact nofun⟩
    rw [hs.polling x hx, hp]
    rfl
  | @exchangeEnded x reply hx hp =>
    have hlive := hs.live x hx (by rw [hp]; exact nofun)
    have htaking : s.Taking (some x) := ⟨hs, hlive.2, hx⟩
    obtain ⟨hk, -, hx'⟩ := htaking.takeOutcome x.node x.node reply
    obtain ⟨hclosed, hkept⟩ := hk.closeExchange fun y hy => by
      rw [hx'] at hy
      cases hy
      rw [hp]
      exact nofun
    exact ⟨hclosed.congr rfl rfl rfl, hkept.congr rfl⟩
  | @nodeRemoved a ha =>
    obtain ⟨x, hx, hp, hxa⟩ := State.leavingAtEnd_eq_some ha
    have hin : s.inExchange a = false := by simp [State.inExchange, hx, hp]
    have hdel := CoreFrame.deleteNode s a
    obtain ⟨hl, hd, hdiv⟩ := CoreFrame.endEvent_link (s.deleteNode a).closeExchange s.freeRecords
    obtain ⟨hclosed, hkept⟩ := ((hs.withoutNode hin).congr hdel.link hdel.decoder hdel.divider).closeExchange fun y hy => by
      rw [hdel.link, show (s.withoutNode a).link.exchange = some x from hx] at hy
      cases hy
      rw [hp]
      exact nofun
    exact ⟨hclosed.congr hl hd hdiv, hkept.congr hl⟩
  | linkDisabled he _ _ =>
    have hphase := State.ending_phase he
    exact (hs.disableLink hphase).closeExchange fun y hy hpy => by
      rw [hphase y hy] at hpy
      cases hpy
  | bitTimeChanged he _ _ =>
    have hphase := State.ending_phase he
    exact (hs.setRate _).closeExchange fun y hy hpy => by
      rw [hphase y hy] at hpy
      cases hpy
  | reset =>
    exact ⟨State.LinkKept.reset.congr rfl rfl rfl, State.endKept_of_phase (s := State.reset) nofun⟩
  | resetEnded => exact ⟨hs.congr rfl rfl rfl, hend.congr rfl⟩

/-- Settles O58: each row keeps the roster and the exchange in agreement, what is deferred being taken at an exchange's end. -/
theorem linkKept : Obligations.LinkKept := by
  intro s t hroster hlink h
  obtain ⟨rest, hr⟩ := step_stepped h
  obtain ⟨hs, hend⟩ := (State.linkLegal_iff s).mp ⟨hroster, hlink⟩
  exact (State.linkLegal_iff t).mpr (Stepped.linkKept (s := { s with pending := rest }) (hs.congr rfl rfl rfl) (hend.congr rfl) hr)

end Sys2Proof.Machine
end

section
/-! The queue, the reset of the part and the transfers of a command port (R151 to R154). -/

namespace Sys2Proof.Machine

/-! ### The queue and the reset -/

/-- Settles O1: by the two cases of the queue. -/
theorem stepTakesFront : Obligations.StepTakesFront :=
  ⟨fun _ _ _ => rfl, fun s hs => by rw [step, hs]⟩

theorem State.portsLegal_reset : State.reset.portsLegal := by
  rw [State.portsLegal_iff]
  refine ⟨fun p => ?_, fun p => ?_⟩
  · have hreset : Port.reset.Sound 0 true := ⟨by simp [Port.reset], by simp [Port.reset], nofun, nofun, nofun, fun _ => ⟨rfl, .inl rfl⟩⟩
    cases p <;> exact hreset
  · rw [State.attention_reset]
    cases p <;> rfl

theorem State.noticesLegal_reset : State.reset.noticesLegal := by
  simp [State.noticesLegal, State.noticeQueue, State.reset]

theorem State.entry_reset (e : EntrySlot) : State.reset.entry e = none := by
  simp [State.entry, State.reset]

theorem State.acyclic_reset : Acyclic State.reset.waitEdges := by
  have hnone : ∀ x y, (x, y) ∉ State.reset.waitEdges := fun x y hxy => by
    obtain ⟨e, he⟩ := State.mem_waitEdges.mp hxy
    simp [State.waitsAt, State.queueAt, State.entry_reset, queueEdges] at he
  intro r hr
  obtain ⟨y, hy, -⟩ := Relation.TransGen.head'_iff.mp hr
  exact hnone _ _ hy

/-- Settles O51: the tables stand empty, the registers and the link at their reset values. -/
theorem resetIsLegal : Obligations.ResetIsLegal := by
  obtain ⟨hroster, hlink⟩ := (State.linkLegal_iff State.reset).mpr ⟨State.LinkKept.reset, nofun⟩
  refine ⟨State.dirLegal_reset, (State.consistent_iff _).mpr State.consistent_reset, State.registersLegal_reset,
    State.noticesLegal_reset, State.portsLegal_reset, hroster, hlink, State.acyclic_reset, fun e en hen => ?_⟩
  simp [State.entry_reset] at hen

theorem Port.rdy_eq_true {q : Port} (h : q.phase ≠ .working) : q.rdy false = true := by
  simp [Port.rdy, h]

theorem Port.rdy_eq_false {q : Port} (h : q.phase = .working) (inReset : Bool) : q.rdy inReset = false := by
  simp [Port.rdy, h]

/-- The state that RESET leaves (R7, R49, R92, R110, R122, R132, R150, R151). -/
def State.afterReset (s : State) : State :=
  { State.reset with portA := s.portA.resetKeepingSel, portB := s.portB.resetKeepingSel, pending := s.pending }

theorem State.port_afterReset (s : State) (p : PortId) : s.afterReset.port p = (s.port p).resetKeepingSel := by
  cases p <;> rfl

/-- Settles O7: each value is read off the state that RESET leaves; RDY follows from the port's state. -/
theorem resetAndItsEnd : Obligations.ResetAndItsEnd := by
  refine ⟨fun s => ⟨s.afterReset, rfl, fun e => ⟨?_, ?_⟩, rfl, rfl, rfl, fun r => ?_, rfl, rfl, rfl, rfl, rfl, fun i => ?_, rfl, rfl, rfl,
    rfl, rfl, rfl, rfl, rfl, rfl, rfl, rfl, rfl, rfl, rfl, rfl, rfl, rfl, fun p => ?_, rfl⟩,
    fun s => ⟨rfl, fun p hp => Port.rdy_eq_true hp, fun p hp => Port.rdy_eq_false hp _⟩⟩
  · simp [State.entry, State.afterReset, State.reset]
  · simp [State.generation, State.afterReset, State.reset]
  · simp [State.req, State.afterReset, State.reset]
  · simp [State.afterReset, State.reset]
  · rw [State.port_afterReset]
    exact ⟨rfl, rfl, rfl, rfl, rfl, rfl, rfl, rfl⟩

/-! ### The transfers of a port -/

theorem Port.selMayFall_of {q : Port} (h : q.transfer = none ∨ q.transfer = some .ignored) : q.selMayFall = true := by
  obtain h | h := h <;> simp [Port.selMayFall, h]

theorem exec_transferStart {s : State} {p : PortId} (h : (s.port p).transfer = none ∨ (s.port p).transfer = some .ignored) :
    exec (.transferStart p) s = .next (s.setPort p ((s.port p).startTransfer s.inReset)) :=
  if_pos (Port.selMayFall_of h)

theorem exec_commandFrameEnd_ignored {s : State} {p : PortId} (h : (s.port p).transfer = some .ignored) (bytes : List Byte) (b : Bool) :
    exec (.commandFrameEnd p bytes b) s = .next (s.setPort p ((s.port p).endIgnored s.inReset bytes.length)) := by
  simp only [exec, execCommandFrameEnd, h]

theorem exec_commandFrameEnd {s : State} {p : PortId} (h : (s.port p).transfer = some .commandFrame) (bytes : List Byte) (b : Bool) :
    exec (.commandFrameEnd p bytes b) s = .next (s.endFrame p bytes b) := by
  simp only [exec, execCommandFrameEnd, h]

theorem exec_responseReadEnd_ignored {s : State} {p : PortId} (h : (s.port p).transfer = some .ignored) (n : Nat) :
    exec (.responseReadEnd p n) s = .next (s.setPort p ((s.port p).endIgnored s.inReset n)) := by
  simp only [exec, execResponseReadEnd, h]

theorem exec_responseReadEnd {s : State} {p : PortId} (h : (s.port p).transfer = some .responseRead) (n : Nat) :
    exec (.responseReadEnd p n) s = .next (s.setPort p ((s.port p).endRead n)) := by
  simp only [exec, execResponseReadEnd, h]

theorem sdoBytes_of_le {response : List Byte} {n : Nat} (h : response.length ≤ n) :
    sdoBytes response n = response ++ List.replicate (n - response.length) 0xFF#8 := by
  rw [sdoBytes, List.take_of_length_le h]

theorem sdoBytes_of_lt {response : List Byte} {n : Nat} (h : n < response.length) : sdoBytes response n = response.take n := by
  simp [sdoBytes, Nat.sub_eq_zero_of_le h.le]

/-- Settles O4: each transfer starts by the port's state, and ends by its class. -/
theorem transfersStartAndEnd : Obligations.TransfersStartAndEnd := by
  refine ⟨fun s p hsel => ⟨fun hreset => ?_, fun response hreset hphase hresponse => ?_, fun hreset hphase => ?_, fun hreset hphase => ?_⟩,
    fun s p => ⟨fun ht => ?_, fun ht => ⟨fun bytes b => ?_, fun n => ?_⟩, fun response n ht hresponse => ⟨fun hn => ?_, fun hn => ?_⟩⟩⟩
  · rw [exec_transferStart hsel, Port.startTransfer, if_pos hreset]
  · rw [exec_transferStart hsel]
    simp [Port.startTransfer, hreset, hphase, Port.sdoOfRead, hresponse]
  · rw [exec_transferStart hsel]
    simp [Port.startTransfer, hreset, hphase]
  · rw [exec_transferStart hsel]
    simp [Port.startTransfer, hreset, hphase]
  · rw [exec_commandFrameEnd ht]
    rfl
  · rw [exec_commandFrameEnd_ignored ht]
    rfl
  · rw [exec_responseReadEnd_ignored ht]
    rfl
  · rw [exec_responseReadEnd ht]
    simp [Port.endRead, hresponse, hn, sdoBytes_of_le hn]
  · rw [exec_responseReadEnd ht]
    simp [Port.endRead, hresponse, Nat.not_le.mpr hn, sdoBytes_of_lt hn]

/-! ### Command frames -/

theorem State.endFrame_of_error {s : State} {p : PortId} {bytes : List Byte} {b : Bool} {k : FrameErrorKind} {result : Result}
    (hne : ¬ (bytes = [] ∧ b = false)) (h : frameError bytes b = some (k, result)) :
    s.endFrame p bytes b =
      (((s.setPort p ((s.port p).receive bytes)).raise (frameErrorDetail p k)).writeResponse p ⟨result, []⟩).settleAttention := by
  simp only [State.endFrame, if_neg hne, h]

theorem State.endFrame_of_good {s : State} {p : PortId} {bytes : List Byte} {b : Bool} {x : Handed}
    (hne : ¬ (bytes = [] ∧ b = false)) (h : frameError bytes b = none) (hx : handedFrame p bytes = some x) :
    s.endFrame p bytes b = { s.setPort p { (s.port p).receive bytes with phase := .working } with decoder := s.decoder ++ [x] } := by
  simp only [State.endFrame, if_neg hne, h, hx]
  cases p <;> rfl

theorem length_commandFrame (rid code : Byte) (payload : List Byte) : (commandFrame rid code payload).length = payload.length + 4 := by
  simp [commandFrame]

/-- The frame of a payload that fits passes the tests of R153. -/
theorem frameError_commandFrame {rid code : Byte} {payload : List Byte} (h : payload.length ≤ 32) :
    frameError (commandFrame rid code payload) false = none := by
  have hlen : (byteOf (payload.length + 2)).toNat = payload.length + 2 := by
    simp only [byteOf, BitVec.toNat_ofNat]
    omega
  have hkept : (commandFrame rid code payload).take Config.receiveBytes = commandFrame rid code payload :=
    List.take_of_length_le (by rw [length_commandFrame]; exact Nat.add_le_add_right h 4)
  have hhead : (commandFrame rid code payload).head? = some (byteOf (payload.length + 2)) := rfl
  simp only [frameError, hhead, hkept, length_commandFrame, hlen]
  have hlast : (commandFrame rid code payload).getLast? = some (crc8 (commandFrame rid code payload).dropLast) := by
    rw [commandFrame, List.getLast?_concat, List.dropLast_concat]
  rw [if_neg Bool.false_ne_true, if_neg (by omega), if_neg (not_not_intro hlast)]

theorem handedFrame_commandFrame (p : PortId) (rid code : Byte) (payload : List Byte) :
    handedFrame p (commandFrame rid code payload) = some ⟨p.origin, rid, code, payload, 0, false⟩ := by
  simp [handedFrame, commandFrame]

theorem take_commandFrame {rid code : Byte} {payload : List Byte} (h : payload.length ≤ 32) :
    (commandFrame rid code payload).take Config.receiveBytes = commandFrame rid code payload :=
  List.take_of_length_le (by rw [length_commandFrame]; exact Nat.add_le_add_right h 4)

/-- Settles O5: the frame passes its tests and is handed over. -/
theorem goodFrameHandedOver : Obligations.GoodFrameHandedOver := by
  intro s p rid code payload ht hlen
  have hend := State.endFrame_of_good (s := s) (p := p) (bytes := commandFrame rid code payload) (b := false) (by simp [commandFrame])
    (frameError_commandFrame hlen) (handedFrame_commandFrame p rid code payload)
  refine ⟨_, (exec_commandFrameEnd ht _ _).trans (congrArg _ hend), ?_, ?_⟩
  · exact Port.rdy_eq_false (by cases p <;> rfl) _
  · simp only [Port.receive, take_commandFrame hlen]
    rfl

/-- The three frame errors of R153, each with its result. -/
theorem frameError_of_partial (bytes : List Byte) : frameError bytes true = some (.partialByte, .frameError) := rfl

theorem frameError_of_count {len : Byte} {rest : List Byte}
    (h : len.toNat < 2 ∨ 34 < len.toNat ∨ (len :: rest).length ≠ len.toNat + 2) :
    frameError (len :: rest) false = some (.byteCount, .badLength) := by
  simp only [frameError, List.head?_cons, if_pos h]
  rfl

theorem frameError_of_check {len chk : Byte} {mid : List Byte} (h2 : 2 ≤ len.toNat) (h34 : len.toNat ≤ 34)
    (hl : (len :: mid ++ [chk]).length = len.toNat + 2) (hc : chk ≠ crc8 (len :: mid)) :
    frameError (len :: mid ++ [chk]) false = some (.check, .checkFailed) := by
  have hkept : (len :: mid ++ [chk]).take Config.receiveBytes = len :: mid ++ [chk] :=
    List.take_of_length_le (by rw [hl]; exact Nat.add_le_add_right h34 2)
  have hhead : (len :: mid ++ [chk]).head? = some len := rfl
  have hlast : (len :: mid ++ [chk]).getLast? ≠ some (crc8 (len :: mid ++ [chk]).dropLast) := by
    rw [List.getLast?_concat, List.dropLast_concat]
    simpa using hc
  simp only [frameError, hhead, hkept]
  rw [if_neg Bool.false_ne_true, if_neg (by omega), if_pos hlast]

/-- What a frame error leaves, whatever its kind (R125, R152, R153). -/
theorem endFrame_error_leaves {s t : State} {p : PortId} {bytes : List Byte} {b : Bool} {k : FrameErrorKind} {result : Result}
    (hne : ¬ (bytes = [] ∧ b = false)) (h : frameError bytes b = some (k, result)) (ht : s.endFrame p bytes b = t) :
    t.port p = { s.port p with
      transfer := none, rxBuffer := bytes.take 36, rxCount := bytes.length, phase := .holding
      sdo := .clocked (List.replicate bytes.length 0xFF#8)
      response := some (responseFrame (t.stat p) ⟨result, []⟩), atnLow := t.attention p } ∧
    (∀ p', p' ≠ p → t.port p' = { s.port p' with atnLow := t.attention p' }) ∧
    t = { s.raise (frameErrorDetail p k) with portA := t.portA, portB := t.portB } := by
  rw [State.endFrame_of_error hne h] at ht
  have hatt : ∀ p', t.attention p' = ((s.setPort p ((s.port p).receive bytes)).raise (frameErrorDetail p k)).attention p' := fun p' => by
    rw [← ht, State.attention_settleAttention, State.writeResponse, State.attention_setPort]
  have hstat : t.stat p = ((s.setPort p ((s.port p).receive bytes)).raise (frameErrorDetail p k)).stat p :=
    State.stat_congr p (by subst ht; cases p <;> rfl) (hatt p) (by subst ht; cases p <;> rfl)
  have hports : t.portA = { (((s.setPort p ((s.port p).receive bytes)).raise (frameErrorDetail p k)).writeResponse p
        ⟨result, []⟩).portA with atnLow := t.attention .a } ∧
      t.portB = { (((s.setPort p ((s.port p).receive bytes)).raise (frameErrorDetail p k)).writeResponse p
        ⟨result, []⟩).portB with atnLow := t.attention .b } := by
    rw [← ht]
    exact ⟨by rw [State.attention_settleAttention]; rfl, by rw [State.attention_settleAttention]; rfl⟩
  refine ⟨?_, fun p' hp' => ?_, ?_⟩
  · rw [hstat]
    cases p
    · exact hports.1
    · exact hports.2
  · cases p
    · cases p'
      · exact absurd rfl hp'
      · exact hports.2
    · cases p'
      · exact hports.1
      · exact absurd rfl hp'
  · subst ht
    cases p <;> rfl

/-- Settles O6: by the kind of the frame error. -/
theorem frameErrorsAnswered : Obligations.FrameErrorsAnswered := by
  intro s p bytes partialByte k result ht hkind
  have herror : ¬ (bytes = [] ∧ partialByte = false) ∧ frameError bytes partialByte = some (k, result) := by
    obtain ⟨rfl, rfl, rfl⟩ | ⟨len, rest, rfl, rfl, hbad, rfl, rfl⟩ | ⟨len, mid, chk, rfl, rfl, h2, h34, hl, hc, rfl, rfl⟩ := hkind
    · exact ⟨by simp, frameError_of_partial bytes⟩
    · exact ⟨by simp, frameError_of_count hbad⟩
    · exact ⟨by simp, frameError_of_check h2 h34 hl hc⟩
  refine ⟨_, exec_commandFrameEnd ht bytes partialByte, ?_⟩
  obtain ⟨hport, hother, hrest⟩ := endFrame_error_leaves herror.1 herror.2 rfl
  refine ⟨hport, hother, hrest.trans ?_⟩
  cases p <;> rfl

end Sys2Proof.Machine
end

section
/-! The frames of commands, responses and replies: what is sent is received as itself (R153, R162, R165). -/

namespace Sys2Proof.Machine

/-! ### Commands -/

/-- The payload of a well-formed command fits a frame (R162). -/
theorem length_of_wellFormed {i : Instr} {o : Origin} {rid code : Byte} {payload : List Byte} (hw : i.wellFormed = true)
    (hf : i.fields = some (o, rid, code, payload)) : payload.length ≤ 32 := by
  cases i <;> simp_all [Instr.fields, Instr.wellFormed, commandWellFormed]

/-- Every row that a frame carries decodes back to itself. -/
theorem decodeCommand_of_fields (i : Instr) : Sys2Proof.Laws.CommandDecoding.Statement i := by
  cases i with
  | openRequester o rid p => exact Laws.CommandDecoding.openRequester o rid p
  | closeRequester o rid p => exact Laws.CommandDecoding.closeRequester o rid p
  | renew o rid p => exact Laws.CommandDecoding.renew o rid p
  | setBudget o rid p => exact Laws.CommandDecoding.setBudget o rid p
  | listMine o rid p => exact Laws.CommandDecoding.listMine o rid p
  | fetchNotice o rid p => exact Laws.CommandDecoding.fetchNotice o rid p
  | define o rid p => exact Laws.CommandDecoding.define o rid p
  | retire o rid p => exact Laws.CommandDecoding.retire o rid p
  | setLimits o rid p => exact Laws.CommandDecoding.setLimits o rid p
  | lookup o rid p => exact Laws.CommandDecoding.lookup o rid p
  | find o rid p => exact Laws.CommandDecoding.find o rid p
  | readEntry o rid p => exact Laws.CommandDecoding.readEntry o rid p
  | writeNote o rid p => exact Laws.CommandDecoding.writeNote o rid p
  | acquire o rid p => exact Laws.CommandDecoding.acquire o rid p
  | acquireSet o rid p => exact Laws.CommandDecoding.acquireSet o rid p
  | release o rid p => exact Laws.CommandDecoding.release o rid p
  | releaseAll o rid p => exact Laws.CommandDecoding.releaseAll o rid p
  | cancel o rid p => exact Laws.CommandDecoding.cancel o rid p
  | upgrade o rid p => exact Laws.CommandDecoding.upgrade o rid p
  | downgrade o rid p => exact Laws.CommandDecoding.downgrade o rid p
  | evict o rid p => exact Laws.CommandDecoding.evict o rid p
  | purgeOrigin o rid p => exact Laws.CommandDecoding.purgeOrigin o rid p
  | setPortRights o rid p => exact Laws.CommandDecoding.setPortRights o rid p
  | setTimebase o rid p => exact Laws.CommandDecoding.setTimebase o rid p
  | routeEvent o rid p => exact Laws.CommandDecoding.routeEvent o rid p
  | readEvents o rid p => exact Laws.CommandDecoding.readEvents o rid p
  | setPoolThreshold o rid p => exact Laws.CommandDecoding.setPoolThreshold o rid p
  | readPartStatus o rid p => exact Laws.CommandDecoding.readPartStatus o rid p
  | rosterAdd o rid p => exact Laws.CommandDecoding.rosterAdd o rid p
  | rosterRemove o rid p => exact Laws.CommandDecoding.rosterRemove o rid p
  | readNode o rid p => exact Laws.CommandDecoding.readNode o rid p
  | linkConfig o rid p => exact Laws.CommandDecoding.linkConfig o rid p
  | unknownCommand o rid code p => exact Laws.CommandDecoding.unknownCommand o rid code p
  | transferStart | commandFrameEnd | responseReadEnd | tick | waitLimitExpiry | setWaitLimitExpiry | holdLimitExpiry | tenureExpiry
    | nodeSelection | replyWindowOpen | exchangeEnd | replyWindowClose | replyIdleTimeout | linkDisable | bitTimeChange | nodeRemoval
    | reset | resetEnd | replyByteReceived => exact Laws.CommandDecoding.of_event rfl

/-- The three flags of STAT as a number (Table 10.3). -/
theorem statByte_eq (busyDiscard atn admin : Bool) :
    statByte busyDiscard atn admin = byteOf ((if busyDiscard then 128 else 0) + (if atn then 64 else 0) + (if admin then 32 else 0)) := by
  cases busyDiscard <;> cases atn <;> cases admin <;> rfl

/-- Settles O2: a frame that fits passes its tests, hands over its fields, and these decode to the row. -/
theorem commandFramesDecodeBack : Obligations.CommandFramesDecodeBack := by
  refine ⟨fun i p rid code payload hw hf => ⟨rfl, frameError_commandFrame (length_of_wellFormed hw hf), _,
    handedFrame_commandFrame p rid code payload, decodeCommand_of_fields i hw _ _ _ _ hf⟩, fun s p result payload => ?_⟩
  simp only [responseFrame, responseLayout, State.stat, statByte_eq]

/-! ### The layout of a reply -/

/-- The control byte of a reply with these blocks (R165). -/
def replyControl (respAck noticeAck request : Bool) : Byte :=
  (if respAck then 0x01#8 else 0x00#8) ||| (if noticeAck then 0x02#8 else 0x00#8) ||| (if request then 0x04#8 else 0x00#8)

theorem replyControl_bits (a n q : Bool) :
    (replyControl a n q).getLsbD 0 = a ∧ (replyControl a n q).getLsbD 1 = n ∧ (replyControl a n q).getLsbD 2 = q ∧
      (replyControl a n q).toNat < 8 := by
  cases a <;> cases n <;> cases q <;> decide

/-- The acknowledgement blocks of a reply. -/
def Reply.acks (r : Reply) : List Byte := (r.respAck.elim [] fun a => [byteOf a]) ++ r.noticeAck.elim [] fun s => bytes16 s.toNat

/-- The request block of a reply. -/
def NodeRequest.bytes (q : NodeRequest) : List Byte := [byteOf q.sequence, q.localId, q.code, byteOf q.payload.length] ++ q.payload

def Reply.control (r : Reply) : Byte := replyControl r.respAck.isSome r.noticeAck.isSome r.request.isSome

/-- What the CRC of a reply is taken over (R165). -/
def Reply.body (r : Reply) : List Byte := r.source :: r.control :: (r.acks ++ r.request.elim [] NodeRequest.bytes)

theorem replyFrame_eq (r : Reply) : replyFrame r = 0x3A#8 :: (r.body ++ bytes16 (crc16 r.body).toNat) := by
  obtain ⟨source, a, n, q⟩ := r
  cases a <;> cases n <;> cases q <;> rfl

theorem Reply.control_bits (r : Reply) : r.control.getLsbD 0 = r.respAck.isSome ∧ r.control.getLsbD 1 = r.noticeAck.isSome ∧
    r.control.getLsbD 2 = r.request.isSome ∧ r.control.toNat < 8 :=
  replyControl_bits ..

theorem Reply.ackBytes_control (r : Reply) : ackBytes r.control = r.acks.length := by
  obtain ⟨h0, h1, -⟩ := r.control_bits
  rw [ackBytes, h0, h1, Reply.acks]
  cases r.respAck <;> cases r.noticeAck <;> rfl

/-! ### What is read of a reply from its source on -/

section reading

variable (sync source control : Byte) (rest : List Byte)

theorem getElem?_reply (n : Nat) : (sync :: source :: control :: rest)[3 + n]? = rest[n]? := by
  rw [Nat.add_comm, List.getElem?_cons_succ, List.getElem?_cons_succ, List.getElem?_cons_succ]

theorem declaredLength_reply : declaredLength (sync :: source :: control :: rest) =
    if control.getLsbD 2 then (rest[ackBytes control + 3]?).map fun n => 3 + ackBytes control + 4 + n.toNat + 2
    else some (3 + ackBytes control + 2) := by
  have hplace := getElem?_reply sync source control rest (ackBytes control + 3)
  rw [← Nat.add_assoc] at hplace
  simp only [declaredLength, List.getElem?_cons_succ, List.getElem?_cons_zero] at hplace ⊢
  rw [hplace]
  cases rest[ackBytes control + 3]? <;> rfl

theorem blocksAgree_reply : blocksAgree (sync :: source :: control :: rest) = true ↔
    control.toNat < 8 ∧ (control.getLsbD 0 = true → ∃ b, rest[0]? = some b ∧ b.toNat ≤ 15) ∧
      (control.getLsbD 2 = true → (∃ b, rest[ackBytes control]? = some b ∧ b.toNat ≤ 15) ∧
        ∃ b, rest[ackBytes control + 3]? = some b ∧ b.toNat ≤ 32) := by
  have hsmall : ∀ (x : Option Byte) (n : Nat), (x.map fun b => decide (b.toNat ≤ n)).getD false = true ↔ ∃ b, x = some b ∧ b.toNat ≤ n :=
    fun x n => by cases x <;> simp
  have hplace := getElem?_reply sync source control rest (ackBytes control + 3)
  rw [← Nat.add_assoc] at hplace
  simp only [blocksAgree, List.getElem?_cons_succ, List.getElem?_cons_zero, getElem?_reply, Bool.and_eq_true, decide_eq_true_eq] at hplace ⊢
  rw [hplace]
  cases control.getLsbD 0 <;> cases control.getLsbD 2 <;> simp [hsmall, and_assoc]

theorem replyCrcAgrees_iff {body crc : List Byte} (h : crc.length = 2) :
    replyCrcAgrees (sync :: (body ++ crc)) = true ↔ crc = bytes16 (crc16 body).toNat := by
  match crc, h with
  | [hi, lo], _ =>
    have hbody : ((sync :: (body ++ [hi, lo])).drop 1).dropLast.dropLast = body := by
      rw [List.drop_one, List.tail_cons, ← List.singleton_append (l := [lo]), ← List.append_assoc, List.dropLast_concat, List.dropLast_concat]
    have htail : (sync :: (body ++ [hi, lo])).drop ((sync :: (body ++ [hi, lo])).length - 2) = [hi, lo] := by
      simp
    simp only [replyCrcAgrees, hbody, htail, beq_iff_eq]

end reading

/-! ### The progress of a reply -/

theorem getElem?_append_of_some {α : Type} {l : List α} {n : Nat} {x : α} (h : l[n]? = some x) (m : List α) : (l ++ m)[n]? = some x := by
  rw [List.getElem?_append_left (List.getElem?_eq_some_iff.mp h).1, h]

/-- The length that a reply declares stays declared as more of it arrives. -/
theorem declaredLength_append {p : List Byte} {n : Nat} (h : declaredLength p = some n) (m : List Byte) :
    declaredLength (p ++ m) = some n := by
  match p, h with
  | [], h => simp [declaredLength] at h
  | [_], h => simp [declaredLength] at h
  | [_, _], h => simp [declaredLength] at h
  | sync :: source :: control :: rest, h =>
    rw [List.cons_append, List.cons_append, List.cons_append, declaredLength_reply]
    rw [declaredLength_reply] at h
    split at h
    · obtain ⟨b, hb, rfl⟩ := Option.map_eq_some_iff.mp h
      rw [if_pos ‹_›, getElem?_append_of_some hb, Option.map_some]
    · rwa [if_neg ‹_›]

/-- A reply of its declared length, at most 64 bytes, is complete, and none of its beginnings is. -/
theorem replyProgress_of_declared {reply : List Byte} (h : declaredLength reply = some reply.length) (h64 : reply.length ≤ 64) :
    replyProgress reply = .complete ∧ ∀ p b m, reply = p ++ b :: m → replyProgress p = .incomplete := by
  have hbytes : Config.replyBytes = 64 := rfl
  refine ⟨?_, fun p b m hp => ?_⟩
  · simp only [replyProgress, h]
    rw [if_neg (by omega), if_pos le_rfl]
  · have hlt : p.length < reply.length := by rw [hp, List.length_append, List.length_cons]; omega
    unfold replyProgress
    split
    · next n hn =>
      have hsame := declaredLength_append hn (b :: m)
      rw [← hp, h, Option.some.injEq] at hsame
      rw [if_neg (by omega), if_neg (by omega), if_neg (by omega)]
    · rw [if_neg (by omega)]

/-- A reply all of whose beginnings are incomplete is received whole (R141). -/
theorem foldl_receiveReplyByte {m p : List Byte} (hp : p ≠ [])
    (h : ∀ p' b m', p ++ m = p' ++ b :: m' → replyProgress p' = .incomplete) : m.foldl receiveReplyByte p = p ++ m := by
  induction m generalizing p with
  | nil => simp
  | cons b m ih =>
    have hb : receiveReplyByte p b = p ++ [b] := by
      rw [receiveReplyByte, if_neg (by simpa using hp), if_pos (h p b m rfl)]
    rw [List.foldl_cons, hb, ih (by simp) (by simpa using h), List.append_assoc, List.singleton_append]

/-! ### A reply that a node may send -/

/-- The ranges of the blocks of a reply (R165). -/
structure Reply.Sendable (r : Reply) : Prop where
  ack : ∀ a, r.respAck = some a → a ≤ 15
  request : ∀ q, r.request = some q → q.sequence ≤ 15 ∧ q.payload.length ≤ 32

theorem toNat_byteOf {n : Nat} (h : n < 256) : (byteOf n).toNat = n := by
  rw [byteOf, BitVec.toNat_ofNat, Nat.mod_eq_of_lt h]

theorem word16_bytes16 (w : Word16) : word16 (byteOf (w.toNat / 256)) (byteOf w.toNat) = w := by
  apply BitVec.eq_of_toNat_eq
  have hw := w.isLt
  simp only [word16, nat16, byteOf, BitVec.toNat_ofNat]
  omega

theorem Reply.acks_length_le (r : Reply) : r.acks.length ≤ 3 := by
  unfold Reply.acks
  cases r.respAck <;> cases r.noticeAck <;> simp [bytes16]

/-- The bytes that follow the acknowledgements of a reply. -/
theorem getElem?_acks_append (r : Reply) (l : List Byte) (n : Nat) : (r.acks ++ l)[ackBytes r.control + n]? = l[n]? := by
  rw [r.ackBytes_control, List.getElem?_append_right (Nat.le_add_right _ _), Nat.add_sub_cancel_left]

theorem Reply.Sendable.declaredLength {r : Reply} (h : r.Sendable) :
    Machine.declaredLength (replyFrame r) = some (replyFrame r).length ∧ (replyFrame r).length ≤ 64 := by
  obtain ⟨-, -, h2, -⟩ := r.control_bits
  have hacks := r.acks_length_le
  rw [replyFrame_eq, Reply.body, List.cons_append, List.cons_append, declaredLength_reply, h2]
  cases hq : r.request with
  | none =>
    simp [r.ackBytes_control, bytes16]
    omega
  | some q =>
    have hlen := (h.request q hq).2
    have hplace := getElem?_acks_append r (q.bytes ++ bytes16 (crc16 (r.source :: r.control :: (r.acks ++ q.bytes))).toNat) 3
    rw [show (q.bytes ++ bytes16 (crc16 (r.source :: r.control :: (r.acks ++ q.bytes))).toNat)[3]? = some (byteOf q.payload.length)
      from rfl] at hplace
    rw [Option.elim_some, List.append_assoc, hplace, Option.map_some, toNat_byteOf (show q.payload.length < 256 by omega),
      r.ackBytes_control]
    simp [NodeRequest.bytes, bytes16]
    omega

theorem Reply.Sendable.blocksAgree {r : Reply} (h : r.Sendable) : Machine.blocksAgree (replyFrame r) = true := by
  obtain ⟨h0, -, h2, h8⟩ := r.control_bits
  rw [replyFrame_eq, Reply.body, List.cons_append, List.cons_append, blocksAgree_reply]
  refine ⟨h8, fun hack => ?_, fun hrequest => ?_⟩
  · rw [h0] at hack
    obtain ⟨a, ha⟩ := Option.isSome_iff_exists.mp hack
    refine ⟨byteOf a, ?_, ?_⟩
    · simp [Reply.acks, ha]
    · have := h.ack a ha
      rw [toNat_byteOf (by omega)]
      exact this
  · rw [h2] at hrequest
    obtain ⟨q, hq⟩ := Option.isSome_iff_exists.mp hrequest
    obtain ⟨hseq, hlen⟩ := h.request q hq
    simp only [hq, Option.elim_some, List.append_assoc]
    refine ⟨⟨byteOf q.sequence, ?_, ?_⟩, byteOf q.payload.length, ?_, ?_⟩
    · exact getElem?_acks_append r _ 0
    · rw [toNat_byteOf (by omega)]
      exact hseq
    · exact getElem?_acks_append r _ 3
    · rw [toNat_byteOf (by omega)]
      exact hlen

theorem requestAt_bytes {q : NodeRequest} (hseq : q.sequence ≤ 15) (hlen : q.payload.length ≤ 32) {reply tail : List Byte} {start : Nat}
    (h : reply.drop start = q.bytes ++ tail) : requestAt reply start = some q := by
  rw [requestAt, h]
  simp only [NodeRequest.bytes, List.cons_append, List.nil_append, toNat_byteOf (show q.sequence < 256 by omega),
    toNat_byteOf (show q.payload.length < 256 by omega), List.take_left]

theorem Reply.Sendable.parseReply {r : Reply} (h : r.Sendable) : Machine.parseReply (replyFrame r) = some r := by
  obtain ⟨h0, h1, h2, -⟩ := r.control_bits
  have hrequest : (if r.control.getLsbD 2 then requestAt (replyFrame r) (3 + ackBytes r.control) else none) = r.request := by
    rw [h2]
    cases hq : r.request with
    | none => rfl
    | some q =>
      have hdrop : (replyFrame r).drop (3 + r.acks.length) = q.bytes ++ bytes16 (crc16 r.body).toNat := by
        rw [replyFrame_eq, Nat.add_comm]
        simp [Reply.body, hq]
      rw [r.ackBytes_control]
      exact requestAt_bytes (h.request q hq).1 (h.request q hq).2 hdrop
  have hack : (if r.control.getLsbD 0 then ((replyFrame r)[3]?).map BitVec.toNat else none) = r.respAck := by
    rw [h0]
    cases ha : r.respAck with
    | none => rfl
    | some a =>
      have := h.ack a ha
      simp [replyFrame_eq, Reply.body, Reply.acks, ha, toNat_byteOf (show a < 256 by omega)]
  have hnotice : ∀ w, r.noticeAck = some w → (replyFrame r)[if r.respAck.isSome then 4 else 3]? = some (byteOf (w.toNat / 256)) ∧
      (replyFrame r)[(if r.respAck.isSome then 4 else 3) + 1]? = some (byteOf w.toNat) := fun w hw => by
    cases ha : r.respAck <;> simp [replyFrame_eq, Reply.body, Reply.acks, ha, hw, bytes16]
  rw [replyFrame_eq, Reply.body] at hrequest hack hnotice ⊢
  simp only [List.cons_append, Machine.parseReply, h0, h1] at hrequest hack hnotice ⊢
  rw [hrequest, hack]
  cases hn : r.noticeAck with
  | none =>
    rw [Option.isSome_none, if_neg Bool.false_ne_true, ← hn]
  | some w =>
    obtain ⟨hhi, hlo⟩ := hnotice w hn
    simp only [Option.isSome_some, if_true] at hhi hlo ⊢
    rw [hhi, hlo]
    simp only [word16_bytes16, ← hn]

/-- Settles O3: a sendable reply declares its own length, agrees with its blocks and its CRC, and is parsed as itself. -/
theorem repliesReceivedBack : Obligations.RepliesReceivedBack := by
  intro r n hn ha hq
  have hsend : r.Sendable := ⟨ha, hq⟩
  obtain ⟨hlen, h64⟩ := hsend.declaredLength
  obtain ⟨hcomplete, hbegin⟩ := replyProgress_of_declared hlen h64
  have hne : (replyFrame r).isEmpty = false := by rw [replyFrame_eq]; rfl
  have hcrc : replyCrcAgrees (replyFrame r) = true := by
    rw [replyFrame_eq, replyCrcAgrees_iff _ rfl]
  have hclass : ∀ m, classify m (replyFrame r) = if r.source.toNat ≠ m then .miss else .good r := fun m => by
    simp [classify, hne, hcomplete, hsend.blocksAgree, hcrc, hsend.parseReply]
  refine ⟨?_, hcomplete, ?_, fun m hm => ?_⟩
  · have hfirst := replyFrame_eq r
    rw [hfirst] at hbegin ⊢
    exact foldl_receiveReplyByte (p := [0x3A#8]) (by simp) hbegin
  · rw [hclass, if_neg (not_not_intro hn)]
  · rw [hclass, if_pos (hn ▸ hm.symm)]

end Sys2Proof.Machine
end

section
/-! The rows that the decoder takes, by kind, the refusals that stand before their own tests (R156), and the rows that are not due. -/

namespace Sys2Proof.Machine

/-! ### The lengths of the payloads -/

section lengths

variable (p : List Byte)

theorem noPayload_isSome : (noPayload p).isSome = decide (p.length = 0) := by
  cases p <;> rfl

theorem bytePayload_isSome : (bytePayload p).isSome = decide (p.length = 1) := by
  match p with
  | [] | [_] | _ :: _ :: _ => simp [bytePayload]

theorem pairPayload_isSome : (pairPayload p).isSome = decide (p.length = 2) := by
  match p with
  | [] | [_] | [_, _] | _ :: _ :: _ :: _ => simp [pairPayload]

theorem wordPayload_isSome : (wordPayload p).isSome = decide (p.length = 2) := by
  match p with
  | [] | [_] | [_, _] | _ :: _ :: _ :: _ => simp [wordPayload]

theorem handlePayload_isSome : (handlePayload p).isSome = decide (p.length = 2) := by
  match p with
  | [] | [_] | [_, _] | _ :: _ :: _ :: _ => simp [handlePayload]

theorem tagPayload_isSome : (tagPayload p).isSome = decide (p.length = 3) := by
  match p with
  | [] | [_] | [_, _] | [_, _, _] | _ :: _ :: _ :: _ :: _ => simp [tagPayload]

theorem retirePayload_isSome : (retirePayload p).isSome = decide (p.length = 3) := by
  match p with
  | [] | [_] | [_, _] | [_, _, _] | _ :: _ :: _ :: _ :: _ => simp [retirePayload]

theorem openPayload_isSome : (openPayload p).isSome = decide (p.length = 4) := by
  match p with
  | [] | [_] | [_, _] | [_, _, _] | [_, _, _, _] | _ :: _ :: _ :: _ :: _ :: _ => simp [openPayload]

theorem limitsPayload_isSome : (limitsPayload p).isSome = decide (p.length = 5) := by
  match p with
  | [] | [_] | [_, _] | [_, _, _] | [_, _, _, _] | [_, _, _, _, _] | _ :: _ :: _ :: _ :: _ :: _ :: _ => simp [limitsPayload]

theorem acquirePayload_isSome : (acquirePayload p).isSome = decide (p.length = 5) := by
  match p with
  | [] | [_] | [_, _] | [_, _, _] | [_, _, _, _] | [_, _, _, _, _] | _ :: _ :: _ :: _ :: _ :: _ :: _ => simp [acquirePayload]

theorem definePayload_isSome : (definePayload p).isSome = decide (p.length = 6) := by
  match p with
  | [] | [_] | [_, _] | [_, _, _] | [_, _, _, _] | [_, _, _, _, _] | [_, _, _, _, _, _]
  | _ :: _ :: _ :: _ :: _ :: _ :: _ :: _ => simp [definePayload]

theorem findPayload_isSome : (findPayload p).isSome = decide (p.length = 8) := by
  match p with
  | [] | [_] | [_, _] | [_, _, _] | [_, _, _, _] | [_, _, _, _, _] | [_, _, _, _, _, _] | [_, _, _, _, _, _, _]
  | [_, _, _, _, _, _, _, _] | _ :: _ :: _ :: _ :: _ :: _ :: _ :: _ :: _ :: _ => simp [findPayload]

theorem notePayload_isSome : (notePayload p).isSome = (decide (3 ≤ p.length) && decide (p.length ≤ 11)) := by
  match p with
  | [] | [_] | [_, _] => simp [notePayload]
  | _ :: _ :: _ :: bytes =>
    rw [notePayload, apply_ite Option.isSome, Option.isSome_some, Option.isSome_none]
    simp only [List.length_cons, ← Bool.decide_and]
    split <;> simp <;> omega

theorem setMembersOf_isSome (n : Nat) : (setMembersOf n p).isSome = decide (p.length = 2 + 3 * n) := by
  induction n generalizing p with
  | zero =>
    match p with
    | [] | [_] | [_, _] | _ :: _ :: _ :: _ => simp [setMembersOf]
  | succ n ih =>
    match p with
    | [] | [_] | [_, _] =>
      simp only [setMembersOf, Option.isSome_none, List.length_cons, List.length_nil, Bool.false_eq, decide_eq_false_iff_not]
      omega
    | _ :: _ :: _ :: rest =>
      rw [setMembersOf, Option.isSome_map, ih]
      simp only [List.length_cons, decide_eq_decide]
      omega

theorem setPayload_isSome : (setPayload p).isSome = lengthSuits 0x31#8 p := by
  cases p with
  | nil => rfl
  | cons n rest =>
    rw [setPayload, setMembersOf_isSome]
    show _ = decide (rest.length + 1 = 3 + 3 * n.toNat)
    rw [decide_eq_decide]
    omega

end lengths

/-! ### The kinds of rows -/

/-- The row of a command, by its kind: how it is taken, and that its payload is read exactly when its length suits the code (R94, R95,
R156). -/
inductive CommandRow (i : Instr) (o : Origin) (rid code : Byte) (payload : List Byte) : Prop where
  | requester {α : Type} (fields : Option α) (effect : ReqSlot → α → Effect) :
      (∀ s, exec i s = takeCommand o rid code payload true (requesterEffect o rid fields (refusalPayload code) effect) s) →
      fields.isSome = lengthSuits code payload → code ∈ requesterCodes → code ∉ adminCodes → CommandRow i o rid code payload
  | admin {α : Type} (fields : Option α) (effect : α → Effect) :
      (∀ s, exec i s = takeCommand o rid code payload false (adminEffect o fields effect) s) →
      fields.isSome = lengthSuits code payload → code ∈ adminCodes → code ∉ 0x10#8 :: requesterCodes → refusalPayload code = [] →
      CommandRow i o rid code payload
  | plain {α : Type} (fields : Option α) (effect : α → Effect) :
      (∀ s, exec i s = takeCommand o rid code payload (decide (code ∈ 0x10#8 :: requesterCodes)) (plainEffect fields effect) s) →
      fields.isSome = lengthSuits code payload → code ∉ adminCodes → code ∉ requesterCodes → refusalPayload code = [] →
      CommandRow i o rid code payload

/-- Every row whose code names a command is of one of the three kinds. -/
theorem commandRow_of_fields {i : Instr} {o : Origin} {rid code : Byte} {payload : List Byte} (hw : i.wellFormed = true)
    (hf : i.fields = some (o, rid, code, payload)) (hc : isCommandCode o code = true) : CommandRow i o rid code payload := by
  cases i with
  | openRequester o rid p => cases hf; exact .plain _ _ (fun _ => rfl) (openPayload_isSome payload) (by decide) (by decide) rfl
  | closeRequester o rid p => cases hf; exact .requester _ _ (fun _ => rfl) (noPayload_isSome payload) (by decide) (by decide)
  | renew o rid p => cases hf; exact .requester _ _ (fun _ => rfl) (noPayload_isSome payload) (by decide) (by decide)
  | setBudget o rid p => cases hf; exact .requester _ _ (fun _ => rfl) (bytePayload_isSome payload) (by decide) (by decide)
  | listMine o rid p => cases hf; exact .requester _ _ (fun _ => rfl) (wordPayload_isSome payload) (by decide) (by decide)
  | fetchNotice o rid p =>
    cases hf
    cases o with
    | node n => cases hc
    | portA => exact .requester _ _ (fun _ => rfl) (noPayload_isSome payload) (by decide) (by decide)
    | portB => exact .requester _ _ (fun _ => rfl) (noPayload_isSome payload) (by decide) (by decide)
  | define o rid p => cases hf; exact .admin _ _ (fun _ => rfl) (definePayload_isSome payload) (by decide) (by decide) rfl
  | retire o rid p => cases hf; exact .admin _ _ (fun _ => rfl) (retirePayload_isSome payload) (by decide) (by decide) rfl
  | setLimits o rid p => cases hf; exact .admin _ _ (fun _ => rfl) (limitsPayload_isSome payload) (by decide) (by decide) rfl
  | lookup o rid p => cases hf; exact .plain _ _ (fun _ => rfl) (tagPayload_isSome payload) (by decide) (by decide) rfl
  | find o rid p => cases hf; exact .plain _ _ (fun _ => rfl) (findPayload_isSome payload) (by decide) (by decide) rfl
  | readEntry o rid p => cases hf; exact .plain _ _ (fun _ => rfl) (handlePayload_isSome payload) (by decide) (by decide) rfl
  | writeNote o rid p => cases hf; exact .requester _ _ (fun _ => rfl) (notePayload_isSome payload) (by decide) (by decide)
  | acquire o rid p => cases hf; exact .requester _ _ (fun _ => rfl) (acquirePayload_isSome payload) (by decide) (by decide)
  | acquireSet o rid p => cases hf; exact .requester _ _ (fun _ => rfl) (setPayload_isSome payload) (by decide) (by decide)
  | release o rid p => cases hf; exact .requester _ _ (fun _ => rfl) (handlePayload_isSome payload) (by decide) (by decide)
  | releaseAll o rid p => cases hf; exact .requester _ _ (fun _ => rfl) (noPayload_isSome payload) (by decide) (by decide)
  | cancel o rid p => cases hf; exact .requester _ _ (fun _ => rfl) (handlePayload_isSome payload) (by decide) (by decide)
  | upgrade o rid p => cases hf; exact .requester _ _ (fun _ => rfl) (handlePayload_isSome payload) (by decide) (by decide)
  | downgrade o rid p => cases hf; exact .requester _ _ (fun _ => rfl) (handlePayload_isSome payload) (by decide) (by decide)
  | evict o rid p => cases hf; exact .admin _ _ (fun _ => rfl) (pairPayload_isSome payload) (by decide) (by decide) rfl
  | purgeOrigin o rid p => cases hf; exact .admin _ _ (fun _ => rfl) (bytePayload_isSome payload) (by decide) (by decide) rfl
  | setPortRights o rid p => cases hf; exact .plain _ _ (fun _ => rfl) (bytePayload_isSome payload) (by decide) (by decide) rfl
  | setTimebase o rid p => cases hf; exact .admin _ _ (fun _ => rfl) (wordPayload_isSome payload) (by decide) (by decide) rfl
  | routeEvent o rid p => cases hf; exact .admin _ _ (fun _ => rfl) (pairPayload_isSome payload) (by decide) (by decide) rfl
  | readEvents o rid p => cases hf; exact .plain _ _ (fun _ => rfl) (noPayload_isSome payload) (by decide) (by decide) rfl
  | setPoolThreshold o rid p => cases hf; exact .admin _ _ (fun _ => rfl) (bytePayload_isSome payload) (by decide) (by decide) rfl
  | readPartStatus o rid p => cases hf; exact .plain _ _ (fun _ => rfl) (noPayload_isSome payload) (by decide) (by decide) rfl
  | rosterAdd o rid p => cases hf; exact .admin _ _ (fun _ => rfl) (bytePayload_isSome payload) (by decide) (by decide) rfl
  | rosterRemove o rid p => cases hf; exact .admin _ _ (fun _ => rfl) (bytePayload_isSome payload) (by decide) (by decide) rfl
  | readNode o rid p => cases hf; exact .plain _ _ (fun _ => rfl) (bytePayload_isSome payload) (by decide) (by decide) rfl
  | linkConfig o rid p => cases hf; exact .admin _ _ (fun _ => rfl) (pairPayload_isSome payload) (by decide) (by decide) rfl
  | unknownCommand o rid code p =>
    cases hf
    simp [Instr.wellFormed, hc] at hw
  | transferStart | commandFrameEnd | responseReadEnd | tick | waitLimitExpiry | setWaitLimitExpiry | holdLimitExpiry | tenureExpiry
    | nodeSelection | replyWindowOpen | exchangeEnd | replyWindowClose | replyIdleTimeout | linkDisable | bitTimeChange | nodeRemoval
    | reset | resetEnd | replyByteReceived => cases hf

/-! ### The refusals before a command's own tests -/

theorem dropHanded_restartTenureOf (s : State) (o : Origin) (rid : Byte) :
    (s.dropHanded o).restartTenureOf o rid = (s.restartTenureOf o rid).dropHanded o := by
  unfold State.restartTenureOf
  rw [show (s.dropHanded o).findReq o rid = s.findReq o rid from rfl]
  cases s.findReq o rid with
  | none => rfl
  | some r =>
    have hreq : (s.dropHanded o).req r = s.req r := rfl
    simp only [State.restartTenure, State.modifyReq, hreq]
    cases s.req r <;> rfl

@[simp] theorem State.restartTenureOf_freeRecords (s : State) (o : Origin) (rid : Byte) :
    (s.restartTenureOf o rid).freeRecords = s.freeRecords := by
  unfold State.restartTenureOf
  split
  · exact State.modifyReq_freeRecords ..
  · rfl

theorem State.restartTenureOf_none {s : State} {o : Origin} {rid : Byte} (h : s.findReq o rid = none) : s.restartTenureOf o rid = s := by
  rw [State.restartTenureOf, h]

/-- A command whose effect changes nothing answers a, and leaves only the tenure restart of the requester it names (R89). -/
theorem answers_unchanged {s : State} {i : Instr} {o : Origin} {rid code : Byte} {payload : List Byte} {h : Handed} {a : Answer}
    {names : Bool} {effect : Effect} (hs : s.stands o rid code payload = some h)
    (hi : exec i s = takeCommand o rid code payload names effect s)
    (he : effect ((if names then s.restartTenureOf o rid else s).dropHanded o) =
      ((if names then s.restartTenureOf o rid else s).dropHanded o, a)) :
    Answers i s (if names then s.restartTenureOf o rid else s) h a := by
  refine answers_of_effect_same (v := (if names then s.restartTenureOf o rid else s).dropHanded o) hi hs ?_ rfl ?_
  · cases names
    · exact he
    · rw [if_pos rfl, dropHanded_restartTenureOf]
      exact he
  · cases names
    · rfl
    · exact State.restartTenureOf_freeRecords s o rid

theorem Option.eq_none_of_isSome_eq_false {α : Type} {x : Option α} {b : Bool} (h : x.isSome = b) (hb : b = false) : x = none := by
  subst hb
  simpa using h

theorem Option.exists_of_isSome_eq_true {α : Type} {x : Option α} {b : Bool} (h : x.isSome = b) (hb : b = true) : ∃ f, x = some f := by
  subst hb
  exact Option.isSome_iff_exists.mp h

theorem CommandRow.badLength {i : Instr} {s : State} {o : Origin} {rid code : Byte} {payload : List Byte} {h : Handed}
    (hrow : CommandRow i o rid code payload) (hs : s.stands o rid code payload = some h) (hl : lengthSuits code payload = false) :
    Answers i s (if code ∈ 0x10#8 :: requesterCodes then s.restartTenureOf o rid else s) h ⟨.badLength, refusalPayload code⟩ := by
  cases hrow with
  | requester fields effect hexec hfields hreq hadm =>
    have hnone := Option.eq_none_of_isSome_eq_false hfields hl
    rw [if_pos (List.mem_cons_of_mem _ hreq)]
    exact answers_unchanged (names := true) hs (hexec s) (by simp only [requesterEffect, hnone])
  | admin fields effect hexec hfields hadm hreq hpay =>
    have hnone := Option.eq_none_of_isSome_eq_false hfields hl
    rw [if_neg hreq, hpay]
    exact answers_unchanged (names := false) hs (hexec s) (by simp only [adminEffect, hnone]; rfl)
  | plain fields effect hexec hfields hadm hreq hpay =>
    have hnone := Option.eq_none_of_isSome_eq_false hfields hl
    have := answers_unchanged (a := ⟨.badLength, []⟩) hs (hexec s) (by simp only [plainEffect, hnone]; rfl)
    rw [hpay]
    simpa only [decide_eq_true_eq] using this

theorem CommandRow.noRight {i : Instr} {s : State} {o : Origin} {rid code : Byte} {payload : List Byte} {h : Handed}
    (hrow : CommandRow i o rid code payload) (hs : s.stands o rid code payload = some h) (hl : lengthSuits code payload = true)
    (hcode : code ∈ adminCodes) (hno : s.admin o = false) : Answers i s s h ⟨.noRight, []⟩ := by
  cases hrow with
  | requester fields effect hexec hfields hreq hadm => exact absurd hcode hadm
  | admin fields effect hexec hfields hadm hreq hpay =>
    obtain ⟨f, hf⟩ := Option.exists_of_isSome_eq_true hfields hl
    exact answers_noRight hs hno (hexec s) hf
  | plain fields effect hexec hfields hadm hreq hpay => exact absurd hcode hadm

theorem CommandRow.notOpen {i : Instr} {s : State} {o : Origin} {rid code : Byte} {payload : List Byte} {h : Handed}
    (hrow : CommandRow i o rid code payload) (hs : s.stands o rid code payload = some h) (hl : lengthSuits code payload = true)
    (hcode : code ∈ requesterCodes) (hno : s.findReq o rid = none) : Answers i s s h ⟨.notOpen, refusalPayload code⟩ := by
  cases hrow with
  | requester fields effect hexec hfields hreq hadm =>
    obtain ⟨f, hf⟩ := Option.exists_of_isSome_eq_true hfields hl
    have hnone : (s.dropHanded o).findReq o rid = none := hno
    have := answers_unchanged (names := true) (a := ⟨.notOpen, refusalPayload code⟩) hs (hexec s)
      (by simp only [requesterEffect, hf, if_true, State.restartTenureOf_none hno, hnone])
    rwa [if_pos rfl, State.restartTenureOf_none hno] at this
  | admin fields effect hexec hfields hadm hreq hpay => exact absurd (List.mem_cons_of_mem _ hcode) hreq
  | plain fields effect hexec hfields hadm hreq hpay => exact absurd hcode hreq

theorem exec_unknownCommand {s : State} {o : Origin} {rid code : Byte} {payload : List Byte} (hc : isCommandCode o code = false) :
    exec (.unknownCommand o rid code payload) s = takeCommand o rid code payload true (refuse .badCommand) s :=
  if_neg (by simp [hc])

/-- Settles O8: by the kind of the command's row. -/
theorem commonRefusals : Obligations.CommonRefusals := by
  refine ⟨fun s i o rid code payload h hw hf hc hs => ?_, fun s o rid code payload h hc hs => ?_⟩
  · have hrow := commandRow_of_fields hw hf hc
    exact ⟨hrow.badLength hs, hrow.noRight hs, hrow.notOpen hs⟩
  · have hbad := answers_unchanged (names := true) (a := ⟨.badCommand, []⟩) hs (exec_unknownCommand (rid := rid) hc) rfl
    rw [if_pos rfl] at hbad
    refine ⟨fun r q hr hq => ?_, fun hnone => ?_⟩
    · rwa [State.restartTenureOf_eq hr hq] at hbad
    · rwa [State.restartTenureOf_none hnone] at hbad

end Sys2Proof.Machine
end

section
/-! The rows that are not due change nothing: those of the decoder, of the deadline unit, of the ports and of the node link (R79, R133,
R141, R142, R152, R154). -/

namespace Sys2Proof.Machine

/-! ### Commands -/

theorem takeCommand_of_not_standing {s : State} {o : Origin} {rid code : Byte} {payload : List Byte}
    (h : s.stands o rid code payload = none) (names : Bool) (effect : Effect) :
    takeCommand o rid code payload names effect s = .next s := by
  simp only [takeCommand, h]

theorem CommandRow.not_due {i : Instr} {s : State} {o : Origin} {rid code : Byte} {payload : List Byte}
    (hrow : CommandRow i o rid code payload) (h : s.stands o rid code payload = none) : exec i s = .next s := by
  cases hrow with
  | requester fields effect hexec => exact (hexec s).trans (takeCommand_of_not_standing h _ _)
  | admin fields effect hexec => exact (hexec s).trans (takeCommand_of_not_standing h _ _)
  | plain fields effect hexec => exact (hexec s).trans (takeCommand_of_not_standing h _ _)

/-- The row of a code that names no command is UNKNOWN_COMMAND. -/
theorem eq_unknownCommand {i : Instr} {o : Origin} {rid code : Byte} {payload : List Byte} (hw : i.wellFormed = true)
    (hf : i.fields = some (o, rid, code, payload)) (hc : isCommandCode o code = false) : i = .unknownCommand o rid code payload :=
  (decodeCommand_of_fields i hw o rid code payload hf).symm.trans (Laws.CommandDecoding.decodeCommand_of_unknown hc rid payload)

theorem exec_of_not_standing {i : Instr} {s : State} {o : Origin} {rid code : Byte} {payload : List Byte} (hw : i.wellFormed = true)
    (hf : i.fields = some (o, rid, code, payload)) (h : s.stands o rid code payload = none) : exec i s = .next s := by
  by_cases hc : isCommandCode o code = true
  · exact (commandRow_of_fields hw hf hc).not_due h
  · rw [Bool.not_eq_true] at hc
    rw [eq_unknownCommand hw hf hc, exec_unknownCommand hc]
    exact takeCommand_of_not_standing h _ _

/-! ### Expiries -/

theorem bind_eq_none_or {s : State} {e : EntrySlot} (f : Entry → Option Claim) :
    (s.entry e).bind f = none ∨ ∃ en c, s.entry e = some en ∧ f en = some c ∧ (s.entry e).bind f = some c := by
  cases hen : s.entry e with
  | none => exact .inl rfl
  | some en =>
    cases hc : f en with
    | none => exact .inl hc
    | some c => exact .inr ⟨en, c, rfl, hc, hc⟩

theorem exec_waitExpiry_of_running {s : State} {r : ReqSlot} {e : EntrySlot}
    (h : ∀ en c, s.entry e = some en → en.wait r = some c → c.deadline ≠ some 0) :
    exec (.waitLimitExpiry r e) s = .next s ∧ exec (.setWaitLimitExpiry r e) s = .next s := by
  simp only [exec, execWaitLimitExpiry, execSetWaitLimitExpiry]
  obtain hnone | ⟨en, c, hen, hc, hbind⟩ := bind_eq_none_or (s := s) (e := e) fun en => en.wait r
  · simp only [hnone, and_self]
  · have hrunning := h en c hen hc
    simp only [hbind, hrunning, and_false, if_false, true_and]
    cases c.setId <;> rfl

theorem exec_holdLimitExpiry_of_running {s : State} {r : ReqSlot} {e : EntrySlot}
    (h : ∀ en c, s.entry e = some en → en.hold r = some c → c.deadline ≠ some 0) : exec (.holdLimitExpiry r e) s = .next s := by
  simp only [exec, execHoldLimitExpiry]
  obtain hnone | ⟨en, c, hen, hc, hbind⟩ := bind_eq_none_or (s := s) (e := e) fun en => en.hold r
  · simp only [hnone]
  · have hrunning := h en c hen hc
    simp only [hbind, hrunning, if_false]

theorem exec_tenureExpiry_of_running {s : State} {r : ReqSlot} (h : ∀ q, s.req r = some q → q.tenureLeft ≠ some 0) :
    exec (.tenureExpiry r) s = .next s := by
  simp only [exec, execTenureExpiry]
  cases hq : s.req r with
  | none => rfl
  | some q => exact if_neg (h q hq)

/-! ### Ports -/

theorem exec_transferStart_of_running {s : State} {p : PortId}
    (h : (s.port p).transfer = some .commandFrame ∨ (s.port p).transfer = some .responseRead) :
    exec (.transferStart p) s = .next s := by
  obtain h | h := h <;> simp [exec, execTransferStart, Port.selMayFall, h]

theorem exec_commandFrameEnd_of_other {s : State} {p : PortId}
    (h : (s.port p).transfer = none ∨ (s.port p).transfer = some .responseRead) (bytes : List Byte) (b : Bool) :
    exec (.commandFrameEnd p bytes b) s = .next s := by
  obtain h | h := h <;> simp [exec, execCommandFrameEnd, h]

theorem exec_responseReadEnd_of_other {s : State} {p : PortId}
    (h : (s.port p).transfer = none ∨ (s.port p).transfer = some .commandFrame) (n : Nat) :
    exec (.responseReadEnd p n) s = .next s := by
  obtain h | h := h <;> simp [exec, execResponseReadEnd, h]

/-! ### The node link, by the phase of the exchange -/

section link

variable {s : State} {x : Exchange}

theorem exec_window_of_none (h : s.link.exchange = none) (b : Byte) :
    exec .replyWindowOpen s = .next s ∧ exec (.replyByteReceived b) s = .next s ∧ exec .exchangeEnd s = .next s ∧
      exec .replyWindowClose s = .next s ∧ exec .replyIdleTimeout s = .next s := by
  simp only [exec, execReplyWindowOpen, execReplyByteReceived, execExchangeEnd, execReplyWindowClose, execReplyIdleTimeout, h, and_self]

theorem exec_window_of_not_window (h : s.link.exchange = some x) (hp : ∀ reply, x.phase ≠ .window reply) (b : Byte) :
    exec (.replyByteReceived b) s = .next s ∧ exec .exchangeEnd s = .next s ∧ exec .replyWindowClose s = .next s ∧
      exec .replyIdleTimeout s = .next s := by
  simp only [exec, execReplyByteReceived, execExchangeEnd, execReplyWindowClose, execReplyIdleTimeout, h]
  cases hphase : x.phase with
  | window reply => exact absurd hphase (hp reply)
  | polling => exact ⟨rfl, rfl, rfl, rfl⟩
  | ending => exact ⟨rfl, rfl, rfl, rfl⟩

theorem exec_replyWindowOpen_of_not_polling (h : ∀ x, s.link.exchange = some x → x.phase ≠ .polling) :
    exec .replyWindowOpen s = .next s := by
  cases hx : s.link.exchange with
  | none => exact (exec_window_of_none hx 0).1
  | some x =>
    simp only [exec, execReplyWindowOpen, hx]
    cases hp : x.phase with
    | polling => exact absurd hp (h x hx)
    | window reply => rfl
    | ending => rfl

/-- The reply window in which an exchange is (R141). -/
def State.inWindow (s : State) (reply : List Byte) : Prop := ∃ x, s.link.exchange = some x ∧ x.phase = .window reply

theorem State.window_cases (s : State) : (∃ reply, s.inWindow reply) ∨ s.link.exchange = none ∨
    ∃ x, s.link.exchange = some x ∧ ∀ reply, x.phase ≠ .window reply := by
  cases hx : s.link.exchange with
  | none => exact .inr (.inl rfl)
  | some x =>
    by_cases hp : ∃ reply, x.phase = .window reply
    · obtain ⟨reply, hp⟩ := hp
      exact .inl ⟨reply, x, hx, hp⟩
    · exact .inr (.inr ⟨x, rfl, fun reply h => hp ⟨reply, h⟩⟩)

/-- A row of the reply window is not due outside it, nor inside it where its own condition fails. -/
theorem not_due_of_window {P : Prop} (hnone : s.link.exchange = none → P)
    (hother : ∀ x, s.link.exchange = some x → (∀ reply, x.phase ≠ .window reply) → P)
    (hin : ∀ reply x, s.link.exchange = some x → x.phase = .window reply → P) : P := by
  obtain ⟨reply, x, hx, hp⟩ | hx | ⟨x, hx, hp⟩ := s.window_cases
  · exact hin reply x hx hp
  · exact hnone hx
  · exact hother x hx hp

theorem exec_replyByteReceived_of_outside (h : ∀ reply, ¬ s.inWindow reply) (b : Byte) : exec (.replyByteReceived b) s = .next s :=
  not_due_of_window (fun hx => (exec_window_of_none hx b).2.1) (fun _ hx hp => (exec_window_of_not_window hx hp b).1)
    fun reply x hx hp => absurd ⟨x, hx, hp⟩ (h reply)

theorem exec_exchangeEnd_of_unfinished (h : ∀ reply, s.inWindow reply → reply = [] ∨ replyProgress reply = .incomplete) :
    exec .exchangeEnd s = .next s :=
  not_due_of_window (fun hx => (exec_window_of_none hx 0).2.2.1) (fun _ hx hp => (exec_window_of_not_window hx hp 0).2.1)
    fun reply x hx hp => by
      have hcond : reply.isEmpty = true ∨ replyProgress reply = .incomplete := by simpa using h reply ⟨x, hx, hp⟩
      simp only [exec, execExchangeEnd, hx, hp, if_pos hcond]

theorem exec_replyWindowClose_of_begun (h : ∀ reply, s.inWindow reply → reply ≠ []) : exec .replyWindowClose s = .next s :=
  not_due_of_window (fun hx => (exec_window_of_none hx 0).2.2.2.1) (fun _ hx hp => (exec_window_of_not_window hx hp 0).2.2.1)
    fun reply x hx hp => by
      have hcond : ¬ reply.isEmpty = true := by simpa using h reply ⟨x, hx, hp⟩
      simp only [exec, execReplyWindowClose, hx, hp, if_neg hcond]

theorem exec_replyIdleTimeout_of_ended (h : ∀ reply, s.inWindow reply → reply = [] ∨ replyProgress reply ≠ .incomplete) :
    exec .replyIdleTimeout s = .next s :=
  not_due_of_window (fun hx => (exec_window_of_none hx 0).2.2.2.2) (fun _ hx hp => (exec_window_of_not_window hx hp 0).2.2.2)
    fun reply x hx hp => by
      have hcond : ¬ (reply.isEmpty = false ∧ replyProgress reply = .incomplete) := fun ⟨hne, hinc⟩ => by
        obtain hnil | hend := h reply ⟨x, hx, hp⟩
        · simp [hnil] at hne
        · exact hend hinc
      simp only [exec, execReplyIdleTimeout, hx, hp, if_neg hcond]

theorem exec_nodeSelection_of_waiting (h : s.link.exchange ≠ none ∨ s.link.pollWait = true ∨ s.link.responseWait ≠ []) :
    exec .nodeSelection s = .next s := by
  simp only [exec, execNodeSelection]
  cases hx : s.link.exchange with
  | some x => rfl
  | none => exact if_pos (h.resolve_left (not_not_intro hx))

/-- The node that is LEAVING at the end of its exchange (R138). -/
theorem State.leavingAtEnd_eq_some_iff {a : Nat} : s.leavingAtEnd = some a ↔
    ∃ x, s.link.exchange = some x ∧ x.phase = .ending ∧ x.node = a ∧ ∃ n, s.node a = some n ∧ n.state = .leaving := by
  constructor
  · intro h
    obtain ⟨x, hx, hp, rfl⟩ := State.leavingAtEnd_eq_some h
    refine ⟨x, hx, hp, rfl, ?_⟩
    simp only [State.leavingAtEnd, hx, hp, if_true] at h
    cases hn : s.node x.node with
    | none => simp [hn] at h
    | some n => exact ⟨n, rfl, by by_contra hl; simp [hn, hl] at h⟩
  · rintro ⟨x, hx, hp, rfl, n, hn, hl⟩
    simp [State.leavingAtEnd, hx, hp, hn, hl]

theorem State.ending_iff : s.ending = true ↔ ∃ x, s.link.exchange = some x ∧ x.phase = .ending := by
  unfold State.ending
  cases s.link.exchange <;> simp

/-- A claim deferred to the end of the exchange is not taken before that end, before a removal, or when there is none. -/
theorem State.not_takenAtEnd {claim : Bool}
    (h : ¬ (∃ x, s.link.exchange = some x ∧ x.phase = .ending) ∨
      (∃ x, s.link.exchange = some x ∧ ∃ n, s.node x.node = some n ∧ n.state = .leaving) ∨ claim = false) :
    ¬ (s.ending = true ∧ s.leavingAtEnd = none ∧ claim = true) := fun ⟨hending, hnone, hclaim⟩ => by
  obtain hno | ⟨x, hx, n, hn, hl⟩ | hoff := h
  · exact hno (State.ending_iff.mp hending)
  · have hsome := State.leavingAtEnd_eq_some_iff.mpr ⟨x, hx, State.ending_phase hending x hx, rfl, n, hn, hl⟩
    rw [hnone] at hsome
    cases hsome
  · rw [hoff] at hclaim
    cases hclaim

end link

/-- Settles O9: row by row, the condition under which it is due fails. -/
theorem rowsNotDueChangeNothing : Obligations.RowsNotDueChangeNothing := by
  refine ⟨fun s i o rid code payload hw hf h => exec_of_not_standing hw hf h,
    fun s r e => ⟨exec_waitExpiry_of_running, exec_holdLimitExpiry_of_running, exec_tenureExpiry_of_running⟩,
    fun s p bytes b n => ⟨exec_transferStart_of_running, fun h => exec_commandFrameEnd_of_other h bytes b,
      fun h => exec_responseReadEnd_of_other h n⟩,
    fun s b => ⟨exec_replyWindowOpen_of_not_polling, fun h => exec_replyByteReceived_of_outside h b, exec_exchangeEnd_of_unfinished,
      exec_replyWindowClose_of_begun, exec_replyIdleTimeout_of_ended, exec_nodeSelection_of_waiting, fun h => ?_, fun h => ?_,
      fun h => ?_⟩⟩
  · have hnone : s.leavingAtEnd = none := by
      by_contra hsome
      obtain ⟨a, ha⟩ := Option.ne_none_iff_exists'.mp hsome
      obtain ⟨x, hx, hp, rfl, n, hn, hl⟩ := State.leavingAtEnd_eq_some_iff.mp ha
      exact h ⟨⟨x, hx, hp⟩, x, hx, n, hn, hl⟩
    simp only [exec, execNodeRemoval, hnone]
  · exact if_neg (State.not_takenAtEnd h)
  · exact if_neg (State.not_takenAtEnd h)

end Sys2Proof.Machine
end

section
/-! The tick, the part events, the time base and the reply window (R76, R78, R124, R127, R129, R133, R141). -/

namespace Sys2Proof.Machine

/-! ### The tick -/

theorem State.mapEntries_getElem (s : State) (f : EntrySlot → Entry → Entry) (e : Nat) (he : e < 256) :
    (s.mapEntries f)[e] = ⟨s.generation ⟨e, he⟩, (s.entry ⟨e, he⟩).map (f ⟨e, he⟩)⟩ := by
  simp [State.mapEntries]

theorem State.lowerAll_slots (s : State) : s.lowerAll.slots = s.mapEntries fun _ en => en.tick := by
  apply Vector.ext
  intro e he
  rw [State.mapEntries_getElem]
  simp [State.lowerAll, State.generation, State.entry]

theorem State.lowerAll_requesters (s : State) : s.lowerAll.requesters =
    Vector.ofFn fun r : ReqSlot => (s.req r).map fun q => { q with tenureLeft := lowered q.tenureLeft } := by
  apply Vector.ext
  intro r hr
  simp [State.lowerAll, State.req]

/-- Settles O33: outside reset every countdown is lowered. -/
theorem tickLowersCountdowns : Obligations.TickLowersCountdowns := by
  refine fun s => ⟨fun h => congrArg Host.Outcome.next (if_pos h), fun h => ?_⟩
  have hlower : s.lowerAll = { s with clkCount := 0, slots := s.lowerAll.slots, requesters := s.lowerAll.requesters } := rfl
  refine (congrArg Host.Outcome.next (if_neg (by simp [h]))).trans ?_
  rw [hlower, State.lowerAll_slots, State.lowerAll_requesters]
  rfl

/-! ### Part events -/

theorem getElem_raisedIn (set : Vector Bool 7) (ev : PartEvent) (named : Bool) (n : Fin 7) :
    (raisedIn set ev named)[n.val] = (set[n.val] || (decide (n = ev.index) && named)) := by
  cases named with
  | false => simp [raisedIn]
  | true =>
    by_cases h : n = ev.index
    · subst h
      simp [raisedIn]
    · have hval : ev.index.val ≠ n.val := fun hv => h (Fin.ext hv.symm)
      simp [raisedIn, h, hval]

theorem Route.names_a (route : Route) : route.names .a = (decide (route = .a) || decide (route = .both)) := by
  cases route <;> rfl

theorem Route.names_b (route : Route) : route.names .b = (decide (route = .b) || decide (route = .both)) := by
  cases route <;> rfl

theorem decide_eq_and_congr {n m : Fin 7} {f : Fin 7 → Bool} : (decide (n = m) && f m) = (decide (n = m) && f n) := by
  by_cases h : n = m
  · rw [h]
  · simp [h]

/-- Settles O40: the raise by the event's own index, and the report of the pool by its cases. -/
theorem eventsRaised : Obligations.EventsRaised := by
  refine ⟨fun s d => ⟨fun n => ?_, fun n => ?_, fun n => ?_, rfl⟩, fun s before => ⟨fun h => ?_, fun h hlt hp => ?_, fun h hlt hp => ?_,
    fun h hle => ?_⟩⟩
  · by_cases h : n = d.event.index
    · subst h
      simp [State.raise]
    · have hval : d.event.index.val ≠ n.val := fun hv => h (Fin.ext hv.symm)
      simp [State.raise, h, hval]
  · simp only [State.raise, getElem_raisedIn, Route.names_a]
    rw [decide_eq_and_congr (f := fun i => decide (s.routes[i.val] = .a) || decide (s.routes[i.val] = .both))]
  · simp only [State.raise, getElem_raisedIn, Route.names_b]
    rw [decide_eq_and_congr (f := fun i => decide (s.routes[i.val] = .b) || decide (s.routes[i.val] = .both))]
  · rw [State.reportPool, if_pos h]
  · rw [State.reportPool, if_neg h, if_pos hlt, hp]
  · rw [State.reportPool, if_neg h, if_pos hlt, hp]
  · rw [State.reportPool, if_neg h, if_neg (Nat.not_lt.mpr hle)]

/-- The answer of READ_EVENTS, with the details as an optional list of bytes (R127). -/
theorem State.eventsAnswer_eq (s : State) (p : PortId) : s.eventsAnswer p =
    [byteOf (((List.finRange 7).map fun n => if (s.events p)[n.val] then 2 ^ n.val else 0).sum)] ++
      (List.finRange 7).flatMap fun n => if (s.events p)[n.val] then ((s.details[n.val]).map Detail.bytes).getD [] else [] := by
  refine congrArg (_ :: ·) (congrArg (fun f => List.flatMap f (List.finRange 7)) (funext fun i => ?_))
  refine congrArg (fun l => if (s.events p)[i.val] then l else []) ?_
  cases s.details[i.val] <;> rfl

/-- Settles O41: by the origin of the command. -/
theorem eventsReadAndCleared : Obligations.EventsReadAndCleared := by
  intro s o rid h hs
  have hanswer : ∀ {u : State} {a : Answer}, readEventsEffect o () (s.dropHanded o) = (u.dropHanded o, a) →
      u.freeRecords = s.freeRecords → Answers (.readEvents o rid []) s u h a := fun he hfree =>
    answers_of_effect_same (names := false) (effect := plainEffect (noPayload []) (readEventsEffect o)) rfl hs he rfl hfree
  refine ⟨fun ho => ?_, fun ho => ?_, fun n ho => ?_⟩
  · subst ho
    exact hanswer (congrArg (fun l => (_, (⟨.ok, l⟩ : Answer))) (State.eventsAnswer_eq (s.dropHanded .portA) .a)) rfl
  · subst ho
    exact hanswer (congrArg (fun l => (_, (⟨.ok, l⟩ : Answer))) (State.eventsAnswer_eq (s.dropHanded .portB) .b)) rfl
  · subst ho
    exact hanswer rfl rfl

/-! ### The time base -/

/-- The bit time is the divider value divided by the rate, to within half a cycle (R133). -/
theorem bitTimeOf_near (divider : Nat) (rate : LinkRate) :
    2 * divider ≤ (2 * bitTimeOf divider rate + 1) * rate.kbits ∧
      2 * bitTimeOf divider rate * rate.kbits ≤ 2 * divider + rate.kbits := by
  have hdiv := Nat.div_add_mod divider rate.kbits
  have hmod : divider % rate.kbits < rate.kbits := Nat.mod_lt _ (by cases rate <;> decide)
  unfold bitTimeOf
  generalize divider / rate.kbits = q at *
  generalize divider % rate.kbits = rest at *
  generalize rate.kbits = k at *
  dsimp only
  split
  · constructor <;> nlinarith
  · split
    · constructor <;> nlinarith
    · split <;> constructor <;> nlinarith

theorem setTimebaseEffect_of_bad {n : Nat} (h : n < 4000 ∨ 40000 < n) (s : State) : setTimebaseEffect n s = refuse .badValue s :=
  if_pos h

theorem setTimebaseEffect_of_good {n : Nat} (h4 : 4000 ≤ n) (h40 : n ≤ 40000) (s : State) : setTimebaseEffect n s =
    ({ s with
        divider := n
        clkCount := 0
        link :=
          if s.link.exchange = none then { s.link with bitTime := bitTimeOf n s.link.rate }
          else { s.link with bitTimePending := true } }, ⟨.ok, []⟩) := by
  rw [setTimebaseEffect, if_neg (by omega)]
  simp only [changeOk, State.deriveBitTime]
  cases hx : s.link.exchange with
  | none => rw [if_pos rfl]
  | some x => rw [if_neg (by simp)]

/-- Settles O38: the divider value in range or not, and the arithmetic of the quotient. -/
theorem timebaseAndBitTime : Obligations.TimebaseAndBitTime := by
  refine ⟨fun s o rid hi lo h hs hadmin => ⟨fun hbad => ?_, fun h4 h40 => ?_⟩, bitTimeOf_near⟩
  · exact answers_admin_same hs hadmin rfl rfl (setTimebaseEffect_of_bad hbad _) rfl
  · exact answers_admin_same hs hadmin rfl rfl (setTimebaseEffect_of_good h4 h40 _) rfl

/-! ### The reply window -/

/-- Settles O47: by the phase of the exchange. -/
theorem replyWindowReceives : Obligations.ReplyWindowReceives := by
  refine fun s b => ⟨fun hx => (exec_window_of_none hx b).2.1, fun x hx => ⟨fun hp => ⟨?_, ?_⟩, fun hp => ?_, fun reply hp hne =>
    ⟨fun hinc => ?_, fun hend => ?_⟩, fun hp => ?_⟩⟩
  · simp only [exec, execReplyWindowOpen, hx, hp]
    rfl
  · exact (exec_window_of_not_window hx (by simp [hp]) b).1
  · simp only [exec, execReplyByteReceived, hx, hp, State.setPhase, receiveReplyByte]
    rfl
  · have hb : receiveReplyByte reply b = reply ++ [b] := by
      rw [receiveReplyByte, if_neg (by simpa using hne), if_pos hinc]
    simp only [exec, execReplyByteReceived, hx, hp, State.setPhase, hb]
  · have hb : receiveReplyByte reply b = reply := by
      rw [receiveReplyByte, if_neg (by simpa using hne), if_neg hend]
    simp only [exec, execReplyByteReceived, hx, hp, State.setPhase, hb]
    rw [← hp, ← hx]
  · exact (exec_window_of_not_window hx (by simp [hp]) b).1

end Sys2Proof.Machine
end

section
/-! A command leaves the decoder before it has its effect (R154): the operations on the claims, the requesters and the notices read
nothing of the decoder, so that the effect is the same with the command still standing there. -/

namespace Sys2Proof.Machine

section commute

variable (s : State) (o : Origin)

/-- An operation that is the same before and after the command leaves the decoder, done for each element of a list. -/
theorem foldl_dropHanded {α : Type} {f : State → α → State} (h : ∀ s a, f (s.dropHanded o) a = (f s a).dropHanded o) (l : List α) :
    l.foldl f (s.dropHanded o) = (l.foldl f s).dropHanded o := by
  induction l generalizing s with
  | nil => rfl
  | cons a l ih => rw [List.foldl_cons, List.foldl_cons, h, ih]

/-! ### Slots and requesters -/

theorem modifyEntry_dropHanded (e : EntrySlot) (f : Entry → Entry) :
    (s.dropHanded o).modifyEntry e f = (s.modifyEntry e f).dropHanded o := by
  have hentry : (s.dropHanded o).entry e = s.entry e := rfl
  unfold State.modifyEntry
  rw [hentry]
  cases s.entry e <;> rfl

theorem modifyReq_dropHanded (r : ReqSlot) (f : Requester → Requester) :
    (s.dropHanded o).modifyReq r f = (s.modifyReq r f).dropHanded o := by
  have hreq : (s.dropHanded o).req r = s.req r := rfl
  unfold State.modifyReq
  rw [hreq]
  cases s.req r <;> rfl

theorem setReq_dropHanded (r : ReqSlot) (q : Option Requester) : (s.dropHanded o).setReq r q = (s.setReq r q).dropHanded o := rfl

theorem raise_dropHanded (d : Detail) : (s.dropHanded o).raise d = (s.raise d).dropHanded o := rfl

theorem addCounts_dropHanded (r : ReqSlot) (holds waits : Nat) :
    (s.dropHanded o).addCounts r holds waits = (s.addCounts r holds waits).dropHanded o :=
  modifyReq_dropHanded s o r _

theorem subCounts_dropHanded (r : ReqSlot) (holds waits : Nat) :
    (s.dropHanded o).subCounts r holds waits = (s.subCounts r holds waits).dropHanded o :=
  modifyReq_dropHanded s o r _

theorem recompute_dropHanded (e : EntrySlot) : (s.dropHanded o).recompute e = (s.recompute e).dropHanded o := by
  have hentry : (s.dropHanded o).entry e = s.entry e := rfl
  unfold State.recompute
  rw [hentry]
  cases s.entry e with
  | none => rfl
  | some en =>
    dsimp only
    split
    · split <;> rfl
    · rfl

theorem recomputeAll_dropHanded (es : List EntrySlot) : (s.dropHanded o).recomputeAll es = (s.recomputeAll es).dropHanded o :=
  foldl_dropHanded s o (fun s e => recompute_dropHanded s o e) es

/-! ### Notices -/

theorem queueNotice_dropHanded (r : ReqSlot) (e : EntrySlot) (body : NoticeBody) :
    (s.dropHanded o).queueNotice r e body = (s.queueNotice r e body).dropHanded o := by
  have hreq : (s.dropHanded o).req r = s.req r := rfl
  have hqueue : (s.dropHanded o).noticeQueue r = s.noticeQueue r := rfl
  unfold State.queueNotice
  rw [hreq, hqueue]
  cases s.req r with
  | none => rfl
  | some q =>
    dsimp only
    split <;> rfl

theorem noticeUnless_dropHanded (quiet : Bool) (r : ReqSlot) (e : EntrySlot) (body : NoticeBody) :
    (s.dropHanded o).noticeUnless quiet r e body = (s.noticeUnless quiet r e body).dropHanded o := by
  unfold State.noticeUnless
  split
  · rfl
  · exact queueNotice_dropHanded s o r e body

theorem discardNotices_dropHanded (r : ReqSlot) : (s.dropHanded o).discardNotices r = (s.discardNotices r).dropHanded o := by
  simp only [State.discardNotices, modifyReq_dropHanded]
  rfl

/-! ### Claim records -/

theorem grantNow_dropHanded (r : ReqSlot) (e : EntrySlot) (m : Mode) (id : Option Word16) :
    (s.dropHanded o).grantNow r e m id = (s.grantNow r e m id).dropHanded o := by
  simp only [State.grantNow, modifyEntry_dropHanded]
  rw [← recompute_dropHanded, ← addCounts_dropHanded]
  rfl

theorem enqueue_dropHanded (e : EntrySlot) (c : Claim) : (s.dropHanded o).enqueue e c = (s.enqueue e c).dropHanded o :=
  modifyEntry_dropHanded s o e _

theorem place_dropHanded (e : EntrySlot) (c : Claim) : (s.dropHanded o).place e c = (s.place e c).dropHanded o := by
  simp only [State.place, enqueue_dropHanded]
  rw [← recompute_dropHanded, ← addCounts_dropHanded]
  rfl

theorem dropHold_dropHanded (r : ReqSlot) (e : EntrySlot) (stale : Bool) :
    (s.dropHanded o).dropHold r e stale = (s.dropHold r e stale).dropHanded o := by
  simp only [State.dropHold, modifyEntry_dropHanded]
  rw [← subCounts_dropHanded]
  rfl

theorem dropWait_dropHanded (r : ReqSlot) (e : EntrySlot) : (s.dropHanded o).dropWait r e = (s.dropWait r e).dropHanded o := by
  simp only [State.dropWait, modifyEntry_dropHanded]
  rw [← subCounts_dropHanded]
  rfl

theorem dropSet_dropHanded (r : ReqSlot) (id : Word16) : (s.dropHanded o).dropSet r id = (s.dropSet r id).dropHanded o := by
  have hmembers : (s.dropHanded o).setMembers r id = s.setMembers r id := rfl
  simp only [State.dropSet, hmembers]
  rw [foldl_dropHanded s o (fun s e => modifyEntry_dropHanded s o e _), ← subCounts_dropHanded]
  rfl

theorem strip_dropHanded (r : ReqSlot) (stale : Bool) (e : EntrySlot) :
    (s.dropHanded o).strip r stale e = (s.strip r stale e).dropHanded o :=
  modifyEntry_dropHanded s o e _

theorem stripAll_dropHanded (r : ReqSlot) (stale : Bool) : (s.dropHanded o).stripAll r stale = (s.stripAll r stale).dropHanded o := by
  have hslots : ∀ p, (s.dropHanded o).slotsWhere p = s.slotsWhere p := fun _ => rfl
  simp only [State.stripAll, hslots]
  rw [foldl_dropHanded s o (fun s e => strip_dropHanded s o r stale e), ← recomputeAll_dropHanded, ← subCounts_dropHanded]
  rfl

/-! ### Admission passes -/

theorem grantHead_dropHanded (q : Quiet) (e : EntrySlot) (c : Claim) :
    (s.dropHanded o).grantHead q e c = (s.grantHead q e c).dropHanded o := by
  simp only [State.grantHead, modifyEntry_dropHanded, subCounts_dropHanded, addCounts_dropHanded, noticeUnless_dropHanded]

theorem grantMember_dropHanded (r : ReqSlot) (id : Word16) (e : EntrySlot) :
    (s.dropHanded o).grantMember r id e = (s.grantMember r id e).dropHanded o :=
  modifyEntry_dropHanded s o e _

theorem grantSet_dropHanded (q : Quiet) (r : ReqSlot) (id : Word16) :
    (s.dropHanded o).grantSet q r id = (s.grantSet q r id).dropHanded o := by
  have hmembers : (s.dropHanded o).setMembers r id = s.setMembers r id := rfl
  have hfirst : (s.dropHanded o).firstMember r id = s.firstMember r id := rfl
  simp only [State.grantSet, hmembers, hfirst, foldl_dropHanded (f := fun s e => s.grantMember r id e) s o (fun s e => grantMember_dropHanded s o r id e),
    subCounts_dropHanded, addCounts_dropHanded, recomputeAll_dropHanded]
  cases s.firstMember r id with
  | none => rfl
  | some p => exact noticeUnless_dropHanded _ o _ _ _ _

theorem passTurns_dropHanded (q : Quiet) (e : EntrySlot) (n : Nat) (list : List EntrySlot) :
    passTurns q e n (s.dropHanded o) list = ((passTurns q e n s list).1.dropHanded o, (passTurns q e n s list).2) := by
  induction n generalizing s list with
  | zero => rfl
  | succ n ih =>
    have hentry : (s.dropHanded o).entry e = s.entry e := rfl
    have hgrantable : ∀ r id, (s.dropHanded o).grantable r id = s.grantable r id := fun _ _ => rfl
    have hmembers : ∀ r id, (s.dropHanded o).setMembers r id = s.setMembers r id := fun _ _ => rfl
    simp only [passTurns, hentry, hgrantable, hmembers, grantHead_dropHanded, grantSet_dropHanded, ih]
    cases s.entry e with
    | none => rfl
    | some en =>
      dsimp only
      cases en.queue.head? with
      | none => rfl
      | some c =>
        dsimp only
        cases c.setId with
        | none =>
          dsimp only
          split
          · split <;> rfl
          · rfl
        | some id =>
          dsimp only
          split
          · split <;> rfl
          · rfl

theorem pass_dropHanded (q : Quiet) (e : EntrySlot) (list : List EntrySlot) :
    (s.dropHanded o).pass q e list = ((s.pass q e list).1.dropHanded o, (s.pass q e list).2) := by
  have hentry : (s.dropHanded o).entry e = s.entry e := rfl
  simp only [State.pass, hentry, passTurns_dropHanded, recompute_dropHanded]

theorem runPassList_dropHanded (q : Quiet) (n : Nat) (list : List EntrySlot) :
    runPassList q n (s.dropHanded o) list = (runPassList q n s list).dropHanded o := by
  induction n generalizing s list with
  | zero => rfl
  | succ n ih =>
    cases list with
    | nil => rfl
    | cons e rest =>
      have hentry : (s.dropHanded o).entry e = s.entry e := rfl
      simp only [runPassList, hentry, pass_dropHanded, ih]
      cases s.entry e <;> rfl

theorem runPasses_dropHanded (q : Quiet) (list : List EntrySlot) :
    (s.dropHanded o).runPasses q list = (s.runPasses q list).dropHanded o :=
  runPassList_dropHanded s o q _ list

/-! ### Evictions -/

theorem reclaim_dropHanded (r : ReqSlot) (stale : Bool) : (s.dropHanded o).reclaim r stale = (s.reclaim r stale).dropHanded o := by
  have hslots : ∀ p, (s.dropHanded o).slotsWhere p = s.slotsWhere p := fun _ => rfl
  simp only [State.reclaim, hslots, stripAll_dropHanded, runPasses_dropHanded]

theorem evict_dropHanded (r : ReqSlot) (cause : Cause) : (s.dropHanded o).evict r cause = (s.evict r cause).dropHanded o := by
  have hreq : (s.dropHanded o).req r = s.req r := rfl
  unfold State.evict
  rw [hreq]
  cases s.req r with
  | none => rfl
  | some q => simp only [reclaim_dropHanded, discardNotices_dropHanded, setReq_dropHanded, raise_dropHanded]

theorem evictAll_dropHanded (rs : List ReqSlot) (cause : Cause) : (s.dropHanded o).evictAll rs cause = (s.evictAll rs cause).dropHanded o :=
  foldl_dropHanded s o (fun s r => evict_dropHanded s o r cause) rs

/-! ### The retire of an entry -/

theorem cancelWait_dropHanded (e : EntrySlot) (list : List EntrySlot) (c : Claim) :
    cancelWait e (s.dropHanded o, list) c = ((cancelWait e (s, list) c).1.dropHanded o, (cancelWait e (s, list) c).2) := by
  have hmembers : ∀ r id, (s.dropHanded o).setMembers r id = s.setMembers r id := fun _ _ => rfl
  have hfirst : ∀ r id, (s.dropHanded o).firstMember r id = s.firstMember r id := fun _ _ => rfl
  unfold cancelWait
  cases c.setId with
  | none => simp only [dropWait_dropHanded, queueNotice_dropHanded]
  | some id => simp only [hmembers, hfirst, dropSet_dropHanded, queueNotice_dropHanded, recomputeAll_dropHanded]

theorem cancelWaits_dropHanded (e : EntrySlot) (en : Entry) :
    (s.dropHanded o).cancelWaits e en = ((s.cancelWaits e en).1.dropHanded o, (s.cancelWaits e en).2) := by
  have hfold : ∀ (queue : List Claim) (u : State) (list : List EntrySlot),
      queue.foldl (cancelWait e) (u.dropHanded o, list) =
        ((queue.foldl (cancelWait e) (u, list)).1.dropHanded o, (queue.foldl (cancelWait e) (u, list)).2) := fun queue => by
    induction queue with
    | nil => exact fun _ _ => rfl
    | cons c queue ih => exact fun u list => by rw [List.foldl_cons, List.foldl_cons, cancelWait_dropHanded, ih]
  exact hfold en.queue s []

theorem revokeHolds_dropHanded (e : EntrySlot) (en : Entry) : (s.dropHanded o).revokeHolds e en = (s.revokeHolds e en).dropHanded o :=
  foldl_dropHanded s o (fun s c => by rw [dropHold_dropHanded, queueNotice_dropHanded]) en.holders

theorem retireSteps_dropHanded (e : EntrySlot) (en : Entry) (force : Bool) : (s.dropHanded o).retireSteps e en force =
    (((s.retireSteps e en force).1.1.dropHanded o, (s.retireSteps e en force).1.2), (s.retireSteps e en force).2) := by
  simp only [State.retireSteps, State.forceRetire, State.drainRetire, cancelWaits_dropHanded, revokeHolds_dropHanded,
    modifyEntry_dropHanded]
  cases en.state <;> cases force <;> rfl

/-! ### The deletion of a node -/

/-- The command of an origin that leaves the decoder is the same before and after commands are marked. -/
theorem map_discardedFor_eraseP (address : Nat) (l : List Handed) :
    (l.eraseP fun h => h.origin = o).map (discardedFor address) = (l.map (discardedFor address)).eraseP fun h => h.origin = o := by
  have horigin : ∀ h, (discardedFor address h).origin = h.origin := fun h => by
    unfold discardedFor
    split <;> rfl
  induction l with
  | nil => rfl
  | cons h l ih =>
    by_cases ho : h.origin = o
    · simp [horigin, ho]
    · simp [horigin, ho, ih]

theorem deleteNode_dropHanded (address : Nat) : (s.dropHanded o).deleteNode address = (s.deleteNode address).dropHanded o := by
  rw [State.deleteNode, State.deleteNode, ← evictAll_dropHanded]
  simp only [State.dropHanded, map_discardedFor_eraseP]
  rfl

end commute

end Sys2Proof.Machine
end

section
/-! The requester commands RENEW, SET_BUDGET, LIST_MINE, FETCH_NOTICE and the refusals of ACQUIRE (R26, R100 to R102, R115, R116). -/

namespace Sys2Proof.Machine

/-! ### A command of an open requester -/

section asked

variable {s u : State} {i : Instr} {o : Origin} {rid code : Byte} {payload refused : List Byte} {h : Handed} {a : Answer} {r : ReqSlot}
  {q : Requester} {α : Type} {f : α} {fields : Option α} {effect : ReqSlot → α → Effect}

/-- A command of an open requester is answered by its effect on the state with the tenure restarted. -/
theorem answers_asked (hA : Asked s o rid code payload h r q)
    (hi : exec i s = takeCommand o rid code payload true (requesterEffect o rid fields refused effect) s) (hf : fields = some f)
    (he : effect r f ((s.renewed r q).dropHanded o) = (u.dropHanded o, a)) : Answers i s (u.reportPool s.freeRecords) h a :=
  answers_requester hA hi hf he rfl

theorem answers_asked_same (hA : Asked s o rid code payload h r q)
    (hi : exec i s = takeCommand o rid code payload true (requesterEffect o rid fields refused effect) s) (hf : fields = some f)
    (he : effect r f ((s.renewed r q).dropHanded o) = (u.dropHanded o, a)) (hfree : u.freeRecords = s.freeRecords) :
    Answers i s u h a := by
  have hanswer := answers_asked hA hi hf he
  rwa [← hfree, State.reportPool_same] at hanswer

end asked

theorem Answers.of_payload {i : Instr} {s u : State} {h : Handed} {result : Result} {l l' : List Byte}
    (hA : Answers i s u h ⟨result, l⟩) (hl : l = l') : Answers i s u h ⟨result, l'⟩ := hl ▸ hA

/-! ### The state with the tenure restarted -/

section renewed

variable (s : State) (r : ReqSlot) (q : Requester)

@[simp] theorem State.renewed_freeRecords : (s.renewed r q).freeRecords = s.freeRecords := rfl

theorem State.req_renewed_self : (s.renewed r q).req r = some q.renewed := by
  rw [State.req_renewed, if_pos rfl]

theorem State.req_renewed_dropHanded (o : Origin) : ((s.renewed r q).dropHanded o).req r = some q.renewed := s.req_renewed_self r q

theorem State.setReq_renewed (x : Option Requester) : (s.renewed r q).setReq r x = s.setReq r x := by
  simp only [State.setReq, State.renewed, Vector.set_set]

end renewed

theorem StoreChange.renewed {s : State} {r : ReqSlot} {q : Requester} (hq : s.req r = some q) : StoreChange s (s.renewed r q) := by
  have hsame : s.renewed r q = s.modifyReq r fun q => { q with tenureLeft := armed q.tenure } := by
    rw [State.modifyReq, hq]
    rfl
  rw [hsame]
  exact .modifyReq s r _ (fun _ => rfl) fun _ h => h

theorem State.Consistent.renewed {s : State} (h : s.Consistent) {r : ReqSlot} {q : Requester} (hq : s.req r = some q) :
    (s.renewed r q).Consistent :=
  StoreChange.consistent h (.renewed hq)

/-! ### RENEW and SET_BUDGET -/

theorem setBudgetEffect_of_bad {b : Byte} (h : b.toNat < 1 ∨ 24 < b.toNat) (r : ReqSlot) (s : State) :
    setBudgetEffect r b s = refuse .badValue s :=
  if_pos (by omega)

theorem setBudgetEffect_of_good {b : Byte} (h1 : 1 ≤ b.toNat) (h24 : b.toNat ≤ 24) {r : ReqSlot} {s : State} {q : Requester}
    (hq : s.req r = some q) : setBudgetEffect r b s =
      if b.toNat < q.holdCount + q.waitCount then refuse .budgetInUse s else (s.setReq r (some { q with budget := b.toNat }), ⟨.ok, []⟩) := by
  rw [setBudgetEffect, if_neg (by omega), hq]
  simp only [changeOk, State.modifyReq, hq]

/-- Settles O12: the tests of R100 in order. -/
theorem renewAndSetBudget : Obligations.RenewAndSetBudget := by
  refine fun s o rid b h r q => ⟨fun hA => answers_asked_same (u := s.renewed r q) hA rfl rfl rfl rfl,
    fun hA => ⟨fun hbad => ?_, fun h1 h24 hlt => ?_, fun h1 h24 hle => ?_⟩⟩
  · exact answers_asked_same hA rfl rfl (setBudgetEffect_of_bad hbad r _) rfl
  · refine answers_asked_same (u := s.renewed r q) hA rfl rfl ((setBudgetEffect_of_good h1 h24 (s.req_renewed_dropHanded r q _)).trans ?_) rfl
    exact if_pos hlt
  · refine answers_asked_same hA rfl rfl ((setBudgetEffect_of_good h1 h24 (s.req_renewed_dropHanded r q _)).trans ?_) rfl
    rw [setReq_dropHanded, State.setReq_renewed]
    exact if_neg (Nat.not_lt.mpr hle)

/-! ### FETCH_NOTICE -/

/-- The layout of R163 is what the model sends of a notice. -/
theorem Notice.bytes_eq (n : Notice) : n.bytes = noticeLayout n := by
  obtain ⟨owner, serial, slot, generation, body⟩ := n
  cases body with
  | granted m id =>
    cases m <;> cases id <;>
      simp [Notice.bytes, noticeLayout, NoticeBody.kindCode, NoticeBody.setId, NoticeBody.extra, Mode.code, handleBytes]
  | waitExpired id =>
    cases id <;> simp [Notice.bytes, noticeLayout, NoticeBody.kindCode, NoticeBody.setId, NoticeBody.extra, handleBytes]
  | waitCancelled id =>
    cases id <;> simp [Notice.bytes, noticeLayout, NoticeBody.kindCode, NoticeBody.setId, NoticeBody.extra, handleBytes]
  | revoked reason =>
    cases reason <;>
      simp [Notice.bytes, noticeLayout, NoticeBody.kindCode, NoticeBody.setId, NoticeBody.extra, RevokeReason.code, handleBytes]

theorem exec_fetchNotice (p : PortId) (rid : Byte) (payload : List Byte) (s : State) : exec (.fetchNotice p.origin rid payload) s =
    takeCommand p.origin rid 0x15#8 payload true (requesterEffect p.origin rid (noPayload payload) [] fetchNoticeEffect) s := by
  cases p <;> rfl

theorem fetchNoticeEffect_of_nil {s : State} {r : ReqSlot} {q : Requester} (hq : s.req r = some q) (h : s.noticeQueue r = []) :
    fetchNoticeEffect r () s = (s, ⟨.empty, [flagByte q.overrun]⟩) := by
  simp only [fetchNoticeEffect, hq, h]

theorem fetchNoticeEffect_of_cons {s : State} {r : ReqSlot} {q : Requester} {n : Notice} {rest : List Notice} (hq : s.req r = some q)
    (h : s.noticeQueue r = n :: rest) : fetchNoticeEffect r () s =
      (s.dropHeadNotice r, ⟨.ok, noticeLayout n ++ [byteOf rest.length, flagByte q.overrun]⟩) := by
  simp only [fetchNoticeEffect, hq, h, Notice.bytes_eq]

/-- Settles O14: by the queue of the requester. -/
theorem fetchNoticeTakesOldest : Obligations.FetchNoticeTakesOldest := fun s p rid _ r q hA =>
  ⟨fun hnil => answers_asked_same (u := s.renewed r q) hA (exec_fetchNotice p rid [] s) rfl
      (fetchNoticeEffect_of_nil (q := q.renewed) (s.req_renewed_dropHanded r q _) hnil) rfl,
    fun _ _ hcons => answers_asked_same hA (exec_fetchNotice p rid [] s) rfl
      (fetchNoticeEffect_of_cons (q := q.renewed) (s.req_renewed_dropHanded r q _) hcons) rfl⟩

/-! ### LIST_MINE -/

theorem listMineEffect_of_bad {cursor : Nat} (h : 256 < cursor) (r : ReqSlot) (s : State) :
    listMineEffect r cursor s = refuse .badValue s :=
  if_pos h

theorem listMineEffect_of_good {cursor : Nat} (h : cursor ≤ 256) {r : ReqSlot} {s : State} {q : Requester} (hq : s.req r = some q) :
    listMineEffect r cursor s =
      (if cursor = 0 then s.setReq r (some { q with overrun := false }) else s, ⟨.ok, s.mineAnswer r q cursor⟩) := by
  simp only [listMineEffect, hq, if_neg (Nat.not_lt.mpr h)]

/-- The entries of a page: those that a test on the live entry selects, from the cursor on (R11, R102). -/
theorem State.slotsWhere_from (s : State) (p : Entry → Bool) (cursor : Nat) :
    (s.slotsWhere p).filter (fun e => cursor ≤ e.val) =
      (List.finRange 256).filter fun e => cursor ≤ e.val && ((s.entry e).map p).getD false := by
  rw [State.slotsWhere, List.filter_filter]
  congr 1
  funext e
  cases s.entry e <;> rfl

theorem nextCursor_eq (page : List EntrySlot) :
    nextCursor page = if page.length = 8 then ((page.getLast?).map fun e => e.val + 1).getD 256 else 256 := by
  unfold nextCursor
  cases page.getLast? <;> rfl

/-- An item of LIST_MINE, byte by byte (R157). -/
def mineBytes (s : State) (e : EntrySlot) (c : Claim) (position : Nat) : List Byte :=
  [byteOf e.val, s.generation e,
    byteOf ((match c.mode with | .exclusive => 0 | .shared => 128) + (if c.setId = none then 0 else 64) + position)] ++
    bytes16 ((c.setId.map BitVec.toNat).getD 0)

theorem mineItem_of_hold {s : State} {r : ReqSlot} {e : EntrySlot} {en : Entry} {c : Claim} (h : en.hold r = some c) :
    mineItem s r e en = mineBytes s e c 0 := by
  obtain ⟨requester, mode, setId, first, deadline⟩ := c
  cases mode <;> cases setId <;> simp [mineItem, mineBytes, h, handleBytes, bytes16, byteOf]

theorem position_of_wait {en : Entry} {r : ReqSlot} {c : Claim} (h : en.wait r = some c) :
    en.position r = en.queue.findIdx (fun c => c.requester = r) + 1 := by
  have hfound := List.find?_some (p := fun c : Claim => decide (c.requester = r)) h
  rw [Entry.position, List.findIdx?_eq_some_of_exists ⟨c, List.mem_of_find?_eq_some h, hfound⟩]

theorem mineItem_of_wait {s : State} {r : ReqSlot} {e : EntrySlot} {en : Entry} {c : Claim} (hh : en.hold r = none)
    (h : en.wait r = some c) : mineItem s r e en = mineBytes s e c (en.queue.findIdx (fun c => c.requester = r) + 1) := by
  have hposition := position_of_wait h
  obtain ⟨requester, mode, setId, first, deadline⟩ := c
  cases mode <;> cases setId <;> simp [mineItem, mineBytes, hh, h, hposition, handleBytes, bytes16, byteOf]

theorem mineItem_of_none {s : State} {r : ReqSlot} {e : EntrySlot} {en : Entry} (hh : en.hold r = none) (hw : en.wait r = none) :
    mineItem s r e en = [] := by
  simp only [mineItem, hh, hw]

/-- Settles O13: the page, the items and the overrun flag of R102 and R115. -/
theorem listMineAnswers : Obligations.ListMineAnswers := by
  refine fun s o rid hi lo h r q hA => ⟨fun hbad => ?_, fun hgood => ?_⟩
  · exact answers_asked_same hA rfl rfl (listMineEffect_of_bad hbad r _) rfl
  · have hgood : nat16 hi lo ≤ 256 := hgood
    have hanswer : Answers (.listMine o rid [hi, lo]) s
        (if nat16 hi lo = 0 then s.setReq r (some { q.renewed with overrun := false }) else s.renewed r q) h
        ⟨.ok, (s.renewed r q).mineAnswer r q.renewed (nat16 hi lo)⟩ := by
      refine answers_asked_same hA rfl rfl ((listMineEffect_of_good hgood (s.req_renewed_dropHanded r q _)).trans ?_) ?_
      · by_cases hz : nat16 hi lo = 0
        · rw [if_pos hz, if_pos hz, setReq_dropHanded, State.setReq_renewed]
          rfl
        · rw [if_neg hz, if_neg hz]
          rfl
      · split <;> rfl
    refine hanswer.of_payload ?_
    simp only [State.mineAnswer, State.minePage, State.slotsWhere_from, nextCursor_eq]
    refine congrArg₂ (· ++ ·) rfl (congrArg (fun f => List.flatMap f _) (funext fun e => ?_))
    have hentry : (s.renewed r q).entry e = s.entry e := rfl
    rw [hentry]
    cases s.entry e with
    | none => rfl
    | some en =>
      have hhold : en.holders.find? (fun c => c.requester = r) = en.hold r := rfl
      have hwait : en.queue.find? (fun c => c.requester = r) = en.wait r := rfl
      simp only [hhold, hwait]
      cases hh : en.hold r with
      | some c => exact mineItem_of_hold hh
      | none =>
        cases hw : en.wait r with
        | some c => exact mineItem_of_wait hh hw
        | none => exact mineItem_of_none hh hw

/-! ### The refusals of ACQUIRE -/

theorem modeOf_of_one_lt {b : Byte} (hb : 1 < b.toNat) : modeOf b = none := by
  have h0 : b ≠ 0x00#8 := by bv_omega
  have h1 : b ≠ 0x01#8 := by bv_omega
  rw [modeOf, if_neg h0, if_neg h1]

theorem modeOf_of_le_one {b : Byte} (hb : b.toNat ≤ 1) : ∃ m, modeOf b = some m ∧ b = m.code := by
  have hcases : b = 0x00#8 ∨ b = 0x01#8 := by bv_omega
  obtain rfl | rfl := hcases
  · exact ⟨.exclusive, rfl, rfl⟩
  · exact ⟨.shared, rfl, rfl⟩

theorem acquireEffect_of_bad {f : AcquireFields} (h : modeOf f.mode = none) (r : ReqSlot) (s : State) :
    acquireEffect r f s = refuse .badValue s := by
  simp only [acquireEffect, h]

/-- The tests of R26 on a live entry, in order. -/
theorem acquireEffect_of_live {f : AcquireFields} {m : Mode} {r : ReqSlot} {s : State} {en : Entry} {q : Requester}
    (hm : modeOf f.mode = some m) (he : s.entryOf f.handle = some en) (hq : s.req r = some q) : acquireEffect r f s =
      if en.state = .retiring then refuse .retiring s
      else if en.claimed r then refuse .alreadyClaimed s
      else if q.holdCount + q.waitCount = q.budget then refuse .budget s
      else if s.freeRecords = 0 then refuse .poolEmpty s
      else acquireTested r f.handle.slot en m f.waitLimit s := by
  simp only [acquireEffect, hm, he, hq]

/-- Settles O21: each refusal is the first test of R26 that fails. -/
theorem acquireRefused : Obligations.AcquireRefused := by
  refine fun s o rid a g m hi lo h r q hA => ⟨fun hbad => ?_, fun en hmode he => ?_⟩
  · exact answers_asked_same (u := s.renewed r q) hA rfl rfl
      (acquireEffect_of_bad (f := ⟨handleOf a g, m, nat16 hi lo⟩) (modeOf_of_one_lt hbad) r _) rfl
  · obtain ⟨mode, hm, -⟩ := modeOf_of_le_one hmode
    have hrefused : ∀ {result : Result}, acquireEffect r ⟨handleOf a g, m, nat16 hi lo⟩ ((s.renewed r q).dropHanded o) =
        refuse result ((s.renewed r q).dropHanded o) → Answers (.acquire o rid [a, g, m, hi, lo]) s (s.renewed r q) h ⟨result, []⟩ :=
      fun heffect => answers_asked_same (u := s.renewed r q) hA rfl rfl heffect rfl
    rw [acquireEffect_of_live hm he (s.req_renewed_dropHanded r q _)] at hrefused
    refine ⟨fun hret => hrefused (if_pos hret), fun hret hcl => hrefused ?_, fun hret hcl hb => hrefused ?_,
      fun hret hcl hb hp => hrefused ?_⟩
    · exact (if_neg hret).trans (if_pos hcl)
    · exact (if_neg hret).trans ((if_neg (by simp [hcl])).trans (if_pos hb))
    · exact (if_neg hret).trans ((if_neg (by simp [hcl])).trans ((if_neg hb).trans (if_pos hp)))

end Sys2Proof.Machine
end

section
/-! The evictions (R90, R97, R98, R104 to R106), RELEASE_ALL and CLOSE (R46, R103): every record of a requester goes, and passes run. -/

namespace Sys2Proof.Machine

/-! ### One eviction -/

theorem State.runPasses_passesRan {s : State} (h : s.Consistent) (quiet : Quiet) (list : List EntrySlot) :
    PassesRan quiet list s (s.runPasses quiet list) :=
  passesDoWhatTheyMay s quiet list ((s.consistent_iff).mpr h)

/-- A reclaim is the removal of the records and the passes that follow it. -/
theorem State.reclaim_passesRan {s : State} (h : s.Consistent) (r : ReqSlot) (stale : Bool) :
    PassesRan .loud (s.slotsWhere fun en => en.claimed r) (s.stripAll r stale) (s.reclaim r stale) :=
  State.runPasses_passesRan (h.stripAll r stale) .loud _

/-- A slot is made FREE with its notices gone. -/
theorem State.discard_free (s : State) (r : ReqSlot) : (s.discardNotices r).setReq r none =
    { s with requesters := s.requesters.set r.val none, notices := s.notices.filter fun n => n.owner ≠ r } := by
  rw [State.discardNotices_eq, State.modifyReq]
  cases s.req r with
  | none => rfl
  | some q => simp [State.setReq]

theorem State.evict_of_req {s : State} {r : ReqSlot} {q : Requester} (hq : s.req r = some q) (cause : Cause) :
    s.evict r cause = State.raise
      { s.reclaim r true with
        requesters := (s.reclaim r true).requesters.set r.val none, notices := (s.reclaim r true).notices.filter fun n => n.owner ≠ r }
      (.requesterEvicted q.origin q.localId cause) := by
  simp only [State.evict, hq, State.discard_free]

/-- An eviction takes the steps of R104. -/
theorem State.evict_evicted {s : State} (h : s.Consistent) {r : ReqSlot} {q q' : Requester} (hq : s.req r = some q')
    (ho : q'.origin = q.origin) (hl : q'.localId = q.localId) (cause : Cause) : Evicted s (s.evict r cause) r q cause :=
  ⟨s.reclaim r true, State.reclaim_passesRan h r true, by rw [State.evict_of_req hq, ho, hl]⟩

theorem State.Consistent.evict {s : State} (h : s.Consistent) (r : ReqSlot) (cause : Cause) : (s.evict r cause).Consistent :=
  StoreChange.consistent h (.evict s r cause)

theorem State.Consistent.evictAll {s : State} (h : s.Consistent) (rs : List ReqSlot) (cause : Cause) :
    (s.evictAll rs cause).Consistent :=
  StoreChange.consistent h (.evictAll s rs cause)

theorem State.unclaimedBy_evict {s : State} (h : s.Consistent) (r : ReqSlot) (cause : Cause) : (s.evict r cause).unclaimedBy r :=
  (h.evict r cause).table.unclaimed_of_free (s.req_evict_self r cause)

/-- An eviction leaves the other requesters open. -/
theorem State.req_evict_isSome {s : State} {r r' : ReqSlot} (hne : r ≠ r') (cause : Cause) :
    ((s.evict r cause).req r').isSome = (s.req r').isSome := by
  cases hq : s.req r with
  | none => rw [State.evict, hq]
  | some q =>
    have hother : (s.evict r cause).req r' = (s.reclaim r true).req r' := by
      rw [State.evict_of_req hq]
      exact (State.req_setReq (s.reclaim r true) r none r').trans (if_neg hne)
    have hfixed := congrArg Option.isSome ((ClaimFrame.reclaim s r true).requesters r')
    simpa [hother] using hfixed

/-! ### Evictions in turn -/

theorem State.evictAll_inTurn {s : State} (h : s.Consistent) {rs : List ReqSlot} (hd : rs.Nodup)
    (hopen : ∀ r ∈ rs, (s.req r).isSome) (cause : Cause) : EvictedInTurn cause s rs (s.evictAll rs cause) := by
  induction rs generalizing s with
  | nil => exact .none s
  | cons r rest ih =>
    obtain ⟨hr, hrest⟩ := List.nodup_cons.mp hd
    obtain ⟨q, hq⟩ := Option.isSome_iff_exists.mp (hopen r (List.mem_cons_self ..))
    refine .next s (s.evict r cause) _ r q rest hq (State.evict_evicted h hq rfl rfl cause) (ih (h.evict r cause) hrest fun r' hr' => ?_)
    rw [State.req_evict_isSome (fun heq : r = r' => hr (by rw [heq]; exact hr'))]
    exact hopen r' (List.mem_cons_of_mem _ hr')

/-- The requesters that were evicted are gone with their records. -/
theorem State.evictAll_gone {s : State} (h : s.Consistent) (rs : List ReqSlot) (cause : Cause) {r : ReqSlot} (hr : r ∈ rs) :
    (s.evictAll rs cause).req r = none ∧ (s.evictAll rs cause).unclaimedBy r := by
  have hnone : (s.evictAll rs cause).req r = none := by
    induction rs generalizing s with
    | nil => cases hr
    | cons r' rest ih =>
      by_cases heq : r = r'
      · subst heq
        have hfirst := s.req_evict_self r cause
        obtain hfree | hsame := (s.evict r cause).sameOrFree_evictAll rest cause r
        · exact hfree
        · rw [hfirst] at hsame
          exact Option.map_eq_none_iff.mp hsame
      · exact ih (h.evict r' cause) ((List.mem_cons.mp hr).resolve_left heq)
  exact ⟨hnone, (h.evictAll rs cause).table.unclaimed_of_free hnone⟩

theorem State.reqsOf_eq (s : State) (o : Origin) :
    s.reqsOf o = (List.finRange 48).filter fun r => ((s.req r).map fun q => q.origin == o).getD false := by
  unfold State.reqsOf
  congr 1
  funext r
  cases s.req r <;> rfl

theorem State.mem_reqsOf {s : State} {o : Origin} {r : ReqSlot} : r ∈ s.reqsOf o ↔ ∃ q, s.req r = some q ∧ q.origin = o := by
  rw [State.reqsOf_eq, List.mem_filter]
  cases s.req r <;> simp

theorem State.nodup_reqsOf (s : State) (o : Origin) : (s.reqsOf o).Nodup := (List.nodup_finRange 48).filter _

theorem State.isSome_of_mem_reqsOf {s : State} {o : Origin} {r : ReqSlot} (h : r ∈ s.reqsOf o) : (s.req r).isSome := by
  obtain ⟨q, hq, -⟩ := State.mem_reqsOf.mp h
  simp [hq]

/-! ### Events that no command started -/

/-- The end of an event that works on the claims, the requesters and the notices alone: of the decoder, the ports and the link only the
ATN lines change (R123). -/
theorem EvictFrame.unasked {s v : State} (h : EvictFrame s v) (before : Nat) :
    Unasked s (v.endEvent before) ∧ SameBut (v.reportPool before) (v.endEvent before) := by
  have hatt : ∀ p, (v.endEvent before).attention p = (v.reportPool before).attention p := fun p =>
    State.attention_settleAttention _ p
  have ha : (v.endEvent before).portA = { (v.reportPool before).portA with atnLow := (v.reportPool before).attention .a } := rfl
  have hb : (v.endEvent before).portB = { (v.reportPool before).portB with atnLow := (v.reportPool before).attention .b } := rfl
  refine ⟨⟨?_, ?_, ?_, ?_⟩, rfl⟩
  · exact (State.reportPool_decoder v before).trans h.decoder
  · exact (State.reportPool_link v before).trans h.link
  · rw [ha, hatt, State.reportPool_portA, h.portA]
  · rw [hb, hatt, State.reportPool_portB, h.portB]

/-! ### TENURE_EXPIRY, EVICT, PURGE_ORIGIN -/

theorem localIdInRange_iff (o : Origin) (l : Byte) :
    localIdInRange o l = true ↔ l.toNat ≤ if o = .portA ∨ o = .portB then 15 else 3 := by
  cases o <;> simp [localIdInRange]

theorem evictEffect_of_none {a : Byte} (h : originOf a = none) (l : Byte) (s : State) : evictEffect (a, l) s = refuse .badValue s := by
  simp only [evictEffect, h]

theorem evictEffect_of_range {a l : Byte} {o : Origin} (h : originOf a = some o) (hl : ¬ localIdInRange o l = true) (s : State) :
    evictEffect (a, l) s = refuse .badValue s := by
  simp only [evictEffect, h, if_neg hl]

theorem evictEffect_of_notOpen {a l : Byte} {o : Origin} {s : State} (h : originOf a = some o) (hl : localIdInRange o l = true)
    (hf : s.findReq o l = none) : evictEffect (a, l) s = refuse .notOpen s := by
  simp only [evictEffect, h, if_pos hl, hf]

theorem evictEffect_of_open {a l : Byte} {o : Origin} {s : State} {r : ReqSlot} (h : originOf a = some o)
    (hl : localIdInRange o l = true) (hf : s.findReq o l = some r) : evictEffect (a, l) s = (s.evict r .evict, ⟨.ok, []⟩) := by
  simp only [evictEffect, h, if_pos hl, hf, changeOk]

/-- Settles O35: the eviction of the requester that the countdown or the payload names. -/
theorem tenureAndEvict : Obligations.TenureAndEvict := by
  refine fun s => ⟨fun r q hs hq ht => ?_, fun o rid a l h hst hadmin => ⟨fun ha => ?_, fun o' ho' => ⟨fun hr => ?_, fun hr hf => ?_,
    fun hr hs r q hf hq => ?_⟩⟩⟩
  · have hcons := s.consistent_iff.mp hs
    obtain ⟨hunasked, hsame⟩ := (EvictFrame.evict s r .tenure).unasked s.freeRecords
    refine ⟨s.evict r .tenure, _, State.evict_evicted hcons hq rfl rfl .tenure, State.unclaimedBy_evict hcons r .tenure, ?_,
      hunasked, hsame⟩
    simp only [exec, execTenureExpiry, hq, if_pos ht, finishEvent]
  · exact answers_admin_same hst hadmin rfl rfl (evictEffect_of_none ha l _) rfl
  · exact answers_admin_same hst hadmin rfl rfl (evictEffect_of_range ho' (fun h => hr ((localIdInRange_iff o' l).mp h)) _) rfl
  · exact answers_admin_same hst hadmin rfl rfl (evictEffect_of_notOpen ho' ((localIdInRange_iff o' l).mpr hr) hf) rfl
  · have hcons := s.consistent_iff.mp hs
    refine ⟨s.evict r .evict, State.evict_evicted hcons hq rfl rfl .evict, State.unclaimedBy_evict hcons r .evict, ?_⟩
    refine answers_admin hst hadmin rfl rfl (evictEffect_of_open ho' ((localIdInRange_iff o' l).mpr hr) hf) ?_
    rw [evict_dropHanded]
    rfl

theorem purgeEffect_of_none {b : Byte} (h : originOf b = none) (s : State) : purgeEffect b s = refuse .badValue s := by
  simp only [purgeEffect, h]

theorem purgeEffect_of_some {b : Byte} {o : Origin} (h : originOf b = some o) (s : State) :
    purgeEffect b s = (s.evictAll (s.reqsOf o) .purge, ⟨.ok, [byteOf (s.reqsOf o).length]⟩) := by
  simp only [purgeEffect, h]

/-- Settles O36: the evictions of the origin's requesters in turn. -/
theorem purgeEvictsOrigin : Obligations.PurgeEvictsOrigin := by
  refine fun s o rid b h hst hadmin => ⟨fun hb => ?_, fun o' ho' hs => ?_⟩
  · exact answers_admin_same hst hadmin rfl rfl (purgeEffect_of_none hb _) rfl
  · have hcons := s.consistent_iff.mp hs
    rw [← State.reqsOf_eq]
    refine ⟨s.evictAll (s.reqsOf o') .purge,
      State.evictAll_inTurn hcons (s.nodup_reqsOf o') (fun r hr => State.isSome_of_mem_reqsOf hr) .purge,
      fun r hr => State.evictAll_gone hcons _ .purge hr, ?_⟩
    refine answers_admin hst hadmin rfl rfl (purgeEffect_of_some ho' _) ?_
    rw [evictAll_dropHanded]
    rfl

/-! ### RELEASE_ALL and CLOSE -/

theorem State.reclaimAnswer_eq {s : State} (h : s.Consistent) {r : ReqSlot} {q : Requester} (hq : s.req r = some q) :
    s.reclaimAnswer r = ⟨.ok, [byteOf q.holdCount, byteOf q.waitCount]⟩ := by
  obtain ⟨-, -, -, -, hcounts⟩ := s.consistent_iff.mpr h
  obtain ⟨hholds, hwaits, -⟩ := hcounts r q hq
  rw [hholds, hwaits]
  rfl

/-- Settles O11: the reclaim with its passes, and for CLOSE the slot made FREE. -/
theorem releaseAllAndClose : Obligations.ReleaseAllAndClose := by
  refine fun s o rid h r q hs => ⟨fun hA => ?_, fun hA => ?_⟩
  all_goals
    have hcons := (s.consistent_iff.mp hs).renewed hA.2.2
    have hanswer : ((s.renewed r q).dropHanded o).reclaimAnswer r = ⟨.ok, [byteOf q.holdCount, byteOf q.waitCount]⟩ :=
      State.reclaimAnswer_eq (q := q.renewed) hcons (s.req_renewed_self r q)
    refine ⟨(s.renewed r q).reclaim r false, State.reclaim_passesRan hcons r false, hcons.unclaimed_reclaim r false, ?_⟩
  · refine answers_asked hA rfl rfl ?_
    rw [releaseAllEffect, hanswer, reclaim_dropHanded]
  · refine answers_asked hA rfl rfl ?_
    rw [closeEffect, hanswer, reclaim_dropHanded, discardNotices_dropHanded, setReq_dropHanded, State.discard_free]

/-! ### OPEN -/

theorem State.lowestFree_eq_some {s : State} {r : ReqSlot} (hr : s.req r = none) (hmin : ∀ r', r' < r → s.req r' ≠ none) :
    s.lowestFree = some r := by
  refine List.find?_eq_some_iff_getElem.mpr ⟨by simpa using hr, r.val, by simp, by simp, fun j hj => ?_⟩
  have hlt : (⟨j, by omega⟩ : ReqSlot) < r := hj
  simpa [Option.isSome_iff_ne_none] using hmin _ hlt

theorem State.lowestFree_eq_none {s : State} (h : ∀ r, s.req r ≠ none) : s.lowestFree = none := by
  refine List.find?_eq_none.mpr fun r _ => ?_
  simpa [Option.isSome_iff_ne_none] using h r

/-- Where a slot is FREE, one is the lowest. -/
theorem State.exists_lowest {s : State} {r : ReqSlot} (h : s.req r = none) : ∃ r', s.req r' = none ∧ ∀ r'', r'' < r' → s.req r'' ≠ none := by
  obtain ⟨r', hr', hmin⟩ := WellFounded.has_min (α := ReqSlot) wellFounded_lt {r | s.req r = none} ⟨r, h⟩
  exact ⟨r', hr', fun r'' hlt hnone => hmin r'' hnone hlt⟩

theorem openRefused_iff (o : Origin) (rid p b : Byte) (tenure : Nat) : openRefused o rid ⟨p.toNat, b.toNat, tenure⟩ = false ↔
    (rid.toNat ≤ if o = .portA ∨ o = .portB then 15 else 3) ∧ p.toNat ≤ 3 ∧ 1 ≤ b.toNat ∧ b.toNat ≤ 24 ∧
      (100 ≤ tenure ∨ (tenure = 0 ∧ (o = .portA ∨ o = .portB))) := by
  rw [← localIdInRange_iff]
  cases o <;> simp only [openRefused, Bool.or_eq_false_iff, Bool.and_eq_false_iff, Bool.not_eq_false', decide_eq_false_iff_not,
    and_assoc, reduceCtorEq, or_self, or_false, or_true, and_false, and_true] <;> refine and_congr Iff.rfl ?_ <;> simp <;> omega

theorem openEffect_of_refused {o : Origin} {rid : Byte} {f : OpenFields} (h : openRefused o rid f = true) (s : State) :
    openEffect o rid f s = refuse .badValue s :=
  if_pos h

theorem openEffect_of_closed {o : Origin} {rid : Byte} {f : OpenFields} {s : State} (h : openRefused o rid f = false)
    (hf : s.findReq o rid = none) : openEffect o rid f s = openSlot o rid f false s := by
  simp only [openEffect, h, Bool.false_eq_true, if_false, hf]

theorem openEffect_of_open {o : Origin} {rid : Byte} {f : OpenFields} {s : State} {r : ReqSlot} (h : openRefused o rid f = false)
    (hf : s.findReq o rid = some r) : openEffect o rid f s = openSlot o rid f true (s.evict r .reopen) := by
  simp only [openEffect, h, Bool.false_eq_true, if_false, hf]

theorem openSlot_of_lowest {o : Origin} {rid : Byte} {f : OpenFields} {reopened : Bool} {s : State} {r : ReqSlot}
    (h : s.lowestFree = some r) :
    openSlot o rid f reopened s = (s.setReq r (some (openedRecord o rid f)), ⟨.ok, [flagByte reopened]⟩) := by
  simp only [openSlot, h]

theorem openSlot_of_full {o : Origin} {rid : Byte} {f : OpenFields} {reopened : Bool} {s : State} (h : s.lowestFree = none) :
    openSlot o rid f reopened s = refuse .requestersFull s := by
  simp only [openSlot, h]

/-- An OPEN whose payload has its 4 bytes is answered by its effect on the state with the tenure of the pair restarted. -/
theorem answers_open {s u : State} {o : Origin} {rid p b hi lo : Byte} {h : Handed} {a : Answer}
    (hs : s.stands o rid 0x10#8 [p, b, hi, lo] = some h)
    (he : openEffect o rid ⟨p.toNat, b.toNat, nat16 hi lo⟩ ((s.restartTenureOf o rid).dropHanded o) = (u.dropHanded o, a)) :
    Answers (.openRequester o rid [p, b, hi, lo]) s (u.reportPool s.freeRecords) h a := by
  refine answers_of_effect (names := true) (effect := plainEffect (openPayload [p, b, hi, lo]) (openEffect o rid)) rfl hs ?_ rfl
  rw [if_pos rfl, dropHanded_restartTenureOf]
  exact he

theorem answers_open_same {s u : State} {o : Origin} {rid p b hi lo : Byte} {h : Handed} {a : Answer}
    (hs : s.stands o rid 0x10#8 [p, b, hi, lo] = some h)
    (he : openEffect o rid ⟨p.toNat, b.toNat, nat16 hi lo⟩ ((s.restartTenureOf o rid).dropHanded o) = (u.dropHanded o, a))
    (hfree : u.freeRecords = s.freeRecords) : Answers (.openRequester o rid [p, b, hi, lo]) s u h a := by
  have hanswer := answers_open hs he
  rwa [← hfree, State.reportPool_same] at hanswer

/-- Settles O10: the ranges of R97, then the pair closed or open. -/
theorem openTakesLowestSlot : Obligations.OpenTakesLowestSlot := by
  intro s o rid p b hi lo h
  dsimp only
  rw [show hi.toNat * 256 + lo.toNat = nat16 hi lo from rfl, ← openRefused_iff]
  refine fun hst => ⟨fun hbad => ?_, fun hgood hnone => ⟨fun r hr hmin => ?_, fun hfull => ?_⟩, fun hgood hs r q hf hq => ?_⟩
  · exact answers_open_same hst (openEffect_of_refused (by simpa using hbad) _) (State.restartTenureOf_freeRecords s o rid)
  · refine answers_open_same hst ?_ rfl
    rw [State.restartTenureOf_none hnone]
    exact (openEffect_of_closed (s := s.dropHanded o) hgood hnone).trans (openSlot_of_lowest (s := s.dropHanded o) (State.lowestFree_eq_some hr hmin))
  · refine answers_open_same hst ?_ rfl
    rw [State.restartTenureOf_none hnone]
    exact (openEffect_of_closed (s := s.dropHanded o) hgood hnone).trans (openSlot_of_full (s := s.dropHanded o) (State.lowestFree_eq_none hfull))
  · have hcons := (s.consistent_iff.mp hs).renewed hq
    obtain ⟨r', hr', hmin⟩ := State.exists_lowest ((s.renewed r q).req_evict_self r .reopen)
    refine ⟨(s.renewed r q).evict r .reopen, r', State.evict_evicted hcons (s.req_renewed_self r q) rfl rfl .reopen, hr', hmin,
      answers_open hst ?_⟩
    rw [State.restartTenureOf_eq hf hq]
    refine (openEffect_of_open (s := (s.renewed r q).dropHanded o) hgood ((State.findReq_renewed hq o rid).trans hf)).trans ?_
    rw [evict_dropHanded]
    exact openSlot_of_lowest (s := ((s.renewed r q).evict r .reopen).dropHanded o) (State.lowestFree_eq_some hr' hmin)

end Sys2Proof.Machine
end

section
/-! STALE_HANDLE (R6), DEFINE (R8), SET_LIMITS (R9) and WRITE_NOTE (R13). -/

namespace Sys2Proof.Machine

/-! ### The row of a code -/

/-- A row is the one that its code names. -/
theorem eq_of_fields {i : Instr} {o : Origin} {rid code : Byte} {payload : List Byte} {row : Byte × (Origin → Byte → List Byte → Instr)}
    (hw : i.wellFormed = true) (hf : i.fields = some (o, rid, code, payload)) (hc : isCommandCode o code = true)
    (hr : commandTable.find? (fun x => x.1 == code) = some row) : i = row.2 o rid payload :=
  (decodeCommand_of_fields i hw o rid code payload hf).symm.trans (Laws.CommandDecoding.decodeCommand_of_row hc hr rid payload)

/-! ### A handle that names no live entry -/

section stale

variable {s : State} {h : Handle} (he : s.entryOf h = none)

include he

theorem readEntryEffect_of_stale : readEntryEffect h s = refuse .staleHandle s := by
  simp only [readEntryEffect, he]

theorem retireEffect_of_stale {m : Byte} {force : Bool} (hm : retireForceOf m = some force) :
    retireEffect (h, m) s = refuse .staleHandle s := by
  simp only [retireEffect, hm, he]

theorem setLimitsEffect_of_stale {share hold : Nat} (hs : shareLimitBad share = false) :
    setLimitsEffect ⟨h, share, hold⟩ s = refuse .staleHandle s := by
  simp only [setLimitsEffect, hs, Bool.false_eq_true, if_false, he]

theorem releaseEffect_of_stale (r : ReqSlot) : releaseEffect r h s = refuse .staleHandle s := by
  simp only [releaseEffect, he]

theorem cancelEffect_of_stale (r : ReqSlot) : cancelEffect r h s = refuse .staleHandle s := by
  simp only [cancelEffect, he]

theorem upgradeEffect_of_stale (r : ReqSlot) : upgradeEffect r h s = refuse .staleHandle s := by
  simp only [upgradeEffect, he]

theorem downgradeEffect_of_stale (r : ReqSlot) : downgradeEffect r h s = refuse .staleHandle s := by
  simp only [downgradeEffect, he]

theorem writeNoteEffect_of_stale (r : ReqSlot) {bytes : List Byte} (hb : bytes.length ≤ 8) :
    writeNoteEffect r ⟨h, bytes.length, bytes⟩ s = refuse .staleHandle s := by
  have hgood : ¬ (8 < bytes.length ∨ bytes.length ≠ bytes.length) := by omega
  simp only [writeNoteEffect, if_neg hgood, he]

theorem acquireEffect_of_stale (r : ReqSlot) {b : Byte} {m : Mode} (hm : modeOf b = some m) (limit : Nat) :
    acquireEffect r ⟨h, b, limit⟩ s = refuse .staleHandle s := by
  simp only [acquireEffect, hm, he]

end stale

theorem shareLimitBad_eq_false {n : Nat} (h1 : 1 ≤ n) (h8 : n ≤ 8) : shareLimitBad n = false := by
  simp [shareLimitBad]
  omega

theorem shareLimitBad_eq_true {n : Nat} (h : ¬ (1 ≤ n ∧ n ≤ 8)) : shareLimitBad n = true := by
  simp [shareLimitBad]
  omega

theorem notePayload_of_length {bytes : List Byte} (h : bytes.length ≤ 8) (a g n : Byte) :
    notePayload (a :: g :: n :: bytes) = some ⟨handleOf a g, n.toNat, bytes⟩ :=
  if_pos h

/-- Settles O19: by the commands that carry one handle. -/
theorem staleHandlesRefused : Obligations.StaleHandlesRefused := by
  intro s i o rid code a g rest h hw hf hst he
  refine ⟨?_, fun hadmin => ?_, fun r q hr hq => ?_⟩
  · rintro ⟨rfl, rfl⟩
    obtain rfl := eq_of_fields hw hf (by cases o <;> rfl) rfl
    exact answers_plain_same hst rfl rfl (readEntryEffect_of_stale (s := s.dropHanded o) he) rfl
  · rintro (⟨rfl, hm⟩ | ⟨rfl, share, hi, lo, rfl, h1, h8⟩)
    · obtain rfl := eq_of_fields hw hf (by cases o <;> rfl) rfl
      obtain rfl | rfl := hm
      · exact answers_admin_same hst hadmin rfl rfl (retireEffect_of_stale (s := s.dropHanded o) he rfl) rfl
      · exact answers_admin_same hst hadmin rfl rfl (retireEffect_of_stale (s := s.dropHanded o) he rfl) rfl
    · obtain rfl := eq_of_fields hw hf (by cases o <;> rfl) rfl
      exact answers_admin_same hst hadmin rfl rfl
        (setLimitsEffect_of_stale (s := s.dropHanded o) he (shareLimitBad_eq_false h1 h8)) rfl
  · have he' : ((s.renewed r q).dropHanded o).entryOf (handleOf a g) = none := he
    rintro (⟨hcode, rfl⟩ | ⟨rfl, n, bytes, rfl, hn, hb⟩ | ⟨rfl, m, hi, lo, rfl, hm⟩)
    · simp only [List.mem_cons, List.not_mem_nil, or_false] at hcode
      obtain rfl | rfl | rfl | rfl := hcode
      · obtain rfl := eq_of_fields hw hf (by cases o <;> rfl) rfl
        exact answers_asked_same (u := s.renewed r q) ⟨hst, hr, hq⟩ rfl rfl (releaseEffect_of_stale he' r) rfl
      · obtain rfl := eq_of_fields hw hf (by cases o <;> rfl) rfl
        exact answers_asked_same (u := s.renewed r q) ⟨hst, hr, hq⟩ rfl rfl (cancelEffect_of_stale he' r) rfl
      · obtain rfl := eq_of_fields hw hf (by cases o <;> rfl) rfl
        exact answers_asked_same (u := s.renewed r q) ⟨hst, hr, hq⟩ rfl rfl (upgradeEffect_of_stale he' r) rfl
      · obtain rfl := eq_of_fields hw hf (by cases o <;> rfl) rfl
        exact answers_asked_same (u := s.renewed r q) ⟨hst, hr, hq⟩ rfl rfl (downgradeEffect_of_stale he' r) rfl
    · obtain rfl := eq_of_fields hw hf (by cases o <;> rfl) rfl
      refine answers_asked_same (u := s.renewed r q) ⟨hst, hr, hq⟩ rfl (notePayload_of_length hb a g n) ?_ rfl
      rw [hn]
      exact writeNoteEffect_of_stale he' r hb
    · obtain rfl := eq_of_fields hw hf (by cases o <;> rfl) rfl
      obtain ⟨mode, hmode, -⟩ := modeOf_of_le_one hm
      exact answers_asked_same (u := s.renewed r q) ⟨hst, hr, hq⟩ rfl rfl (acquireEffect_of_stale he' r hmode _) rfl

/-! ### DEFINE -/

theorem State.lowestUnused_eq_some {s : State} {e : EntrySlot} (he : s.entry e = none) (hmin : ∀ e', e' < e → s.entry e' ≠ none) :
    s.lowestUnused = some e := by
  refine List.find?_eq_some_iff_getElem.mpr ⟨by simpa using he, e.val, by simp, by simp, fun j hj => ?_⟩
  have hlt : (⟨j, by omega⟩ : EntrySlot) < e := hj
  simpa [Option.isSome_iff_ne_none] using hmin _ hlt

theorem State.lowestUnused_eq_none {s : State} (h : ∀ e, s.entry e ≠ none) : s.lowestUnused = none := by
  refine List.find?_eq_none.mpr fun e _ => ?_
  simpa [Option.isSome_iff_ne_none] using h e

/-- The pairs of DIR are the tags of the live entries with their slots (R5). -/
theorem State.mem_dir {s : State} (h : s.dirLegal) {p : Tag × EntrySlot} : p ∈ s.dir ↔ ∃ en, s.entry p.2 = some en ∧ en.tag = p.1 := by
  obtain ⟨tag, e⟩ := p
  rw [h.1, List.mem_filterMap]
  constructor
  · rintro ⟨e', -, hp⟩
    obtain ⟨en, hen, heq⟩ := Option.map_eq_some_iff.mp hp
    obtain ⟨rfl, rfl⟩ := Prod.mk.inj heq
    exact ⟨en, hen, rfl⟩
  · rintro ⟨en, hen, rfl⟩
    exact ⟨e, List.mem_finRange e, by rw [hen]; rfl⟩

theorem defineEffect_of_bad {f : DefineFields} (h : shareLimitBad f.shareLimit = true) (s : State) : defineEffect f s = refuse .badValue s :=
  if_pos h

theorem defineEffect_of_exists {f : DefineFields} {s : State} (h : shareLimitBad f.shareLimit = false)
    (ht : ∃ p ∈ s.dir, p.1 = f.tag) : defineEffect f s = refuse .tagExists s := by
  have hany : (s.dir.any fun p => p.1 = f.tag) = true := by simpa using ht
  simp only [defineEffect, h, Bool.false_eq_true, if_false, hany, if_true]

theorem defineEffect_of_full {f : DefineFields} {s : State} (h : shareLimitBad f.shareLimit = false)
    (ht : ∀ p ∈ s.dir, p.1 ≠ f.tag) (hfull : s.lowestUnused = none) : defineEffect f s = refuse .tableFull s := by
  have hany : (s.dir.any fun p => p.1 = f.tag) = false := by simpa using ht
  simp only [defineEffect, h, Bool.false_eq_true, if_false, hany, hfull]

theorem defineEffect_of_unused {f : DefineFields} {s : State} {e : EntrySlot} (h : shareLimitBad f.shareLimit = false)
    (ht : ∀ p ∈ s.dir, p.1 ≠ f.tag) (he : s.lowestUnused = some e) : defineEffect f s =
      ({ s.setEntry e (definedEntry f) with dir := insertPair (f.tag, e) s.dir }, ⟨.ok, handleBytes e (s.generation e)⟩) := by
  have hany : (s.dir.any fun p => p.1 = f.tag) = false := by simpa using ht
  simp only [defineEffect, h, Bool.false_eq_true, if_false, hany, he]

/-- Settles O16: the tests of R8 in order, DIR kept legal by the new pair. -/
theorem defineMakesEntry : Obligations.DefineMakesEntry := by
  intro s o rid x y z share hi lo h hst hadmin hdir
  refine ⟨fun hbad => ?_, fun hgood htag => ?_, fun hgood htag => ?_⟩
  · exact answers_admin_same hst hadmin rfl rfl (defineEffect_of_bad (shareLimitBad_eq_true hbad) _) rfl
  · obtain ⟨e, en, hen, ht⟩ := htag
    refine answers_admin_same hst hadmin rfl rfl
      (defineEffect_of_exists (s := s.dropHanded o) (shareLimitBad_eq_false hgood.1 hgood.2) ?_) rfl
    exact ⟨(tagOf x y z, e), (State.mem_dir hdir).mpr ⟨en, hen, ht⟩, rfl⟩
  · have hnew : ∀ p ∈ s.dir, p.1 ≠ tagOf x y z := fun p hp heq => by
      obtain ⟨en, hen, ht⟩ := (State.mem_dir hdir).mp hp
      exact htag _ en hen (ht.trans heq)
    have hlimit := shareLimitBad_eq_false hgood.1 hgood.2
    refine ⟨fun hfull => ?_, fun e he hmin => ⟨insertPair (tagOf x y z, e) s.dir, State.dirLegal_define hnew he hdir, ?_⟩⟩
    · exact answers_admin_same hst hadmin rfl rfl
        (defineEffect_of_full (s := s.dropHanded o) hlimit hnew (State.lowestUnused_eq_none hfull)) rfl
    · exact answers_admin_same hst hadmin rfl rfl
        (defineEffect_of_unused (s := s.dropHanded o) hlimit hnew (State.lowestUnused_eq_some he hmin)) rfl

/-! ### SET_LIMITS -/

theorem PassesRan.freeRecords {quiet : Quiet} {list : List EntrySlot} {u t : State} (h : PassesRan quiet list u t) :
    t.freeRecords = u.freeRecords :=
  (congrArg State.freeRecords h.rest).trans rfl

theorem setLimitsEffect_of_bad {f : LimitFields} (h : shareLimitBad f.shareLimit = true) (s : State) :
    setLimitsEffect f s = refuse .badValue s :=
  if_pos h

/-- The tests of R9 on a live entry, in order. -/
theorem setLimitsEffect_of_live {f : LimitFields} {s : State} {en : Entry} (h : shareLimitBad f.shareLimit = false)
    (he : s.entryOf f.handle = some en) : setLimitsEffect f s =
      if f.shareLimit < en.holders.length then refuse .limitInUse s
      else (if en.shareLimit < f.shareLimit
        then (s.setEntry f.handle.slot { en with shareLimit := f.shareLimit, holdLimit := f.holdLimit }).runPasses .loud [f.handle.slot]
        else s.setEntry f.handle.slot { en with shareLimit := f.shareLimit, holdLimit := f.holdLimit }, ⟨.ok, []⟩) := by
  simp only [setLimitsEffect, h, Bool.false_eq_true, if_false, he]

theorem setEntry_dropHanded (s : State) (o : Origin) (e : EntrySlot) (en : Entry) :
    (s.dropHanded o).setEntry e en = (s.setEntry e en).dropHanded o := rfl

/-! ### WRITE_NOTE -/

theorem writeNoteEffect_of_bad {f : NoteFields} (h : f.length ≠ f.bytes.length) (r : ReqSlot) (s : State) :
    writeNoteEffect r f s = refuse .badValue s :=
  if_pos (.inr h)

theorem writeNoteEffect_of_live {f : NoteFields} {r : ReqSlot} {s : State} {en : Entry} (h : f.length = f.bytes.length)
    (h8 : f.bytes.length ≤ 8) (he : s.entryOf f.handle = some en) : writeNoteEffect r f s =
      if en.holdsExclusive r then (s.setEntry f.handle.slot { en with note := f.bytes, noteStale := false }, ⟨.ok, []⟩)
      else refuse .notExclusive s := by
  have hgood : ¬ (8 < f.length ∨ f.length ≠ f.bytes.length) := by omega
  simp only [writeNoteEffect, if_neg hgood, he]

/-- Settles O17: the tests of R9 and R13 in order. -/
theorem limitsAndNotesWritten : Obligations.LimitsAndNotesWritten := by
  refine ⟨fun s o rid a g share hi lo h hst hadmin => ⟨fun hbad => ?_, fun en he => ?_⟩,
    fun s o rid a g n bytes h r q hlen hA => ⟨fun hbad => ?_, fun en he => ⟨fun hn hx => ?_, fun hn hx => ?_⟩⟩⟩
  · exact answers_admin_same hst hadmin rfl rfl (setLimitsEffect_of_bad (shareLimitBad_eq_true hbad) _) rfl
  · have hlive : ∀ hgood : 1 ≤ share.toNat ∧ share.toNat ≤ 8, _ := fun hgood =>
      setLimitsEffect_of_live (f := ⟨handleOf a g, share.toNat, nat16 hi lo⟩) (s := s.dropHanded o)
        (shareLimitBad_eq_false hgood.1 hgood.2) he
    refine ⟨fun hgood hlt => ?_, fun hgood hle hsame => ?_, fun hgood hle hraised hs => ?_⟩
    · exact answers_admin_same hst hadmin rfl rfl ((hlive hgood).trans (if_pos hlt)) rfl
    · refine answers_admin_same hst hadmin rfl rfl ((hlive hgood).trans ((if_neg (Nat.not_lt.mpr hle)).trans ?_)) rfl
      rw [if_neg (Nat.not_lt.mpr hsame)]
      rfl
    · have hcons := (s.consistent_iff.mp hs).setLimits (nat16 hi lo) (State.entry_of_entryOf he)
        (shareLimitBad_eq_false hgood.1 hgood.2) hle
      have hran := State.runPasses_passesRan hcons .loud [slotOf a]
      refine ⟨_, hran, answers_admin_same hst hadmin rfl rfl ((hlive hgood).trans ((if_neg (Nat.not_lt.mpr hle)).trans ?_)) ?_⟩
      · rw [if_pos hraised, setEntry_dropHanded, runPasses_dropHanded]
        rfl
      · exact hran.freeRecords
  · exact answers_asked_same (u := s.renewed r q) hA rfl (notePayload_of_length hlen a g n) (writeNoteEffect_of_bad hbad r _) rfl
  all_goals
    have hlive := writeNoteEffect_of_live (f := ⟨handleOf a g, n.toNat, bytes⟩) (r := r) (s := (s.renewed r q).dropHanded o) hn hlen he
  · exact answers_asked_same hA rfl (notePayload_of_length hlen a g n) (hlive.trans (if_pos hx)) rfl
  · exact answers_asked_same (u := s.renewed r q) hA rfl (notePayload_of_length hlen a g n) (hlive.trans (if_neg (by simp [hx]))) rfl

end Sys2Proof.Machine
end

section
/-! The commands that read and change nothing (R10 to R12, R131, R139). -/

namespace Sys2Proof.Machine

/-! ### LOOKUP -/

theorem State.dir_find {s : State} (h : s.dirLegal) {tag : Tag} {e : EntrySlot} {en : Entry} (he : s.entry e = some en)
    (ht : en.tag = tag) : (s.dir.find? fun p => p.1 = tag) = some (tag, e) := by
  have hmem : (tag, e) ∈ s.dir := (State.mem_dir h).mpr ⟨en, he, ht⟩
  cases hf : s.dir.find? fun p => p.1 = tag with
  | none => exact absurd (decide_eq_true rfl) (List.find?_eq_none.mp hf _ hmem)
  | some p =>
    have hp : p.1 = tag := by simpa using List.find?_some hf
    rw [List.inj_on_of_nodup_map h.2 (List.mem_of_find?_eq_some hf) hmem hp]

theorem State.dir_find_none {s : State} (h : s.dirLegal) {tag : Tag} (ht : ∀ e en, s.entry e = some en → en.tag ≠ tag) :
    (s.dir.find? fun p => p.1 = tag) = none := by
  refine List.find?_eq_none.mpr fun p hp => ?_
  obtain ⟨en, hen, hpt⟩ := (State.mem_dir h).mp hp
  simpa [← hpt] using ht _ en hen

theorem lookupEffect_of_tag {s : State} {tag : Tag} {e : EntrySlot} {en : Entry} (hf : (s.dir.find? fun p => p.1 = tag) = some (tag, e))
    (he : s.entry e = some en) : lookupEffect tag s = (s, ⟨.ok, handleBytes e (s.generation e) ++ [en.state.code]⟩) := by
  simp only [lookupEffect, hf, he, answerOk]

theorem lookupEffect_of_none {s : State} {tag : Tag} (hf : (s.dir.find? fun p => p.1 = tag) = none) :
    lookupEffect tag s = refuse .noSuchTag s := by
  simp only [lookupEffect, hf]

/-! ### FIND -/

theorem findEffect_of_bad {f : FindFields} (h : 256 < f.cursor) (s : State) : findEffect f s = refuse .badValue s :=
  if_pos h

theorem findEffect_of_good {f : FindFields} (h : f.cursor ≤ 256) (s : State) : findEffect f s =
    (s, ⟨.ok, [byteOf (s.findPage f).length] ++ bytes16 (nextCursor (s.findPage f)) ++ (s.findPage f).flatMap (findItem s)⟩) :=
  if_neg (Nat.not_lt.mpr h)

theorem findItem_eq (s : State) (e : EntrySlot) : findItem s e =
    handleBytes e (s.generation e) ++ [flagByte (((s.entry e).map fun en => en.state == .retiring).getD false)] := by
  unfold findItem
  cases s.entry e <;> rfl

/-- The page of a FIND (R11). -/
theorem State.findPage_eq (s : State) (f : FindFields) : s.findPage f = ((List.finRange 256).filter fun e =>
    f.cursor ≤ e.val && ((s.entry e).map fun en => en.tag &&& f.mask == f.value &&& f.mask).getD false).take 8 := by
  rw [State.findPage, State.slotsWhere_from]
  rfl

/-! ### READ_ENTRY -/

theorem readEntryEffect_of_live {s : State} {h : Handle} {en : Entry} (he : s.entryOf h = some en) :
    readEntryEffect h s = (s, ⟨.ok, s.entryAnswer en⟩) := by
  simp only [readEntryEffect, he, answerOk]

/-! ### READ_PART_STATUS -/

/-- The elements of a vector with a property are as many as its places that hold one. -/
theorem Vector.length_filter_toList {α : Type} {n : Nat} (v : Vector α n) (p : α → Bool) :
    (v.toList.filter p).length = ((List.finRange n).filter fun i => p v[i.val]).length := by
  have hlist : v.toList = (List.finRange n).map fun i => v[i.val] := List.ext_getElem (by simp) fun i _ _ => by simp
  rw [hlist, List.filter_map, List.length_map]
  rfl

theorem State.liveCount_eq (s : State) : s.liveCount = ((List.finRange 256).filter fun e => (s.entry e).isSome).length :=
  Vector.length_filter_toList s.slots fun sl => sl.live.isSome

theorem State.openCount_eq (s : State) : s.openCount = ((List.finRange 48).filter fun r => (s.req r).isSome).length :=
  Vector.length_filter_toList s.requesters Option.isSome

/-! ### READ_NODE -/

theorem addressValid_eq_true {a : Nat} (h1 : 1 ≤ a) (h30 : a ≤ 30) : addressValid a = true := by
  simp [addressValid, h1, h30]

theorem addressValid_eq_false {a : Nat} (h : a < 1 ∨ 30 < a) : addressValid a = false := by
  simp [addressValid]
  omega

theorem readNodeEffect_of_bad {b : Byte} (h : addressValid b.toNat = false) (s : State) : readNodeEffect b s = refuse .badValue s := by
  simp only [readNodeEffect, h, Bool.not_false, if_true]

theorem readNodeEffect_of_none {b : Byte} {s : State} (h : addressValid b.toNat = true) (hn : s.node b.toNat = none) :
    readNodeEffect b s = refuse .noSuchNode s := by
  simp only [readNodeEffect, h, Bool.not_true, Bool.false_eq_true, if_false, hn]

theorem readNodeEffect_of_some {b : Byte} {s : State} {n : NodeRecord} (h : addressValid b.toNat = true) (hn : s.node b.toNat = some n) :
    readNodeEffect b s = (s, ⟨.ok, s.nodeAnswer n⟩) := by
  simp only [readNodeEffect, h, Bool.not_true, Bool.false_eq_true, if_false, hn, answerOk]

/-- The fields of a node record as READ_NODE sends them (R139, R161). -/
theorem State.nodeAnswer_eq (s : State) (n : NodeRecord) : s.nodeAnswer n =
    [n.state.code, byteOf n.missed, byteOf n.errorCount, (n.lastSequence.map byteOf).getD 0xFF#8,
      byteOf ((if n.stored.isSome then 128 else 0) + (if n.acknowledged then 64 else 0) + (n.stored.map Stored.sequence).getD 0),
      (n.stored.map fun x => x.result.code).getD 0x00#8,
      byteOf ((if n.noticeInFlight.isSome then 1 else 0) + (if s.inExchange n.address then 2 else 0))] ++
      bytes16 ((n.noticeInFlight.map BitVec.toNat).getD 0) ++
      [byteOf s.link.cycleCount, byteOf (s.reqsOf (.node n.address)).length] := by
  unfold State.nodeAnswer
  cases n.stored <;> cases n.lastSequence <;> cases n.noticeInFlight <;> rfl

/-- Settles O18: by the reading command. -/
theorem readsAnswer : Obligations.ReadsAnswer := by
  refine fun s o rid h hdir => ⟨fun x y z hst => ⟨fun e en he ht => ?_, fun ht => ?_⟩,
    fun v2 v1 v0 m2 m1 m0 hi lo hst => ⟨fun hbad => ?_, fun hgood => ?_⟩, fun a g en hst he => ?_, fun hst => ?_,
    fun b hst => ⟨fun hbad => ?_, fun h1 h30 hn => ?_, fun n h1 h30 hn => ?_⟩⟩
  · exact answers_plain_same hst rfl rfl (lookupEffect_of_tag (s := s.dropHanded o) (State.dir_find hdir he ht) he) rfl
  · exact answers_plain_same hst rfl rfl (lookupEffect_of_none (s := s.dropHanded o) (State.dir_find_none hdir ht)) rfl
  · exact answers_plain_same hst rfl rfl
      (findEffect_of_bad (f := ⟨tagOf v2 v1 v0, tagOf m2 m1 m0, nat16 hi lo⟩) hbad (s.dropHanded o)) rfl
  · have hanswer := answers_plain_same (i := .find o rid [v2, v1, v0, m2, m1, m0, hi, lo]) (u := s) hst rfl rfl
      (findEffect_of_good (f := ⟨tagOf v2 v1 v0, tagOf m2 m1 m0, nat16 hi lo⟩) hgood (s.dropHanded o)) rfl
    refine hanswer.of_payload ?_
    rw [State.findPage_eq, nextCursor_eq, funext (findItem_eq (s.dropHanded o))]
    rfl
  · exact answers_plain_same hst rfl rfl (readEntryEffect_of_live (s := s.dropHanded o) he) rfl
  · have hanswer : Answers (.readPartStatus o rid []) s s h ⟨.ok, s.statusAnswer⟩ := answers_plain_same hst rfl rfl rfl rfl
    refine hanswer.of_payload ?_
    rw [State.statusAnswer, State.liveCount_eq, State.openCount_eq]
    rfl
  · exact answers_plain_same hst rfl rfl (readNodeEffect_of_bad (addressValid_eq_false hbad) (s.dropHanded o)) rfl
  · exact answers_plain_same hst rfl rfl (readNodeEffect_of_none (s := s.dropHanded o) (addressValid_eq_true h1 h30) hn) rfl
  · have hanswer : Answers (.readNode o rid [b]) s s h ⟨.ok, s.nodeAnswer n⟩ :=
      answers_plain_same hst rfl rfl (readNodeEffect_of_some (s := s.dropHanded o) (addressValid_eq_true h1 h30) hn) rfl
    exact hanswer.of_payload (s.nodeAnswer_eq n)

end Sys2Proof.Machine
end

section
/-! RELEASE, CANCEL, UPGRADE, DOWNGRADE (R39, R41, R43, R44, R62) and the expiries of the limits (R63, R82, R86). -/

namespace Sys2Proof.Machine

/-! ### What passes cannot add -/

/-- Passes make no requester a claimant of an entry. -/
theorem Admitted.unclaimed {en en' : Entry} (h : Admitted en en') {r : ReqSlot} (hr : en.claimed r = false) : en'.claimed r = false := by
  rw [Entry.claimed_eq_false] at hr ⊢
  intro c hc
  obtain hc | hc := List.mem_append.mp hc
  · obtain hc | ⟨w, hw, -, rfl⟩ := (h.holders c).mp hc
    · exact hr c (List.mem_append_left _ hc)
    · exact hr w (List.mem_append_right _ hw)
  · exact hr c (List.mem_append_right _ (h.queue.subset hc))

section ran

variable {quiet : Quiet} {list : List EntrySlot} {u t : State} (h : PassesRan quiet list u t)

include h

/-- An entry that is live after passes was so before, and is as passes make it. -/
theorem PassesRan.admitted {e : EntrySlot} {et : Entry} (ht : t.entry e = some et) : ∃ eu, u.entry e = some eu ∧ Admitted eu et := by
  obtain ⟨eu, hu⟩ := Option.isSome_iff_exists.mp ((h.live e).symm.trans (by rw [ht]; rfl))
  exact ⟨eu, hu, h.entries e eu et hu ht⟩

theorem PassesRan.unclaimed {e : EntrySlot} {r : ReqSlot} (hu : ∀ eu, u.entry e = some eu → eu.claimed r = false) {et : Entry}
    (ht : t.entry e = some et) : et.claimed r = false := by
  obtain ⟨eu, heu, hadmitted⟩ := h.admitted ht
  exact hadmitted.unclaimed (hu eu heu)

/-- A record that waits after passes waited before. -/
theorem PassesRan.waitRecords_subset : t.waitRecords ⊆ u.waitRecords := by
  rintro ⟨e, c⟩ hc
  rw [State.mem_waitRecords] at hc ⊢
  obtain ⟨et, ht, hct⟩ := State.mem_queueAt.mp hc
  obtain ⟨eu, hu, hadmitted⟩ := h.admitted ht
  exact State.mem_queueAt.mpr ⟨eu, hu, hadmitted.queue.subset hct⟩

theorem PassesRan.overrun_kept {r : ReqSlot} {q : Requester} (hq : u.req r = some q) (ho : q.overrun = true) :
    ∃ q', t.req r = some q' ∧ q'.overrun = true := by
  obtain ⟨overrun, ht, -⟩ := h.requesters r
  rw [hq] at ht
  exact ⟨_, ht, by simp [ho]⟩

/-- What was told before passes stays told. -/
theorem PassesRan.told_before {s : State} {new : List Notice} (hnew : u.notices = s.notices ++ new) {r : ReqSlot} {e : EntrySlot}
    {g : Byte} {body : NoticeBody} (ht : Told s u r e g body) : Told s t r e g body := by
  obtain ⟨new', hnew', -⟩ := h.notices
  exact Told.trans hnew hnew' (fun q hq ho => h.overrun_kept hq ho) (.inl ht)

end ran

/-! ### Entries after a removal -/

theorem Entry.of_recomputed {en en' : Entry} (h : en.recomputed = some en') :
    en'.holders = en.holders ∧ en'.queue = en.queue ∧ en'.noteStale = en.noteStale := by
  by_cases hr : en.state = .retiring
  · rw [Entry.recomputed_of_retiring hr] at h
    split at h
    · cases h
    · cases h
      exact ⟨rfl, rfl, rfl⟩
  · rw [Entry.recomputed_of_ne_retiring hr] at h
    cases h
    exact ⟨rfl, rfl, rfl⟩

theorem Entry.claimed_of_recomputed {en en' : Entry} (h : en.recomputed = some en') (r : ReqSlot) : en'.claimed r = en.claimed r := by
  obtain ⟨hholders, hqueue, -⟩ := Entry.of_recomputed h
  simp only [Entry.claimed, Entry.hold, Entry.wait, hholders, hqueue]

/-- A requester has one record on an entry, so that without its hold it has none (R24). -/
theorem Entry.Sound.unclaimed_withoutHold {en : Entry} (h : en.Sound) {r : ReqSlot} (hr : (en.hold r).isSome) (stale : Bool) :
    (en.withoutHold r stale).claimed r = false := by
  obtain ⟨c, hc, rfl⟩ := Entry.hold_isSome.mp hr
  have hdistinct := h.distinct
  rw [List.map_append, List.nodup_append] at hdistinct
  refine Entry.claimed_eq_false.mpr fun d hd heq => ?_
  obtain hd | hd := List.mem_append.mp hd
  · exact of_decide_eq_true (List.mem_filter.mp hd).2 heq
  · exact hdistinct.2.2 _ (List.mem_map_of_mem hc) _ (List.mem_map_of_mem hd) heq.symm

theorem Entry.Sound.unclaimed_withoutWait {en : Entry} (h : en.Sound) {r : ReqSlot} (hr : (en.wait r).isSome) :
    (en.withoutWait r).claimed r = false := by
  obtain ⟨c, hc, rfl⟩ := Entry.wait_isSome.mp hr
  have hdistinct := h.distinct
  rw [List.map_append, List.nodup_append] at hdistinct
  refine Entry.claimed_eq_false.mpr fun d hd heq => ?_
  obtain hd | hd := List.mem_append.mp hd
  · exact hdistinct.2.2 _ (List.mem_map_of_mem hd) _ (List.mem_map_of_mem hc) heq
  · exact of_decide_eq_true (List.mem_filter.mp hd).2 heq

/-- The entry that a hold has left, after the notice and the recomputation. -/
theorem State.entry_endHold {s : State} {r : ReqSlot} {e : EntrySlot} {en eu : Entry} {stale : Bool} {notify : State → State}
    (hn : Notifying notify) (hen : s.entry e = some en) (hu : ((notify (s.dropHold r e stale)).recompute e).entry e = some eu) :
    (en.withoutHold r stale).recomputed = some eu := by
  have hentry : (notify (s.dropHold r e stale)).entry e = some (en.withoutHold r stale) := by
    have hdrop : (s.dropHold r e stale).entry e = some (en.withoutHold r stale) := by
      rw [State.entry_dropHold, if_pos rfl, hen]
      rfl
    cases hn with
    | nothing => exact hdrop
    | notice r' e' body => exact (State.entry_queueNotice _ r' e' body e).trans hdrop
  rwa [State.entry_recompute, if_pos rfl, hentry, Option.bind_some] at hu

theorem State.entry_endWait {s : State} {r : ReqSlot} {e : EntrySlot} {en eu : Entry} {notify : State → State}
    (hn : Notifying notify) (hen : s.entry e = some en) (hu : ((notify (s.dropWait r e)).recompute e).entry e = some eu) :
    (en.withoutWait r).recomputed = some eu := by
  have hentry : (notify (s.dropWait r e)).entry e = some (en.withoutWait r) := by
    have hdrop : (s.dropWait r e).entry e = some (en.withoutWait r) := by
      rw [State.entry_dropWait, if_pos rfl, hen]
      rfl
    cases hn with
    | nothing => exact hdrop
    | notice r' e' body => exact (State.entry_queueNotice _ r' e' body e).trans hdrop
  rwa [State.entry_recompute, if_pos rfl, hentry, Option.bind_some] at hu

/-- The passes after a hold has left its entry (R39, R86). -/
theorem State.endHold_ran {s : State} (h : s.Consistent) {r : ReqSlot} {e : EntrySlot} {en : Entry} (hen : s.entry e = some en)
    (hr : (en.hold r).isSome) (stale : Bool) {notify : State → State} (hn : Notifying notify) :
    PassesRan .loud [e] ((notify (s.dropHold r e stale)).recompute e)
        (((notify (s.dropHold r e stale)).recompute e).runPasses .loud [e]) ∧
      ∀ ew, (((notify (s.dropHold r e stale)).recompute e).runPasses .loud [e]).entry e = some ew →
        ew.claimed r = false ∧ ew.noteStale = (en.withoutHold r stale).noteStale := by
  have hran := State.runPasses_passesRan (h.endHold hen hr stale hn) .loud [e]
  refine ⟨hran, fun ew hw => ?_⟩
  obtain ⟨eu, hu, hadmitted⟩ := hran.admitted hw
  have hrecomputed := State.entry_endHold hn hen hu
  obtain ⟨-, -, hnote⟩ := Entry.of_recomputed hrecomputed
  obtain ⟨-, -, -, -, hnote'⟩ := hadmitted.fixed
  exact ⟨hadmitted.unclaimed ((Entry.claimed_of_recomputed hrecomputed r).trans ((h.sound e en hen).unclaimed_withoutHold hr stale)),
    hnote'.trans hnote⟩

/-- The passes after a single wait has left its entry (R41, R82). -/
theorem State.endWait_ran {s : State} (h : s.Consistent) {r : ReqSlot} {e : EntrySlot} {en : Entry} {c : Claim} (hen : s.entry e = some en)
    (hc : en.wait r = some c) (hid : c.setId = none) {notify : State → State} (hn : Notifying notify) :
    PassesRan .loud [e] ((notify (s.dropWait r e)).recompute e) (((notify (s.dropWait r e)).recompute e).runPasses .loud [e]) ∧
      ∀ ew, (((notify (s.dropWait r e)).recompute e).runPasses .loud [e]).entry e = some ew → ew.claimed r = false := by
  have hran := State.runPasses_passesRan (h.endWait hen hc hid hn) .loud [e]
  refine ⟨hran, fun ew hw => hran.unclaimed (fun eu hu => ?_) hw⟩
  have hrecomputed := State.entry_endWait hn hen hu
  exact (Entry.claimed_of_recomputed hrecomputed r).trans ((h.sound e en hen).unclaimed_withoutWait (by rw [hc]; rfl))

/-- The passes after a waiting set has left its entries (R62, R63). -/
theorem State.endSet_ran {s : State} (h : s.Consistent) {r : ReqSlot} {e : EntrySlot} {en : Entry} {c : Claim} {id : Word16}
    (hen : s.entry e = some en) (hc : en.wait r = some c) (hid : c.setId = some id) {notify : State → State} (hn : Notifying notify) :
    PassesRan .loud (s.setMembers r id) ((notify (s.dropSet r id)).recomputeAll (s.setMembers r id)) (s.endSet r id notify) ∧
      ∀ x ∈ (s.endSet r id notify).waitRecords, x.2.setId ≠ some id := by
  have hran : PassesRan .loud (s.setMembers r id) _ (s.endSet r id notify) :=
    State.runPasses_passesRan (h.dropSet r id hn) .loud (s.setMembers r id)
  refine ⟨hran, fun x hx hxid => ?_⟩
  obtain ⟨hmem, hcr⟩ := Entry.mem_of_wait hc
  have hcs : c ∈ s.queueAt e := State.mem_queueAt.mpr ⟨en, hen, hmem⟩
  have hcin : c.inSet r id = true := by simp [Claim.inSet, hid, hcr]
  obtain ⟨x, d⟩ := x
  have hd := State.mem_waitRecords.mp (hran.waitRecords_subset hx)
  obtain ⟨eu, hu, hdu⟩ := State.mem_queueAt.mp hd
  have hentry : ∀ y, (notify (s.dropSet r id)).entry y = (s.entry y).map (·.withoutSet r id) := fun y => by
    cases hn with
    | nothing => exact State.entry_dropSet s r id y
    | notice r' e' body => exact (State.entry_queueNotice _ r' e' body y).trans (State.entry_dropSet s r id y)
  obtain ⟨ex, hex, hdx⟩ : ∃ ex, s.entry x = some ex ∧ d ∈ (ex.withoutSet r id).queue := by
    rw [State.entry_recomputeAll, hentry] at hu
    split at hu
    · obtain ⟨ev, hev, hrec⟩ := Option.bind_eq_some_iff.mp hu
      obtain ⟨ex, hex, rfl⟩ := Option.map_eq_some_iff.mp hev
      exact ⟨ex, hex, (Entry.of_recomputed hrec).2.1 ▸ hdu⟩
    · obtain ⟨ex, hex, rfl⟩ := Option.map_eq_some_iff.mp hu
      exact ⟨ex, hex, hdu⟩
  obtain ⟨hdq, hout⟩ := List.mem_filter.mp hdx
  have hin := h.table.sets.inSet hcs (State.mem_queueAt.mpr ⟨ex, hex, hdq⟩) hcin (hxid.trans hid.symm)
  simp [hin] at hout

/-! ### RELEASE and CANCEL -/

section effects

variable {s : State} {h : Handle} {en : Entry} (he : s.entryOf h = some en) (r : ReqSlot)

include he

theorem releaseEffect_of_live : releaseEffect r h s =
    if (en.hold r).isSome then (((s.dropHold r h.slot false).recompute h.slot).runPasses .loud [h.slot], ⟨.ok, []⟩)
    else refuse .notHeld s := by
  simp only [releaseEffect, he]

theorem cancelEffect_of_none (hw : en.wait r = none) : cancelEffect r h s = refuse .notWaiting s := by
  simp only [cancelEffect, he, hw]

theorem cancelEffect_of_single {c : Claim} (hw : en.wait r = some c) (hid : c.setId = none) :
    cancelEffect r h s = (((s.dropWait r h.slot).recompute h.slot).runPasses .loud [h.slot], ⟨.ok, []⟩) := by
  simp only [cancelEffect, he, hw, hid]

theorem cancelEffect_of_set {c : Claim} {id : Word16} (hw : en.wait r = some c) (hid : c.setId = some id) :
    cancelEffect r h s = (s.endSet r id (fun s => s), ⟨.ok, []⟩) := by
  simp only [cancelEffect, he, hw, hid]

end effects

theorem endSet_dropHanded (s : State) (o : Origin) (r : ReqSlot) (id : Word16) :
    (s.dropHanded o).endSet r id (fun s => s) = (s.endSet r id fun s => s).dropHanded o := by
  have hmembers : (s.dropHanded o).setMembers r id = s.setMembers r id := rfl
  simp only [State.endSet, hmembers, dropSet_dropHanded, recomputeAll_dropHanded, runPasses_dropHanded]

/-- Settles O30: the record leaves its entry and the passes run. -/
theorem releaseAndCancel : Obligations.ReleaseAndCancel := by
  refine ⟨fun s o rid a g h r q en hA he => ⟨fun hnone => ?_, fun hsome hs => ?_⟩,
    fun s o rid a g h r q en hA he => ⟨fun hnone => ?_, fun c hc hid hs => ?_, fun c id hc hid hs => ?_⟩⟩
  all_goals have he' : ((s.renewed r q).dropHanded o).entryOf (handleOf a g) = some en := he
  · exact answers_asked_same (u := s.renewed r q) hA rfl rfl
      ((releaseEffect_of_live he' r).trans (if_neg (by simp [hnone]))) rfl
  · have hcons := (s.consistent_iff.mp hs).renewed hA.2.2
    obtain ⟨hran, hew⟩ := State.endHold_ran hcons (State.entry_of_entryOf he) hsome false .nothing
    refine ⟨_, hran, fun ew hw => (hew ew hw).1, answers_asked hA rfl rfl ((releaseEffect_of_live he' r).trans ((if_pos hsome).trans ?_))⟩
    rw [dropHold_dropHanded, recompute_dropHanded, runPasses_dropHanded]
  · exact answers_asked_same (u := s.renewed r q) hA rfl rfl (cancelEffect_of_none he' r hnone) rfl
  · have hcons := (s.consistent_iff.mp hs).renewed hA.2.2
    obtain ⟨hran, hew⟩ := State.endWait_ran hcons (State.entry_of_entryOf he) hc hid .nothing
    refine ⟨_, hran, hew, answers_asked hA rfl rfl ((cancelEffect_of_single he' r hc hid).trans ?_)⟩
    rw [dropWait_dropHanded, recompute_dropHanded, runPasses_dropHanded]
  · have hcons := (s.consistent_iff.mp hs).renewed hA.2.2
    obtain ⟨hran, hew⟩ := State.endSet_ran hcons (State.entry_of_entryOf he) hc hid .nothing
    refine ⟨_, hran, hew, answers_asked hA rfl rfl ((cancelEffect_of_set he' r hc hid).trans ?_)⟩
    rw [endSet_dropHanded]

/-! ### UPGRADE and DOWNGRADE -/

theorem State.setEntry_setEntry (s : State) (e : EntrySlot) (x y : Entry) : (s.setEntry e x).setEntry e y = s.setEntry e y := by
  simp [State.setEntry, State.generation]

/-- An entry that is written and recomputed, and is not to be freed. -/
theorem State.recompute_setEntry (s : State) (e : EntrySlot) {x : Entry} (hx : x.state = .retiring → x.holders ≠ []) :
    (s.setEntry e x).recompute e = s.setEntry e x.settle := by
  have hentry : (s.setEntry e x).entry e = some x := by rw [State.entry_setEntry, if_pos rfl]
  rw [State.recompute_of_kept (by rw [hentry]; rintro _ ⟨⟩; exact hx), State.modifyEntry, hentry]
  exact s.setEntry_setEntry e x x.settle

/-- The state of an entry under one holder alone. -/
theorem Entry.settle_sole (en : Entry) (c : Claim) (m : Mode) : ({ en with holders := [{ c with mode := m }] } : Entry).settle =
    { en with
      holders := [{ c with mode := m }]
      state := if en.state = .retiring then .retiring else match m with | .exclusive => .exclusive | .shared => .shared } := by
  unfold Entry.settle
  by_cases hr : en.state = .retiring
  · simp [hr]
  · cases m <;> simp [hr, Entry.derivedState]

/-- The only holder's record takes another mode (R43, R44). -/
theorem Entry.setHoldMode_sole {en : Entry} {r : ReqSlot} {c : Claim} (hc : en.hold r = some c) (hone : en.holders.length = 1) (m : Mode) :
    en.setHoldMode r m = { en with holders := [{ c with mode := m }] } := by
  obtain ⟨hmem, hcr⟩ := Entry.mem_of_hold hc
  obtain ⟨d, hd⟩ := List.length_eq_one_iff.mp hone
  obtain rfl : c = d := by simpa [hd] using hmem
  simp [Entry.setHoldMode, hd, hcr]

/-- The change of the mode of the only hold, and the recomputation. -/
theorem State.setHoldMode_recompute (s : State) (e : EntrySlot) {en : Entry} {r : ReqSlot} {c : Claim} (hc : en.hold r = some c)
    (hone : en.holders.length = 1) (m : Mode) : (s.setEntry e (en.setHoldMode r m)).recompute e =
      s.setEntry e { en with
        holders := [{ c with mode := m }]
        state := if en.state = .retiring then .retiring else match m with | .exclusive => .exclusive | .shared => .shared } := by
  rw [Entry.setHoldMode_sole hc hone, State.recompute_setEntry s e (by simp), Entry.settle_sole]

section modes

variable {s : State} {h : Handle} {en : Entry} (he : s.entryOf h = some en) {r : ReqSlot}

include he

theorem upgradeEffect_of_none (hh : en.hold r = none) : upgradeEffect r h s = refuse .notHeld s := by
  simp only [upgradeEffect, he, hh]

theorem upgradeEffect_of_exclusive {c : Claim} (hh : en.hold r = some c) (hm : c.mode = .exclusive) :
    upgradeEffect r h s = (s, ⟨.ok, []⟩) := by
  simp only [upgradeEffect, he, hh, hm, answerOk]

theorem upgradeEffect_of_shared {c : Claim} (hh : en.hold r = some c) (hm : c.mode = .shared) : upgradeEffect r h s =
    if en.holders.any fun d => d.requester ≠ r then refuse .notSole s
    else ((s.setEntry h.slot (en.setHoldMode r .exclusive)).recompute h.slot, ⟨.ok, []⟩) := by
  simp only [upgradeEffect, he, hh, hm, changeOk]

theorem downgradeEffect_of_live : downgradeEffect r h s =
    if en.holdsExclusive r then
      (((s.setEntry h.slot (en.setHoldMode r .shared)).recompute h.slot).runPasses .loud [h.slot], ⟨.ok, []⟩)
    else refuse .notExclusive s := by
  simp only [downgradeEffect, he, changeOk]

end modes

/-- Beside a requester's hold another one stands exactly when there is not one hold alone. -/
theorem Entry.any_other_iff {en : Entry} (h : en.legal) {r : ReqSlot} {c : Claim} (hc : en.hold r = some c) :
    (en.holders.any fun d => d.requester ≠ r) = true ↔ en.holders.length ≠ 1 := by
  obtain ⟨hmem, hcr⟩ := Entry.mem_of_hold hc
  constructor
  · intro hany hone
    obtain ⟨d, hd⟩ := List.length_eq_one_iff.mp hone
    obtain rfl : c = d := by simpa [hd] using hmem
    simp [hd, hcr] at hany
  · intro hne
    by_contra hany
    exact hne ((en.legal_iff.mp h).1.holders_length_of_sole hc (by simpa using hany))

theorem Entry.holdsExclusive_of_hold {en : Entry} {r : ReqSlot} {c : Claim} (hc : en.hold r = some c) (hm : c.mode = .exclusive) :
    en.holdsExclusive r = true := by
  obtain ⟨hmem, hcr⟩ := Entry.mem_of_hold hc
  exact Entry.holdsExclusive_iff.mpr ⟨c, hmem, hcr, hm⟩

/-- Settles O31: the tests of R43 and R44, and the mode of the only hold. -/
theorem upgradeAndDowngrade : Obligations.UpgradeAndDowngrade := by
  refine ⟨fun s o rid a g h r q en hA he hlegal => ⟨fun hnone => ?_, fun c hc hm => ?_, fun c hc hm hne => ?_, fun c hc hm hone => ?_⟩,
    fun s o rid a g h r q en hA he hs => ⟨fun hnot => ?_, fun c hc hm => ?_⟩⟩
  all_goals have he' : ((s.renewed r q).dropHanded o).entryOf (handleOf a g) = some en := he
  · exact answers_asked_same (u := s.renewed r q) hA rfl rfl (upgradeEffect_of_none he' hnone) rfl
  · exact answers_asked_same (u := s.renewed r q) hA rfl rfl (upgradeEffect_of_exclusive he' hc hm) rfl
  · exact answers_asked_same (u := s.renewed r q) hA rfl rfl
      ((upgradeEffect_of_shared he' hc hm).trans (if_pos ((Entry.any_other_iff hlegal hc).mpr hne))) rfl
  · have hsole : ¬ (en.holders.any fun d => d.requester ≠ r) = true := fun hany => (Entry.any_other_iff hlegal hc).mp hany hone
    refine answers_asked_same hA rfl rfl ((upgradeEffect_of_shared he' hc hm).trans ((if_neg hsole).trans ?_)) rfl
    rw [State.setHoldMode_recompute _ _ hc hone]
    rfl
  · exact answers_asked_same (u := s.renewed r q) hA rfl rfl ((downgradeEffect_of_live he').trans (if_neg (by simp [hnot]))) rfl
  · have hcons := (s.consistent_iff.mp hs).renewed hA.2.2
    have hx := Entry.holdsExclusive_of_hold hc hm
    have hone := hcons.sole_of_exclusive (State.entry_of_entryOf he) hx
    have hmode := State.setHoldMode_recompute (s.renewed r q) (slotOf a) hc hone .shared
    have hran := State.runPasses_passesRan (hcons.setHoldMode (State.entry_of_entryOf he) r hone .shared) .loud [slotOf a]
    rw [show (handleOf a g).slot = slotOf a from rfl, hmode] at hran
    refine ⟨_, hran, answers_asked_same hA rfl rfl ((downgradeEffect_of_live he').trans ((if_pos hx).trans ?_)) hran.freeRecords⟩
    rw [setEntry_dropHanded, recompute_dropHanded, runPasses_dropHanded, show (handleOf a g).slot = slotOf a from rfl, hmode]

/-! ### The expiries of the limits -/

theorem exec_waitLimitExpiry {s : State} {r : ReqSlot} {e : EntrySlot} {en : Entry} {c : Claim} (hen : s.entry e = some en)
    (hc : en.wait r = some c) (hid : c.setId = none) (hd : c.deadline = some 0) : exec (.waitLimitExpiry r e) s =
      finishEvent s ((((s.dropWait r e).queueNotice r e (.waitExpired none)).recompute e).runPasses .loud [e]) := by
  simp only [exec, execWaitLimitExpiry, hen, Option.bind_some, hc, if_pos (And.intro hid hd)]

theorem exec_setWaitLimitExpiry {s : State} {r : ReqSlot} {e : EntrySlot} {en : Entry} {c : Claim} {id : Word16}
    (hen : s.entry e = some en) (hc : en.wait r = some c) (hid : c.setId = some id) (hf : c.firstMember = true)
    (hd : c.deadline = some 0) : exec (.setWaitLimitExpiry r e) s =
      finishEvent s (s.endSet r id fun s => s.queueNotice r e (.waitExpired (some id))) := by
  simp only [exec, execSetWaitLimitExpiry, hen, Option.bind_some, hc, hid, if_pos (And.intro hf hd)]

theorem exec_holdLimitExpiry {s : State} {r : ReqSlot} {e : EntrySlot} {en : Entry} {c : Claim} (hen : s.entry e = some en)
    (hc : en.hold r = some c) (hd : c.deadline = some 0) : exec (.holdLimitExpiry r e) s =
      finishEvent s ((((s.dropHold r e true).queueNotice r e (.revoked .holdLimit)).recompute e).runPasses .loud [e]) := by
  simp only [exec, execHoldLimitExpiry, hen, Option.bind_some, hc, if_pos hd]

theorem Entry.holdsExclusive_eq {en : Entry} (h : en.Sound) {r : ReqSlot} {c : Claim} (hc : en.hold r = some c) :
    en.holdsExclusive r = decide (c.mode = .exclusive) := by
  by_cases hm : c.mode = .exclusive
  · rw [Entry.holdsExclusive_of_hold hc hm, decide_eq_true hm]
  · rw [decide_eq_false hm, Bool.eq_false_iff]
    intro hx
    obtain ⟨d, hd, hdr, hdm⟩ := Entry.holdsExclusive_iff.mp hx
    obtain ⟨hmem, hcr⟩ := Entry.mem_of_hold hc
    obtain ⟨x, hx⟩ := List.length_eq_one_iff.mp (h.exclusive d hd hdm)
    rw [hx, List.mem_singleton] at hd hmem
    exact hm (hmem.trans hd.symm ▸ hdm)

theorem State.notices_recompute (s : State) (e : EntrySlot) : (s.recompute e).notices = s.notices := by
  unfold State.recompute
  split
  · rfl
  · split
    · split <;> rfl
    · rfl

/-- A revoked hold is told by its notice (R86, R113). -/
theorem State.told_revoked {s : State} (h : s.Consistent) {r : ReqSlot} {e : EntrySlot} {en : Entry} (hen : s.entry e = some en)
    (hr : (en.hold r).isSome) {w : State}
    (hran : PassesRan .loud [e] (((s.dropHold r e true).queueNotice r e (.revoked .holdLimit)).recompute e) w) :
    Told s w r e (s.generation e) (.revoked .holdLimit) := by
  obtain ⟨c, hc, rfl⟩ := Entry.hold_isSome.mp hr
  have hopen : ((s.dropHold c.requester e true).req c.requester).isSome := by
    rw [State.req_dropHold, if_pos rfl, Option.isSome_map]
    exact h.table.owned e c (List.mem_append_left _ (State.mem_holdersAt.mpr ⟨en, hen, hc⟩))
  have hsilent := Telling.dropHold s c.requester e true
  have hnotice := Telling.queueNotice (s.dropHold c.requester e true) c.requester e (.revoked .holdLimit)
  have htold := hsilent.told_after hnotice (Told.queueNotice hopen e (.revoked .holdLimit))
  rw [hsilent.generations] at htold
  obtain ⟨new, hnew, -⟩ := (hsilent.trans hnotice).notices
  obtain ⟨new', hnew', -⟩ := hran.notices
  rw [State.notices_recompute] at hnew'
  refine Told.trans hnew hnew' (fun q hq ho => ?_) (.inl htold)
  exact hran.overrun_kept (by rwa [State.req_recompute]) ho

/-- Settles O34: the record leaves with its notice, and the passes run. -/
theorem limitsExpire : Obligations.LimitsExpire := by
  refine ⟨fun s r e en c hs hen hc hd => ⟨fun hid => ?_, fun id hid hf => ?_⟩, fun s r e en c hs hen hc hd => ?_⟩
  all_goals have hcons := s.consistent_iff.mp hs
  · obtain ⟨hran, hew⟩ := State.endWait_ran hcons hen hc hid (.notice r e (.waitExpired none))
    have hframe : EvictFrame s ((((s.dropWait r e).queueNotice r e (.waitExpired none)).recompute e).runPasses .loud [e]) :=
      ((((ClaimFrame.dropWait s r e).trans (.queueNotice ..)).trans (.recompute ..)).trans (.runPasses ..)).toEvictFrame
    obtain ⟨hunasked, hsame⟩ := hframe.unasked s.freeRecords
    exact ⟨_, _, hran, hew, exec_waitLimitExpiry hen hc hid hd, hunasked, hsame⟩
  · obtain ⟨hran, hew⟩ := State.endSet_ran hcons hen hc hid (.notice r e (.waitExpired (some id)))
    have hframe : EvictFrame s (s.endSet r id fun s => s.queueNotice r e (.waitExpired (some id))) :=
      ((((ClaimFrame.dropSet s r id).trans (.queueNotice ..)).trans (.recomputeAll ..)).trans (.runPasses ..)).toEvictFrame
    obtain ⟨hunasked, hsame⟩ := hframe.unasked s.freeRecords
    exact ⟨_, _, hran, hew, exec_setWaitLimitExpiry hen hc hid hf hd, hunasked, hsame⟩
  · have hsome : (en.hold r).isSome := by rw [hc]; rfl
    obtain ⟨hran, hew⟩ := State.endHold_ran hcons hen hsome true (.notice r e (.revoked .holdLimit))
    have hframe : EvictFrame s ((((s.dropHold r e true).queueNotice r e (.revoked .holdLimit)).recompute e).runPasses .loud [e]) :=
      ((((ClaimFrame.dropHold s r e true).trans (.queueNotice ..)).trans (.recompute ..)).trans (.runPasses ..)).toEvictFrame
    obtain ⟨hunasked, hsame⟩ := hframe.unasked s.freeRecords
    refine ⟨_, _, hran, fun ew hw => (hew ew hw).1, fun ew hw => (hew ew hw).2.trans ?_, State.told_revoked hcons hen hsome hran,
      exec_holdLimitExpiry hen hc hd, hunasked, hsame⟩
    rw [Entry.withoutHold, Entry.holdsExclusive_eq (hcons.sound e en hen) hc, Bool.true_and]

end Sys2Proof.Machine
end

section
/-! Changes of the claim table that are told by its entries, the pool and the requesters alone, how claims leave their entries (R3, R14,
R20, R39, R41, R46, R62, R86, R104), and the ACQUIRE that is granted at once (R27, R28). -/

namespace Sys2Proof.Machine

/-! ### Changes that the entries tell -/

/-- From s to t slots, DIR, the pool and requester records changed alone; a slot that was freed stands under its next generation and has no
pair in DIR, and no slot came into use (R4, R5). -/
structure StoreMoved (s t : State) : Prop where
  rest : t = { s with slots := t.slots, dir := t.dir, freeRecords := t.freeRecords, requesters := t.requesters }
  unused : ∀ e, s.entry e = none → t.entry e = none
  generation : ∀ e, t.generation e = if (s.entry e).isSome ∧ t.entry e = none then s.generation e + 1 else s.generation e
  dir : t.dir = s.dir.filter fun p => (t.entry p.2).isSome || (s.entry p.2).isNone

/-- A change that frees no slot. -/
theorem StoreMoved.of_live {s t : State}
    (hrest : t = { s with slots := t.slots, freeRecords := t.freeRecords, requesters := t.requesters })
    (hgen : ∀ e, t.generation e = s.generation e) (hlive : ∀ e, (t.entry e).isSome = (s.entry e).isSome) : StoreMoved s t := by
  have hdir : t.dir = s.dir := by rw [hrest]
  have hnone : ∀ e, t.entry e = none ↔ s.entry e = none := fun e => by
    rw [← Option.isNone_iff_eq_none, ← Option.isNone_iff_eq_none, ← Option.not_isSome, ← Option.not_isSome, hlive]
  refine ⟨by rw [hdir]; exact hrest, fun e he => (hnone e).mpr he, fun e => ?_, ?_⟩
  · refine (hgen e).trans (if_neg ?_).symm
    rintro ⟨hsome, hn⟩
    simp [(hnone e).mp hn] at hsome
  · rw [hdir]
    refine (List.filter_eq_self.mpr fun p _ => ?_).symm
    rw [hlive]
    cases s.entry p.2 <;> rfl

theorem StoreMoved.refl (s : State) : StoreMoved s s := .of_live rfl (fun _ => rfl) fun _ => rfl

theorem StoreMoved.trans {s t u : State} (h : StoreMoved s t) (g : StoreMoved t u) : StoreMoved s u := by
  refine ⟨?_, fun e he => g.unused e (h.unused e he), fun e => ?_, ?_⟩
  · exact g.rest.trans (congrArg (fun x : State =>
      { x with slots := u.slots, dir := u.dir, freeRecords := u.freeRecords, requesters := u.requesters }) h.rest)
  · have hunused := g.unused e
    rw [g.generation, h.generation]
    cases hs : s.entry e with
    | none => simp [h.unused e hs]
    | some en =>
      cases ht : t.entry e with
      | none => simp [hunused ht]
      | some en' => simp
  · rw [g.dir, h.dir, List.filter_filter]
    refine List.filter_congr fun p _ => ?_
    have hs := h.unused p.2
    have ht := g.unused p.2
    cases hse : s.entry p.2 <;> cases hte : t.entry p.2 <;> cases hue : u.entry p.2 <;> simp_all

/-- Such a change is told by the entries, the pool and the requesters that it leaves. -/
theorem StoreMoved.eq {s t u : State} (h : StoreMoved s t) (g : StoreMoved s u) (hentry : ∀ e, t.entry e = u.entry e)
    (hfree : t.freeRecords = u.freeRecords) (hreq : ∀ r, t.req r = u.req r) : t = u := by
  have hslots : t.slots = u.slots := by
    apply Vector.ext
    intro e he
    have hgen : t.generation ⟨e, he⟩ = u.generation ⟨e, he⟩ := by rw [h.generation, g.generation, hentry]
    have hlive := hentry ⟨e, he⟩
    unfold State.generation at hgen
    unfold State.entry at hlive
    cases htslot : t.slots[e]
    cases huslot : u.slots[e]
    simp_all
  have hreqs : t.requesters = u.requesters := Vector.ext fun r hr => hreq ⟨r, hr⟩
  have hdir : t.dir = u.dir := by
    rw [h.dir, g.dir]
    exact List.filter_congr fun p _ => by rw [hentry]
  rw [h.rest, g.rest, hslots, hreqs, hdir, hfree]

theorem StoreMoved.eq_with {s t : State} (h : StoreMoved s t) {n : Nat} {reqs : Vector (Option Requester) 48} (hn : t.freeRecords = n)
    (hr : t.requesters = reqs) : t = { s with slots := t.slots, dir := t.dir, freeRecords := n, requesters := reqs } := by
  subst hn hr
  exact h.rest

/-! ### The operations -/

section operations

variable (s : State)

theorem StoreMoved.counts (n : Nat) (reqs : Vector (Option Requester) 48) :
    StoreMoved s { s with freeRecords := n, requesters := reqs } :=
  .of_live rfl (fun _ => rfl) fun _ => rfl

theorem StoreMoved.setEntry {e : EntrySlot} (he : (s.entry e).isSome) (en : Entry) : StoreMoved s (s.setEntry e en) := by
  refine .of_live rfl (fun e' => State.generation_setEntry s e en e') fun e' => ?_
  rw [State.entry_setEntry]
  split
  · next h => rw [← h, he]; rfl
  · rfl

theorem StoreMoved.modifyEntry (e : EntrySlot) (f : Entry → Entry) : StoreMoved s (s.modifyEntry e f) := by
  cases he : s.entry e with
  | none => simpa [State.modifyEntry, he] using StoreMoved.refl s
  | some en => simpa [State.modifyEntry, he] using StoreMoved.setEntry s (by rw [he]; rfl) (f en)

theorem StoreMoved.modifyReq (r : ReqSlot) (f : Requester → Requester) : StoreMoved s (s.modifyReq r f) := by
  unfold State.modifyReq
  split
  · exact .counts s s.freeRecords _
  · exact .refl s

theorem StoreMoved.freeSlot {e : EntrySlot} (he : (s.entry e).isSome) : StoreMoved s (s.freeSlot e) := by
  have hentry : ∀ e', (s.freeSlot e).entry e' = if e = e' then none else s.entry e' := fun e' => State.entry_freeSlot s e e'
  refine ⟨rfl, fun e' h => ?_, fun e' => ?_, List.filter_congr fun p _ => ?_⟩
  · rw [hentry, h, ite_self]
  · rw [hentry, State.generation_freeSlot]
    by_cases heq : e = e'
    · subst heq
      simp [he]
    · cases hs : s.entry e' <;> simp [heq]
  · rw [hentry]
    by_cases heq : e = p.2
    · subst heq
      rw [if_pos rfl, Bool.eq_iff_iff]
      cases hp : s.entry p.2 <;> simp_all
    · cases hs : s.entry p.2 <;> simp [heq, Ne.symm heq]

theorem StoreMoved.recompute (e : EntrySlot) : StoreMoved s (s.recompute e) := by
  cases he : s.entry e with
  | none => simpa [State.recompute, he] using StoreMoved.refl s
  | some en =>
    have hlive : (s.entry e).isSome := by rw [he]; rfl
    have heq : s.recompute e = if en.state = .retiring then (if en.holders.isEmpty then s.freeSlot e else s)
        else s.setEntry e { en with state := en.derivedState } := by
      simp only [State.recompute, he]
    rw [heq]
    split
    · split
      · exact .freeSlot s hlive
      · exact .refl s
    · exact .setEntry s hlive _

theorem StoreMoved.foldl {α : Type} {f : State → α → State} (h : ∀ s a, StoreMoved s (f s a)) (l : List α) : StoreMoved s (l.foldl f s) := by
  induction l generalizing s with
  | nil => exact .refl s
  | cons a l ih => exact (h s a).trans (ih _)

theorem StoreMoved.recomputeAll (es : List EntrySlot) : StoreMoved s (s.recomputeAll es) := .foldl s (fun s e => .recompute s e) es

theorem StoreMoved.mapEntries (f : EntrySlot → Entry → Entry) (n : Nat) (reqs : Vector (Option Requester) 48) :
    StoreMoved s { s with slots := s.mapEntries f, freeRecords := n, requesters := reqs } := by
  refine .of_live rfl (fun e => ?_) fun e => ?_
  · simp [State.generation, State.mapEntries]
  · simp [State.entry, State.mapEntries]

theorem StoreMoved.dropHold (r : ReqSlot) (e : EntrySlot) (stale : Bool) : StoreMoved s (s.dropHold r e stale) := by
  unfold State.dropHold
  exact (StoreMoved.modifyEntry s e _).trans (.trans (.counts _ _ _) (.modifyReq _ r _))

theorem StoreMoved.dropWait (r : ReqSlot) (e : EntrySlot) : StoreMoved s (s.dropWait r e) := by
  unfold State.dropWait
  exact (StoreMoved.modifyEntry s e _).trans (.trans (.counts _ _ _) (.modifyReq _ r _))

theorem StoreMoved.dropSet (r : ReqSlot) (id : Word16) : StoreMoved s (s.dropSet r id) := by
  unfold State.dropSet
  exact (StoreMoved.foldl s (fun s e => .modifyEntry s e _) _).trans (.trans (.counts _ _ _) (.modifyReq _ r _))

theorem StoreMoved.stripAll (r : ReqSlot) (stale : Bool) : StoreMoved s (s.stripAll r stale) := by
  unfold State.stripAll
  exact (StoreMoved.foldl s (fun s e => .modifyEntry s e _) _).trans
    (.trans (.counts _ _ _) (.trans (.modifyReq _ r _) (.recomputeAll _ _)))

theorem StoreMoved.grantNow (r : ReqSlot) (e : EntrySlot) (m : Mode) (id : Option Word16) : StoreMoved s (s.grantNow r e m id) := by
  unfold State.grantNow
  exact (StoreMoved.modifyEntry s e _).trans (.trans (.counts _ _ _) (.trans (.modifyReq _ r _) (.recompute _ e)))

theorem StoreMoved.place (e : EntrySlot) (c : Claim) : StoreMoved s (s.place e c) := by
  unfold State.place
  exact (StoreMoved.modifyEntry s e _).trans (.trans (.counts _ _ _) (.trans (.modifyReq _ c.requester _) (.recompute _ e)))

end operations

/-! ### Reads of the states that the statements name -/

theorem State.entry_mapEntries (s : State) (f : EntrySlot → Entry → Entry) (n : Nat) (reqs : Vector (Option Requester) 48) (e : EntrySlot) :
    State.entry { s with slots := s.mapEntries f, freeRecords := n, requesters := reqs } e = (s.entry e).map (f e) := by
  simp [State.entry, State.mapEntries]

/-- The state with another pool and another record of a requester. -/
def State.withCounts (s : State) (n : Nat) (r : ReqSlot) (q : Requester) : State :=
  { s with freeRecords := n, requesters := s.requesters.set r.val (some q) }

section withCounts

variable (s : State) (n : Nat) (r : ReqSlot) (q : Requester)

theorem State.entry_withCounts (e : EntrySlot) : (s.withCounts n r q).entry e = s.entry e := rfl

theorem State.req_withCounts (r' : ReqSlot) : (s.withCounts n r q).req r' = if r = r' then some q else s.req r' :=
  State.req_setReq s r (some q) r'

theorem StoreMoved.withCounts : StoreMoved s (s.withCounts n r q) := .counts s n _

end withCounts

theorem State.req_mapEntries (s : State) (f : EntrySlot → Entry → Entry) (n : Nat) (r : ReqSlot) (x : Option Requester) (r' : ReqSlot) :
    State.req { s with slots := s.mapEntries f, freeRecords := n, requesters := s.requesters.set r.val x } r' =
      if r = r' then x else s.req r' := by
  unfold State.req
  exact State.req_setReq s r x r'

theorem State.requesters_eq_set {s t : State} {r : ReqSlot} {x : Option Requester} (h : ∀ r', t.req r' = if r = r' then x else s.req r') :
    t.requesters = s.requesters.set r.val x :=
  Vector.ext fun i hi => (h ⟨i, hi⟩).trans (State.req_setReq s r x ⟨i, hi⟩).symm

/-! ### Settled entries -/

theorem Entry.settle_eq (en : Entry) :
    en.settle = { en with state := if en.state = .retiring then .retiring else en.derivedState } := by
  unfold Entry.settle
  split
  · next h => rw [← h]
  · rfl

theorem Entry.settle_of_legal {en : Entry} (h : en.legal) : en.settle = en := by
  unfold Entry.settle
  split
  · rfl
  · next hr => rw [← (Entry.settled_of_ne_retiring hr).mp (en.legal_iff.mp h).2]

/-- A RETIRING entry has no waits (R17). -/
theorem Entry.ne_retiring_of_wait {en : Entry} (h : en.legal) {r : ReqSlot} (hw : (en.wait r).isSome) : en.state ≠ .retiring := by
  intro hr
  obtain ⟨c, hc, -⟩ := Entry.wait_isSome.mp hw
  have hdrained := (en.legal_iff.mp h).2.drained hr
  simp [hdrained] at hc

/-! ### Removals -/

section removals

variable {s : State} {r : ReqSlot} {q : Requester} (hq : s.req r = some q) {e : EntrySlot} {en : Entry} (hen : s.entry e = some en)

section hold

variable (stale : Bool)

include hq in
theorem State.req_endHold (r' : ReqSlot) : ((s.dropHold r e stale).recompute e).req r' =
    (s.withCounts (s.freeRecords + 1) r { q with holdCount := q.holdCount - 1 }).req r' := by
  rw [State.req_recompute, State.req_dropHold, hq, State.req_withCounts]
  rfl

include hen in
theorem State.entry_endHold_eq (e' : EntrySlot) : ((s.dropHold r e stale).recompute e).entry e' =
    if e = e' then (en.withoutHold r stale).recomputed else s.entry e' := by
  rw [State.entry_recompute, State.entry_dropHold, State.entry_dropHold, if_pos rfl, hen]
  split <;> rfl

include hq hen

/-- A hold has left an entry that stays live. -/
theorem State.endHold_of_live {x : Entry} (hx : (en.withoutHold r stale).recomputed = some x) : (s.dropHold r e stale).recompute e =
    (s.withCounts (s.freeRecords + 1) r { q with holdCount := q.holdCount - 1 }).setEntry e x := by
  have hlive : ((s.withCounts (s.freeRecords + 1) r { q with holdCount := q.holdCount - 1 }).entry e).isSome := by
    rw [State.entry_withCounts, hen]
    rfl
  refine ((StoreMoved.dropHold s r e stale).trans (.recompute _ e)).eq ((StoreMoved.withCounts s _ r _).trans (.setEntry _ hlive x))
    (fun e' => ?_) (by simp [State.setEntry, State.withCounts]) fun r' => State.req_endHold hq stale r'
  rw [State.entry_endHold_eq hen, hx, State.entry_setEntry]
  rfl

/-- A hold has left an entry that is freed. -/
theorem State.endHold_of_freed (hx : (en.withoutHold r stale).recomputed = none) : (s.dropHold r e stale).recompute e =
    (s.withCounts (s.freeRecords + 1) r { q with holdCount := q.holdCount - 1 }).freeSlot e := by
  have hlive : ((s.withCounts (s.freeRecords + 1) r { q with holdCount := q.holdCount - 1 }).entry e).isSome := by
    rw [State.entry_withCounts, hen]
    rfl
  refine ((StoreMoved.dropHold s r e stale).trans (.recompute _ e)).eq ((StoreMoved.withCounts s _ r _).trans (.freeSlot _ hlive))
    (fun e' => ?_) (by simp [State.freeSlot, State.withCounts]) fun r' => State.req_endHold hq stale r'
  rw [State.entry_endHold_eq hen, hx, State.entry_freeSlot]
  rfl

end hold

include hq hen in
theorem State.endWait_eq (hlegal : en.legal) (hw : (en.wait r).isSome) : (s.dropWait r e).recompute e =
    (s.withCounts (s.freeRecords + 1) r { q with waitCount := q.waitCount - 1 }).setEntry e
      { en.withoutWait r with state := (en.withoutWait r).derivedState } := by
  have hlive : ((s.withCounts (s.freeRecords + 1) r { q with waitCount := q.waitCount - 1 }).entry e).isSome := by
    rw [State.entry_withCounts, hen]
    rfl
  have hne := Entry.ne_retiring_of_wait hlegal hw
  have hstate : (en.withoutWait r).state ≠ .retiring := hne
  refine ((StoreMoved.dropWait s r e).trans (.recompute _ e)).eq ((StoreMoved.withCounts s _ r _).trans (.setEntry _ hlive _))
    (fun e' => ?_) (by simp [State.setEntry, State.withCounts]) fun r' => ?_
  · rw [State.entry_recompute, State.entry_dropWait, State.entry_dropWait, if_pos rfl, hen, State.entry_setEntry,
      Option.map_some, Option.bind_some, Entry.recomputed_of_ne_retiring hstate]
    split <;> rfl
  · refine Eq.trans ?_ (State.req_withCounts s (s.freeRecords + 1) r { q with waitCount := q.waitCount - 1 } r').symm
    rw [State.req_recompute, State.req_dropWait, hq]
    rfl

end removals

section sets

variable {s : State} (h : s.Consistent) {r : ReqSlot} {e : EntrySlot} {en : Entry} (hen : s.entry e = some en) {c : Claim} {id : Word16}
  (hc : en.wait r = some c) (hid : c.setId = some id)

include h hen hc hid

/-- The records of a waiting set are those with its set id (R50). -/
theorem State.inSet_iff {e' : EntrySlot} {d : Claim} (hd : d ∈ s.queueAt e') : d.inSet r id = true ↔ d.setId = some id := by
  obtain ⟨hmem, hcr⟩ := Entry.mem_of_wait hc
  refine ⟨fun hin => ?_, fun hdid => ?_⟩
  · simp only [Claim.inSet, Bool.and_eq_true, decide_eq_true_eq] at hin
    exact hin.2
  · exact h.table.sets.inSet (State.mem_queueAt.mpr ⟨en, hen, hmem⟩) hd (by simp [Claim.inSet, hid, hcr]) (hdid.trans hid.symm)

theorem State.setMembers_eq : s.setMembers r id = (List.finRange 256).filter fun e =>
    ((s.entry e).map fun en => en.queue.any fun c => c.setId = some id).getD false := by
  refine List.filter_congr fun e' _ => ?_
  cases hen' : s.entry e' with
  | none => rfl
  | some en' =>
    rw [Option.map_some, Option.getD_some, Bool.eq_iff_iff, List.any_eq_true, List.any_eq_true]
    refine exists_congr fun d => and_congr_right fun hd => ?_
    rw [decide_eq_true_eq]
    exact State.inSet_iff h hen hc hid (State.mem_queueAt.mpr ⟨en', hen', hd⟩)

theorem State.withoutSet_eq {e' : EntrySlot} {en' : Entry} (hen' : s.entry e' = some en') :
    en'.withoutSet r id = { en' with queue := en'.queue.filter fun c => c.setId ≠ some id } := by
  have hqueue : en'.queue.filter (fun d => !d.inSet r id) = en'.queue.filter fun c => c.setId ≠ some id := by
    refine List.filter_congr fun d hd => ?_
    have hiff := State.inSet_iff h hen hc hid (State.mem_queueAt.mpr ⟨en', hen', hd⟩)
    rw [Bool.eq_iff_iff, Bool.not_eq_true', decide_eq_true_eq, ne_eq, ← hiff, Bool.not_eq_true]
  rw [Entry.withoutSet, hqueue]

/-- A waiting set leaves its entries, each recomputed (R62). -/
theorem State.endSet_eq {q : Requester} (hq : s.req r = some q) : (s.dropSet r id).recomputeAll (s.setMembers r id) =
    { s with
      slots := s.mapEntries fun _ en => Entry.settle { en with queue := en.queue.filter fun c => c.setId ≠ some id }
      freeRecords := s.freeRecords + (s.setMembers r id).length
      requesters := s.requesters.set r.val (some { q with waitCount := q.waitCount - (s.setMembers r id).length }) } := by
  refine ((StoreMoved.dropSet s r id).trans (.recomputeAll _ _)).eq (.mapEntries s _ _ _) (fun e' => ?_) (by simp) fun r' => ?_
  · refine Eq.trans ?_ (State.entry_mapEntries s _ _ _ e').symm
    rw [State.entry_recomputeAll, State.entry_dropSet]
    cases hen' : s.entry e' with
    | none => simp
    | some en' =>
      have hlegal := h.entries e' en' hen'
      rw [Option.map_some, Option.map_some, Option.bind_some, ← State.withoutSet_eq h hen hc hid hen']
      split
      · exact Entry.recomputed_of_kept fun hr => State.kept_of_entriesLegal h.entries e' en' hen' hr
      · next hno =>
        have hsame : en'.withoutSet r id = en' := Entry.withoutSet_of_none fun d hd => by
          by_contra hin
          exact hno (State.mem_setMembers_iff.mpr ⟨d, State.mem_queueAt.mpr ⟨en', hen', hd⟩, by simpa using hin⟩)
        rw [hsame, Entry.settle_of_legal hlegal]
  · rw [State.req_mapEntries, State.req_recomputeAll, State.req_dropSet, hq]
    rfl

end sets

/-- All records of a requester leave their entries (R46, R104): the pool and the counts. -/
theorem State.stripAll_eq {s : State} (h : s.Consistent) {r : ReqSlot} {q : Requester} (hq : s.req r = some q) (stale : Bool) :
    s.stripAll r stale = { s with
      slots := (s.stripAll r stale).slots, dir := (s.stripAll r stale).dir
      freeRecords := s.freeRecords + q.holdCount + q.waitCount
      requesters := s.requesters.set r.val (some { q with holdCount := 0, waitCount := 0 }) } := by
  obtain ⟨-, -, -, -, hcounts⟩ := s.consistent_iff.mpr h
  obtain ⟨hholds, hwaits, -⟩ := hcounts r q hq
  refine (StoreMoved.stripAll s r stale).eq_with ?_ (State.requesters_eq_set fun r' => ?_)
  · rw [State.freeRecords_stripAll, hholds, hwaits]
  · rw [State.req_stripAll, hq, ← hholds, ← hwaits, Option.map_some, Nat.sub_self, Nat.sub_self]

/-- Settles O29: by the removal. -/
theorem recordsRemoved : Obligations.RecordsRemoved := by
  refine ⟨fun s r q e en hs hq hen => ⟨fun stale hh => ?_, fun hw => ?_, fun c id hc hid => ?_⟩,
    fun s r q stale hs hq => ⟨fun e he => ?_, fun e en he hu => ?_, fun e en he hcl => ⟨?_, ?_, ?_⟩, ?_, ?_⟩⟩
  all_goals have hcons := s.consistent_iff.mp hs
  · by_cases hr : en.state = .retiring
    · have hrec : (en.withoutHold r stale).recomputed = _ := Entry.recomputed_of_retiring hr
      dsimp only
      rw [if_pos hr]
      split
      · next hempty => exact State.endHold_of_freed hq hen stale (hrec.trans (if_pos (List.isEmpty_iff.mpr hempty)))
      · next hne => exact State.endHold_of_live hq hen stale (hrec.trans (if_neg (mt List.isEmpty_iff.mp hne)))
    · dsimp only
      rw [if_neg hr]
      exact State.endHold_of_live hq hen stale (Entry.recomputed_of_ne_retiring hr)
  · exact State.endWait_eq hq hen (hcons.entries e en hen) hw
  · dsimp only
    rw [← State.setMembers_eq hcons hen hc hid, State.endSet_eq hcons hen hc hid hq]
    refine ⟨?_, rfl⟩
    simp only [Entry.settle_eq]
  all_goals have hmoved := StoreMoved.stripAll s r stale
  · have hnone := hmoved.unused e he
    exact ⟨hnone, by rw [hmoved.generation, he]; rfl⟩
  · have hsame : (s.stripAll r stale).entry e = some en := by
      rw [State.entry_stripAll, he, Option.bind_some, if_neg (by simp [hu])]
    exact ⟨hsame, by rw [hmoved.generation, hsame]; simp⟩
  all_goals try
    have hentry : (s.stripAll r stale).entry e = (en.stripped r stale).recomputed := by
      rw [State.entry_stripAll, he, Option.bind_some, if_pos hcl]
  · rintro ⟨hr, hempty⟩
    have hnone := hentry.trans ((Entry.recomputed_of_retiring (en := en.stripped r stale) hr).trans (if_pos (List.isEmpty_iff.mpr hempty)))
    exact ⟨hnone, by rw [hmoved.generation, hnone, he]; rfl⟩
  · rintro ⟨hr, hne⟩
    have hsome := hentry.trans ((Entry.recomputed_of_retiring (en := en.stripped r stale) hr).trans (if_neg (mt List.isEmpty_iff.mp hne)))
    exact ⟨hsome, by rw [hmoved.generation, hsome]; simp⟩
  · intro hr
    have hsome := hentry.trans (Entry.recomputed_of_ne_retiring (en := en.stripped r stale) hr)
    exact ⟨hsome, by rw [hmoved.generation, hsome]; simp⟩
  · exact hmoved.dir
  · exact State.stripAll_eq hcons hq stale

end Sys2Proof.Machine
end

section
/-! ACQUIRE after its tests: granted at once (R27, R28), refused WOULD_DEADLOCK or placed (R30 to R32, R66 to R72). -/

namespace Sys2Proof.Machine

/-! ### A grant at once -/

/-- The first hold of its mode makes the entry EXCLUSIVE or SHARED (R27, R28). -/
theorem Entry.granted_eq {en : Entry} (h : en.legal) {m : Mode} (ho : AtOnce en m) (r : ReqSlot) (id : Option Word16) :
    (en.gainHolder ⟨r, m, id, false, none⟩).recomputed = some (en.granted r m id) := by
  have hperm : (en.granted r m id).holders.Perm (⟨r, m, id, false, armed en.holdLimit⟩ :: en.holders) := insertHolder_perm _ _
  have hmodes : ∀ c ∈ (en.granted r m id).holders, c.mode = m := fun c hc => by
    obtain rfl | hold := List.mem_cons.mp (hperm.subset hc)
    · rfl
    · obtain ⟨-, hfits⟩ := Entry.atOnce_fits h ho
      obtain hnil | ⟨rfl, hshared, -⟩ := Entry.fits_iff.mp hfits
      · simp [hnil] at hold
      · exact hshared c hold
  have hne : (en.granted r m id).holders ≠ [] := fun hnil => by simp [hnil] at hperm
  have hret := Entry.atOnce_ne_retiring ho
  rw [Entry.recomputed_of_ne_retiring (en := en.gainHolder ⟨r, m, id, false, none⟩) hret]
  have hstate : (en.gainHolder ⟨r, m, id, false, none⟩).derivedState = (en.granted r m id).state := by
    show (if (en.granted r m id).holders.isEmpty then _ else
      if (en.granted r m id).holders.any (fun c => c.mode = .exclusive) then _ else _) = _
    rw [if_neg (by simpa using hne)]
    obtain ⟨c, hc⟩ := List.exists_mem_of_ne_nil _ hne
    cases m with
    | exclusive => exact if_pos (List.any_eq_true.mpr ⟨c, hc, decide_eq_true (hmodes c hc)⟩)
    | shared =>
      refine if_neg ?_
      rw [List.any_eq_true]
      rintro ⟨d, hd, hdm⟩
      exact absurd (of_decide_eq_true hdm) (by rw [hmodes d hd]; simp)
  rw [hstate]
  rfl

section single

variable {s : State} {r : ReqSlot} {q : Requester} (hq : s.req r = some q) {e : EntrySlot} {en x : Entry} (hen : s.entry e = some en)

include hq hen

/-- A hold enters an entry: one record leaves the pool and the hold count rises by one (R28). -/
theorem State.grantNow_eq {m : Mode} {id : Option Word16} (hx : (en.gainHolder ⟨r, m, id, false, none⟩).recomputed = some x) :
    s.grantNow r e m id = (s.withCounts (s.freeRecords - 1) r { q with holdCount := q.holdCount + 1 }).setEntry e x := by
  have hlive : ((s.withCounts (s.freeRecords - 1) r { q with holdCount := q.holdCount + 1 }).entry e).isSome := by
    rw [State.entry_withCounts, hen]
    rfl
  refine (StoreMoved.grantNow s r e m id).eq ((StoreMoved.withCounts s _ r _).trans (.setEntry _ hlive x)) (fun e' => ?_)
    (by simp [State.setEntry, State.withCounts]) fun r' => ?_
  · rw [State.entry_grantNow, hen, Option.bind_some, hx, State.entry_setEntry]
    rfl
  · refine Eq.trans ?_ (State.req_withCounts s (s.freeRecords - 1) r { q with holdCount := q.holdCount + 1 } r').symm
    rw [State.req_grantNow, hq]
    rfl

/-- A wait enters an entry that is not RETIRING: one record leaves the pool and the wait count rises by one (R30). -/
theorem State.place_eq {c : Claim} (hc : c.requester = r) (hret : en.state ≠ .retiring) : s.place e c =
    (s.withCounts (s.freeRecords - 1) r { q with waitCount := q.waitCount + 1 }).setEntry e (en.placed s.priority c) := by
  have hlive : ((s.withCounts (s.freeRecords - 1) r { q with waitCount := q.waitCount + 1 }).entry e).isSome := by
    rw [State.entry_withCounts, hen]
    rfl
  refine (StoreMoved.place s e c).eq ((StoreMoved.withCounts s _ r _).trans (.setEntry _ hlive _)) (fun e' => ?_)
    (by simp [State.setEntry, State.withCounts]) fun r' => ?_
  · rw [State.entry_place, hen, Option.bind_some,
      Entry.recomputed_of_ne_retiring (en := { en with queue := insertWaiter s.priority c en.queue }) hret, State.entry_setEntry]
    rfl
  · refine Eq.trans ?_ (State.req_withCounts s (s.freeRecords - 1) r { q with waitCount := q.waitCount + 1 } r').symm
    rw [State.req_place, hc, hq]
    rfl

end single

theorem State.withCounts_renewed (s : State) (n : Nat) (r : ReqSlot) (q q' : Requester) :
    (s.renewed r q).withCounts n r q' = s.withCounts n r q' := by
  simp only [State.withCounts, State.renewed, Vector.set_set]

theorem State.grantReport_of_entry {s : State} {e : EntrySlot} {en : Entry} (h : s.entry e = some en) :
    s.grantReport e = en.grantReport := by
  rw [State.grantReport, h]

theorem State.queueReport_of_entry {s : State} {e : EntrySlot} {en : Entry} (h : s.entry e = some en) (r : ReqSlot) :
    s.queueReport r e = [byteOf (en.position r), byteOf en.queue.length] := by
  rw [State.queueReport, h]

theorem State.isHolding_of_entry {s : State} {e : EntrySlot} {en : Entry} (h : s.entry e = some en) (r : ReqSlot) :
    s.isHolding r e = (en.hold r).isSome := by
  rw [State.isHolding, h]

theorem acquireTested_atOnce {en : Entry} {m : Mode} (ho : AtOnce en m) (r : ReqSlot) (e : EntrySlot) (limit : Nat) (s : State) :
    acquireTested r e en m limit s = (s.grantNow r e m none, ⟨.granted, (s.grantNow r e m none).grantReport e⟩) :=
  if_pos ((en.grantsAtOnce_iff m).mpr ho)

/-- Settles O23: the hold enters the entry, its counts and its answer. -/
theorem acquireGrantedAtOnce : Obligations.AcquireGrantedAtOnce := by
  intro s o rid a g hi lo m h r q en hA he hlegal hallowed ho
  have hgranted : (s.renewed r q).grantNow r (slotOf a) m none =
      (s.withCounts (s.freeRecords - 1) r { q.renewed with holdCount := q.holdCount + 1 }).setEntry (slotOf a) (en.granted r m none) := by
    have hen : (s.renewed r q).entry (slotOf a) = some en := State.entry_of_entryOf he
    rw [State.grantNow_eq (s.req_renewed_self r q) hen (Entry.granted_eq hlegal ho r none), State.withCounts_renewed]
    rfl
  refine answers_acquire_of_allowed hA he hallowed (v := ((s.renewed r q).grantNow r (slotOf a) m none).dropHanded o)
    ((acquireTested_atOnce ho r (slotOf a) _ _).trans ?_) (congrArg (fun x => State.dropHanded x o) hgranted)
  have hcomm := grantNow_dropHanded (s.renewed r q) o r (slotOf a) m none
  have hreport : ((s.renewed r q).grantNow r (slotOf a) m none).grantReport (slotOf a) = (en.granted r m none).grantReport := by
    refine State.grantReport_of_entry ?_
    rw [hgranted, State.entry_setEntry, if_pos rfl]
  exact Prod.ext hcomm (congrArg (Answer.mk Result.granted) ((congrArg (fun x => State.grantReport x (slotOf a)) hcomm).trans hreport))

/-! ### A wait -/

theorem wouldDeadlock_dropHanded (s : State) (o : Origin) (r : ReqSlot) (records : List (EntrySlot × Claim)) :
    (s.dropHanded o).wouldDeadlock r records = s.wouldDeadlock r records := by
  unfold State.wouldDeadlock
  rw [foldl_dropHanded (f := fun (u : State) (p : EntrySlot × Claim) => u.enqueue p.1 p.2) s o (fun u p => enqueue_dropHanded u o p.1 p.2)]
  rfl

theorem placeSingle_eq (r : ReqSlot) (e : EntrySlot) (m : Mode) (limit : Nat) (s : State) {u v : State}
    (hu : s.place e ⟨r, m, none, false, waitDeadline limit⟩ = u) (hv : (if u.atHead r e then u.runPasses (.single r e) [e] else u) = v) :
    placeSingle r e m limit s = (v, if v.isHolding r e then ⟨.granted, v.grantReport e⟩ else ⟨.queued, u.queueReport r e⟩) := by
  unfold placeSingle
  rw [hu]
  dsimp only
  rw [hv]
  split <;> rfl

theorem placeSingle_dropHanded (s : State) (o : Origin) (r : ReqSlot) (e : EntrySlot) (m : Mode) (limit : Nat) :
    placeSingle r e m limit (s.dropHanded o) = ((placeSingle r e m limit s).1.dropHanded o, (placeSingle r e m limit s).2) := by
  obtain ⟨u, hu⟩ : ∃ u, s.place e ⟨r, m, none, false, waitDeadline limit⟩ = u := ⟨_, rfl⟩
  obtain ⟨v, hv⟩ : ∃ v, (if u.atHead r e then u.runPasses (.single r e) [e] else u) = v := ⟨_, rfl⟩
  have hv' : (if (u.dropHanded o).atHead r e then (u.dropHanded o).runPasses (.single r e) [e] else u.dropHanded o) = v.dropHanded o := by
    rw [runPasses_dropHanded, ← hv]
    exact (apply_ite (fun x : State => x.dropHanded o) _ _ _).symm
  rw [placeSingle_eq r e m limit s hu hv, placeSingle_eq r e m limit (s.dropHanded o) ((place_dropHanded s o e _).trans (by rw [hu])) hv']
  rfl

/-- Of a requester without a record on the entry, the record placed is the only one. -/
theorem Entry.mem_placed {en : Entry} {priority : ReqSlot → Nat} {c d : Claim} :
    d ∈ (en.placed priority c).queue ↔ d = c ∨ d ∈ en.queue :=
  (insertWaiter_perm priority c en.queue).mem_iff.trans List.mem_cons

theorem Entry.placed_head_iff {en : Entry} {priority : ReqSlot → Nat} {c : Claim} (hc : en.claimed c.requester = false) :
    (en.placed priority c).queue.head?.map Claim.requester = some c.requester ↔ (en.placed priority c).queue.head? = some c := by
  refine ⟨fun h => ?_, fun h => by rw [h]; rfl⟩
  obtain ⟨d, hd, hdr⟩ := Option.map_eq_some_iff.mp h
  obtain rfl | hmem := Entry.mem_placed.mp (List.mem_of_mem_head? hd)
  · exact hd
  · exact absurd hdr (Entry.claimed_eq_false.mp hc d (List.mem_append_right _ hmem))

theorem Entry.hold_of_unclaimed {en : Entry} {r : ReqSlot} (h : en.claimed r = false) : en.hold r = none := by
  rw [Entry.claimed, Bool.or_eq_false_iff] at h
  simpa using h.1

theorem Entry.position_of_head {en : Entry} {c : Claim} (h : en.queue.head? = some c) : en.position c.requester = 1 := by
  obtain ⟨rest, hq⟩ : ∃ rest, en.queue = c :: rest := ⟨_, List.eq_cons_of_mem_head? h⟩
  simp [Entry.position, hq, List.findIdx?_cons]

section placed

variable {s : State} {r : ReqSlot} {q : Requester} {e : EntrySlot} {en : Entry} {m : Mode} {limit : Nat} {c : Claim}

/-- A wait that does not stand at the head of its queue is queued (R30). -/
theorem placeSingle_behind (hcl : en.claimed r = false) (hplaced : (s.place e ⟨r, m, none, false, waitDeadline limit⟩).entry e =
      some (en.placed s.priority ⟨r, m, none, false, waitDeadline limit⟩))
    (hhead : (en.placed s.priority ⟨r, m, none, false, waitDeadline limit⟩).queue.head? ≠ some ⟨r, m, none, false, waitDeadline limit⟩) :
    placeSingle r e m limit s = (s.place e ⟨r, m, none, false, waitDeadline limit⟩, ⟨.queued,
      [byteOf ((en.placed s.priority ⟨r, m, none, false, waitDeadline limit⟩).position r),
        byteOf (en.placed s.priority ⟨r, m, none, false, waitDeadline limit⟩).queue.length]⟩) := by
  have hnot : ¬ (s.place e ⟨r, m, none, false, waitDeadline limit⟩).atHead r e = true := by
    rw [State.atHead, hplaced]
    exact fun h => hhead ((Entry.placed_head_iff (c := ⟨r, m, none, false, waitDeadline limit⟩) hcl).mp (of_decide_eq_true h))
  have hhold : ¬ (s.place e ⟨r, m, none, false, waitDeadline limit⟩).isHolding r e = true := by
    rw [State.isHolding_of_entry hplaced]
    show ¬ (en.hold r).isSome = true
    simp [Entry.hold_of_unclaimed hcl]
  unfold placeSingle
  simp only [if_neg hnot, if_neg hhold, State.queueReport_of_entry hplaced]

/-- A wait at the head of its queue is granted or not by the pass that follows (R32). -/
theorem placeSingle_atHead {ew : Entry} (hcl : en.claimed r = false)
    (hplaced : (s.place e ⟨r, m, none, false, waitDeadline limit⟩).entry e =
      some (en.placed s.priority ⟨r, m, none, false, waitDeadline limit⟩))
    (hhead : (en.placed s.priority ⟨r, m, none, false, waitDeadline limit⟩).queue.head? = some ⟨r, m, none, false, waitDeadline limit⟩)
    (hw : ((s.place e ⟨r, m, none, false, waitDeadline limit⟩).runPasses (.single r e) [e]).entry e = some ew) :
    placeSingle r e m limit s = ((s.place e ⟨r, m, none, false, waitDeadline limit⟩).runPasses (.single r e) [e],
      if (ew.hold r).isSome then ⟨.granted, ew.grantReport⟩
      else ⟨.queued, [0x01#8, byteOf (en.placed s.priority ⟨r, m, none, false, waitDeadline limit⟩).queue.length]⟩) := by
  have hat : (s.place e ⟨r, m, none, false, waitDeadline limit⟩).atHead r e = true := by
    rw [State.atHead, hplaced]
    exact decide_eq_true ((Entry.placed_head_iff (c := ⟨r, m, none, false, waitDeadline limit⟩) hcl).mpr hhead)
  have hposition : (en.placed s.priority ⟨r, m, none, false, waitDeadline limit⟩).position r = 1 := Entry.position_of_head hhead
  unfold placeSingle
  simp only [if_pos hat, State.isHolding_of_entry hw, State.grantReport_of_entry hw, State.queueReport_of_entry hplaced, hposition]
  split <;> rfl

end placed

theorem acquireTested_deadlock {s : State} {en : Entry} {m : Mode} (hn : ¬ AtOnce en m) {r : ReqSlot} {e : EntrySlot} {limit : Nat}
    (hl : limit ≠ 0) (hd : s.wouldDeadlock r [(e, ⟨r, m, none, false, waitDeadline limit⟩)] = true) :
    acquireTested r e en m limit s = refuse .wouldDeadlock s := by
  have hg : ¬ en.grantsAtOnce m = true := fun h => hn ((en.grantsAtOnce_iff m).mp h)
  rw [acquireTested, if_neg hg, if_neg hl, if_pos hd]

theorem acquireTested_placed {s : State} {en : Entry} {m : Mode} (hn : ¬ AtOnce en m) {r : ReqSlot} {e : EntrySlot} {limit : Nat}
    (hl : limit ≠ 0) (hd : ¬ s.wouldDeadlock r [(e, ⟨r, m, none, false, waitDeadline limit⟩)] = true) :
    acquireTested r e en m limit s = placeSingle r e m limit s := by
  have hg : ¬ en.grantsAtOnce m = true := fun h => hn ((en.grantsAtOnce_iff m).mp h)
  rw [acquireTested, if_neg hg, if_neg hl, if_neg hd]

theorem State.priority_renewed {s : State} {r : ReqSlot} {q : Requester} (hq : s.req r = some q) :
    (s.renewed r q).priority = s.priority :=
  State.priority_of_standing fun r' => by
    rw [State.req_renewed]
    split
    · next hr => rw [← hr, hq]; rfl
    · rfl

/-- Settles O24: the wait-for check on the placed relation, the place, and the pass of a wait at the head. -/
theorem acquirePlaced : Obligations.AcquirePlaced := by
  intro s o rid a g hi lo m h r q en hA he hs hallowed hnot hlimit i limit c en' u cycle
  have hen : (s.renewed r q).entry (slotOf a) = some en := State.entry_of_entryOf he
  have hcons := (s.consistent_iff.mp hs).renewed hA.2.2
  have hpriority := State.priority_renewed hA.2.2
  have hplace : (s.renewed r q).place (slotOf a) c = u := by
    refine (State.place_eq (s.req_renewed_self r q) (s := s.renewed r q) hen rfl hallowed.1).trans ?_
    rw [State.withCounts_renewed, hpriority]
    rfl
  have hplacedEntry : ((s.renewed r q).place (slotOf a) c).entry (slotOf a) = some (en.placed (s.renewed r q).priority c) := by
    rw [hplace, hpriority]
    exact (State.entry_setEntry s (slotOf a) en' (slotOf a)).trans (if_pos rfl)
  have hrecords : ∀ p ∈ [(slotOf a, c)], p.2.requester = r ∧ ∃ en, (s.renewed r q).entry p.1 = some en ∧ en.state ≠ .retiring :=
    fun p hp => by
      obtain rfl := List.mem_singleton.mp hp
      exact ⟨rfl, en, hen, hallowed.1⟩
  have hcheck : ((s.renewed r q).dropHanded o).wouldDeadlock r [(slotOf a, c)] = true ↔ cycle := by
    rw [wouldDeadlock_dropHanded, State.wouldDeadlock_iff (records := [(slotOf a, c)]) (List.nodup_singleton _) fun p hp => by
      obtain ⟨hr, en, hen, -⟩ := hrecords p hp
      exact ⟨hr, en, hen⟩]
    have hwaits := State.waitsAt_placeAll (records := [(slotOf a, c)]) (List.nodup_singleton (slotOf a)) hrecords
    rw [show [(slotOf a, c)].foldl (fun u p => u.place p.1 p.2) (s.renewed r q) = u from hplace] at hwaits
    exact (State.cycle_iff hwaits).symm
  have hanswer : ∀ {v : State} {answer : Answer}, acquireTested r (slotOf a) en m limit ((s.renewed r q).dropHanded o) =
      (v.dropHanded o, answer) → Answers i s (v.reportPool s.freeRecords) h answer := fun ht =>
    answers_acquire_of_allowed hA he hallowed ht rfl
  refine ⟨fun hcycle => ?_, fun hcycle hhead => ?_, fun hcycle hhead => ?_⟩
  · have hrefused := hanswer (v := s.renewed r q) (acquireTested_deadlock hnot hlimit (hcheck.mpr hcycle))
    rwa [show s.freeRecords = (s.renewed r q).freeRecords from rfl, State.reportPool_same] at hrefused
  all_goals rw [show en' = en.placed (s.renewed r q).priority c by rw [hpriority]] at hhead ⊢
  · refine hanswer ((acquireTested_placed hnot hlimit (mt hcheck.mp hcycle)).trans ?_)
    rw [placeSingle_dropHanded, placeSingle_behind hallowed.2.1 hplacedEntry hhead, ← hplace]
    rfl
  · have hran := State.runPasses_passesRan (hcons.place m limit hen (s.req_renewed_self r q) hallowed) (.single r (slotOf a)) [slotOf a]
    have hlive := hran.live (slotOf a)
    rw [show waitDeadline limit = c.deadline from rfl] at hlive
    obtain ⟨ew, hew⟩ := Option.isSome_iff_exists.mp (hlive.trans (by rw [show (⟨r, m, none, false, c.deadline⟩ : Claim) = c from rfl, hplacedEntry]; rfl))
    refine ⟨_, ew, hplace ▸ hran, hew, hanswer ((acquireTested_placed hnot hlimit (mt hcheck.mp hcycle)).trans ?_)⟩
    rw [placeSingle_dropHanded, placeSingle_atHead hallowed.2.1 hplacedEntry hhead hew]
    rfl

end Sys2Proof.Machine
end

section
/-! ACQUIRE_SET: the reading of its members and its refusals (R51, R52). -/

namespace Sys2Proof.Machine

/-! ### The payload -/

theorem slotOf_byteOf (e : EntrySlot) : slotOf (byteOf e.val) = e := by
  refine Fin.ext ?_
  show (byteOf e.val).toNat = e.val
  exact toNat_byteOf e.isLt

theorem setMembersOf_members (members : List Member) (hi lo : Byte) :
    setMembersOf members.length ((members.flatMap fun m => [byteOf m.handle.slot.val, m.handle.generation, m.mode]) ++ [hi, lo]) =
      some ⟨members, nat16 hi lo⟩ := by
  induction members with
  | nil => rfl
  | cons m members ih =>
    have hhandle : handleOf (byteOf m.handle.slot.val) m.handle.generation = m.handle := by rw [handleOf, slotOf_byteOf]
    refine (congrArg (Option.map _) ih).trans ?_
    rw [Option.map_some, hhandle]

theorem setPayload_setBytes {members : List Member} (h : members.length ≤ 9) (hi lo : Byte) :
    setPayload (setBytes members hi lo) = some ⟨members, nat16 hi lo⟩ := by
  have hlen : (byteOf members.length).toNat = members.length := toNat_byteOf (by omega)
  refine (congrArg (fun n => setMembersOf n _) hlen).trans (setMembersOf_members members hi lo)

/-! ### The modes of the members -/

/-- The members of a set as sent, from their handles and modes. -/
def membersNamed (pairs : List (Handle × Mode)) : List Member := pairs.map fun p => ⟨p.1, p.2.code⟩

/-- The entries and modes that these members name. -/
def slotModes (pairs : List (Handle × Mode)) : List (EntrySlot × Mode) := pairs.map fun p => (p.1.slot, p.2)

theorem slotModes_map_fst (pairs : List (Handle × Mode)) : (slotModes pairs).map Prod.fst = pairs.map fun p => p.1.slot := by
  simp [slotModes]

theorem length_slotModes (pairs : List (Handle × Mode)) : (slotModes pairs).length = pairs.length := List.length_map _

theorem length_membersNamed (pairs : List (Handle × Mode)) : (membersNamed pairs).length = pairs.length := List.length_map _

theorem memberModes_named (pairs : List (Handle × Mode)) : memberModes (membersNamed pairs) = some (slotModes pairs) := by
  induction pairs with
  | nil => rfl
  | cons p pairs ih =>
    show (match modeOf p.2.code, memberModes (membersNamed pairs) with
      | some mode, some l => some ((p.1.slot, mode) :: l)
      | _, _ => none) = _
    rw [modeOf_code, ih]
    rfl

/-- Members whose mode bytes are modes are named by their handles and modes. -/
theorem exists_membersNamed {members : List Member} (h : ∀ m ∈ members, m.mode.toNat ≤ 1) : ∃ pairs, members = membersNamed pairs := by
  induction members with
  | nil => exact ⟨[], rfl⟩
  | cons m members ih =>
    obtain ⟨pairs, hpairs⟩ := ih fun m' hm' => h m' (List.mem_cons_of_mem m hm')
    obtain ⟨mode, -, hmode⟩ := modeOf_of_le_one (h m List.mem_cons_self)
    obtain ⟨handle, b⟩ := m
    exact ⟨(handle, mode) :: pairs, by rw [hpairs, show b = mode.code from hmode]; rfl⟩

theorem memberModes_none {members : List Member} {m : Member} (hm : m ∈ members) (hb : 1 < m.mode.toNat) : memberModes members = none := by
  induction members with
  | nil => cases hm
  | cons m' members ih =>
    unfold memberModes
    obtain rfl | hm := List.mem_cons.mp hm
    · rw [modeOf_of_one_lt hb]
    · rw [ih hm]
      split
      · next heq => cases heq
      · rfl

/-! ### The tests -/

/-- A member that is live, not RETIRING and not claimed by the requester passes the tests of R52 on one member. -/
def memberPasses (s : State) (r : ReqSlot) (m : Member) : Prop :=
  ∃ en, s.entryOf m.handle = some en ∧ en.state ≠ .retiring ∧ en.claimed r = false

theorem memberTest_append {s : State} {r : ReqSlot} {before : List Member} (h : ∀ m ∈ before, memberPasses s r m) (k : Nat)
    (rest : List Member) : memberTest s r k (before ++ rest) = memberTest s r (k + before.length) rest := by
  induction before generalizing k with
  | nil => rfl
  | cons m before ih =>
    obtain ⟨en, hen, hret, hcl⟩ := h m List.mem_cons_self
    rw [List.cons_append, memberTest, hen]
    dsimp only
    rw [if_neg hret, if_neg (by simp [hcl]), ih (fun m' hm' => h m' (List.mem_cons_of_mem m hm')), List.length_cons,
      Nat.add_right_comm, Nat.add_assoc]

theorem memberTest_passed {s : State} {r : ReqSlot} {members : List Member} (h : ∀ m ∈ members, memberPasses s r m) (k : Nat) :
    memberTest s r k members = none := by
  rw [← List.append_nil members, memberTest_append h]
  rfl

theorem memberTest_stale {s : State} {r : ReqSlot} {m : Member} (hm : s.entryOf m.handle = none) (k : Nat) (rest : List Member) :
    memberTest s r k (m :: rest) = some (.staleHandle, k) := by
  rw [memberTest, hm]

theorem memberTest_live {s : State} {r : ReqSlot} {m : Member} {en : Entry} (hm : s.entryOf m.handle = some en) (k : Nat)
    (rest : List Member) : memberTest s r k (m :: rest) =
      if en.state = .retiring then some (.retiring, k)
      else if en.claimed r then some (.alreadyClaimed, k) else memberTest s r (k + 1) rest := by
  rw [memberTest, hm]

section effects

variable {s : State} {r : ReqSlot} {limit : Nat}

theorem acquireSetEffect_of_bad {members : List Member}
    (h : ¬ ((∀ m ∈ members, m.mode.toNat ≤ 1) ∧ 2 ≤ members.length ∧ members.length ≤ 4 ∧
      (members.map fun m => m.handle.slot).Nodup)) : acquireSetEffect r ⟨members, limit⟩ s = refuseMember .badValue 0 s := by
  by_cases hmodes : ∀ m ∈ members, m.mode.toNat ≤ 1
  · obtain ⟨pairs, rfl⟩ := exists_membersNamed hmodes
    have hslots : (membersNamed pairs).map (fun m => m.handle.slot) = (slotModes pairs).map Prod.fst := by
      simp [membersNamed, slotModes]
    have hbad : (slotModes pairs).length < 2 ∨ 4 < (slotModes pairs).length ∨ ¬ ((slotModes pairs).map Prod.fst).Nodup := by
      by_contra hgood
      rw [not_or, not_or, not_not, length_slotModes] at hgood
      obtain ⟨h2, h4, hd⟩ := hgood
      refine h ⟨hmodes, ?_, ?_, hslots ▸ hd⟩
      · rw [length_membersNamed]
        omega
      · rw [length_membersNamed]
        omega
    simp only [acquireSetEffect, memberModes_named, if_pos hbad]
  · push Not at hmodes
    obtain ⟨m, hm, hb⟩ := hmodes
    simp only [acquireSetEffect, memberModes_none hm hb]

variable {pairs : List (Handle × Mode)} (h2 : 2 ≤ pairs.length) (h4 : pairs.length ≤ 4) (hd : (pairs.map fun p => p.1.slot).Nodup)

include h2 h4 hd

theorem slotModes_valid : ¬ ((slotModes pairs).length < 2 ∨ 4 < (slotModes pairs).length ∨ ¬ ((slotModes pairs).map Prod.fst).Nodup) := by
  rw [length_slotModes, slotModes_map_fst]
  rintro (h | h | h)
  · omega
  · omega
  · exact h hd

theorem acquireSetEffect_of_failed {result : Result} {k : Nat} (ht : memberTest s r 1 (membersNamed pairs) = some (result, k)) :
    acquireSetEffect r ⟨membersNamed pairs, limit⟩ s = refuseMember result k s := by
  simp only [acquireSetEffect, memberModes_named, if_neg (slotModes_valid h2 h4 hd), ht]

theorem acquireSetEffect_of_passed {q : Requester} (hq : s.req r = some q) (ht : ∀ m ∈ membersNamed pairs, memberPasses s r m) :
    acquireSetEffect r ⟨membersNamed pairs, limit⟩ s =
      if q.budget < q.holdCount + q.waitCount + pairs.length then refuseMember .budget 0 s
      else if s.freeRecords < pairs.length then refuseMember .poolEmpty 0 s
      else acquireSetTested r (slotModes pairs) limit s := by
  simp only [acquireSetEffect, memberModes_named, if_neg (slotModes_valid h2 h4 hd), memberTest_passed ht, hq]
  rw [length_slotModes]

end effects

theorem acquireSetTested_busy {s : State} {r : ReqSlot} {members : List (EntrySlot × Mode)} (h : s.allAtOnce members = false) :
    acquireSetTested r members 0 s = refuseMember .busy 0 s := by
  rw [acquireSetTested, if_neg (by simp [h]), if_pos rfl]

theorem Mode.code_injective {m m' : Mode} (h : m.code = m'.code) : m = m' := by
  cases m <;> cases m' <;> first | rfl | cases h

/-- Settles O26: the tests of R51 and R52 in order. -/
theorem acquireSetRefused : Obligations.AcquireSetRefused := by
  intro s o rid hi lo members h r q hlen hA refused valid passes
  have hpayload := setPayload_setBytes hlen hi lo
  have hrefused : ∀ {result : Result} {k : Nat}, acquireSetEffect r ⟨members, nat16 hi lo⟩ ((s.renewed r q).dropHanded o) =
      refuseMember result k ((s.renewed r q).dropHanded o) → refused result k :=
    fun heffect => answers_asked_same (u := s.renewed r q) hA rfl hpayload heffect rfl
  refine ⟨fun hbad => hrefused (acquireSetEffect_of_bad hbad), fun hvalid before m after hsplit hbefore => ?_, fun hvalid hpasses => ?_⟩
  all_goals
    obtain ⟨hmodes, h2, h4, hd⟩ := hvalid
    obtain ⟨pairs, rfl⟩ := exists_membersNamed hmodes
    have hslots : (membersNamed pairs).map (fun m => m.handle.slot) = pairs.map fun p => p.1.slot := by simp [membersNamed]
    rw [length_membersNamed] at h2 h4
    rw [hslots] at hd
  · have htest : memberTest ((s.renewed r q).dropHanded o) r 1 (membersNamed pairs) =
        memberTest ((s.renewed r q).dropHanded o) r (before.length + 1) (m :: after) := by
      rw [hsplit, memberTest_append (s := (s.renewed r q).dropHanded o) hbefore, Nat.add_comm]
    have hfailed : ∀ {result : Result}, memberTest ((s.renewed r q).dropHanded o) r (before.length + 1) (m :: after) =
        some (result, before.length + 1) → refused result (before.length + 1) :=
      fun ht => hrefused (acquireSetEffect_of_failed h2 h4 hd (htest.trans ht))
    refine ⟨fun hstale => hfailed (memberTest_stale (s := (s.renewed r q).dropHanded o) hstale _ _), fun en hen => ?_⟩
    have hlive := memberTest_live (s := (s.renewed r q).dropHanded o) (r := r) hen (before.length + 1) after
    exact ⟨fun hret => hfailed (hlive.trans (if_pos hret)), fun hret hcl => hfailed (hlive.trans ((if_neg hret).trans (if_pos hcl)))⟩
  · have heffect := acquireSetEffect_of_passed (limit := nat16 hi lo) h2 h4 hd (s.req_renewed_dropHanded r q o) hpasses
    rw [length_membersNamed]
    refine ⟨fun hbudget => hrefused (heffect.trans (if_pos hbudget)), fun hbudget hpool => ?_, fun hbudget hpool hlimit hnot => ?_⟩
    · exact hrefused (heffect.trans ((if_neg (Nat.not_lt.mpr hbudget)).trans (if_pos hpool)))
    · refine hrefused (heffect.trans ((if_neg (Nat.not_lt.mpr hbudget)).trans ((if_neg (Nat.not_lt.mpr hpool)).trans ?_)))
      rw [show nat16 hi lo = 0 from hlimit]
      refine acquireSetTested_busy ?_
      rw [Bool.eq_false_iff]
      intro hall
      obtain ⟨m, hm, en, mode, hen, hmode, hnot⟩ := hnot
      obtain ⟨p, hp, rfl⟩ := List.mem_map.mp hm
      obtain ⟨en', hen', hat⟩ := State.allAtOnce_iff.mp hall (p.1.slot, p.2) (List.mem_map_of_mem hp)
      have hsame : en' = en := Option.some.inj (hen'.symm.trans (State.entry_of_entryOf hen))
      rw [hsame, Mode.code_injective hmode] at hat
      exact hnot hat

end Sys2Proof.Machine
end

section
/-! ACQUIRE_SET after its tests: granted at once (R50, R53), refused WOULD_DEADLOCK or placed (R54, R55, R68). -/

namespace Sys2Proof.Machine

/-! ### Members by their slots -/

theorem find?_slotModes (pairs : List (Handle × Mode)) (e : EntrySlot) :
    (slotModes pairs).find? (fun p => p.1 = e) = (pairs.find? fun p => p.1.slot = e).map fun p => (p.1.slot, p.2) := by
  rw [slotModes, List.find?_map]
  rfl

theorem find?_slot_of_mem {pairs : List (Handle × Mode)} (hd : (pairs.map fun p => p.1.slot).Nodup) {p : Handle × Mode} (hp : p ∈ pairs) :
    pairs.find? (fun x => x.1.slot = p.1.slot) = some p := by
  cases hf : pairs.find? (fun x => x.1.slot = p.1.slot) with
  | none => exact absurd (decide_eq_true rfl) (List.find?_eq_none.mp hf p hp)
  | some x =>
    have hx : x.1.slot = p.1.slot := by simpa using List.find?_some hf
    rw [List.inj_on_of_nodup_map hd (List.mem_of_find?_eq_some hf) hp hx]

/-! ### The states that the statements name -/

/-- The state under another set id counter, from which a set is granted or placed. -/
def State.withSetId (s : State) (id : Word16) : State := { s with setIdCounter := id }

theorem StoreMoved.mapped (s : State) (f : EntrySlot → Entry → Entry) (id : Word16) (n : Nat) (reqs : Vector (Option Requester) 48) :
    StoreMoved (s.withSetId id) { s with slots := s.mapEntries f, setIdCounter := id, freeRecords := n, requesters := reqs } :=
  .mapEntries (s.withSetId id) f n reqs

theorem State.entry_mapped (s : State) (f : EntrySlot → Entry → Entry) (id : Word16) (n : Nat) (reqs : Vector (Option Requester) 48)
    (e : EntrySlot) : State.entry { s with slots := s.mapEntries f, setIdCounter := id, freeRecords := n, requesters := reqs } e =
      (s.entry e).map (f e) := by
  simp [State.entry, State.mapEntries]

theorem State.req_mapped (s : State) (f : EntrySlot → Entry → Entry) (id : Word16) (n : Nat) (r : ReqSlot) (x : Option Requester)
    (r' : ReqSlot) : State.req { s with
      slots := s.mapEntries f, setIdCounter := id, freeRecords := n, requesters := s.requesters.set r.val x } r' =
        if r = r' then x else s.req r' := by
  unfold State.req
  exact State.req_setReq s r x r'

theorem StoreMoved.takeSetId_renewed (s : State) (r : ReqSlot) (q : Requester) :
    StoreMoved (s.withSetId (nextUnused s.waitingSetIds s.setIdCounter)) (s.renewed r q).takeSetId :=
  .counts (s.withSetId _) s.freeRecords _

/-! ### Grants at once -/

section grantAll

variable (s : State) (r : ReqSlot) (id : Option Word16)

theorem StoreMoved.grantAll (members : List (EntrySlot × Mode)) :
    StoreMoved s (members.foldl (fun u p => u.grantNow r p.1 p.2 id) s) :=
  StoreMoved.foldl (f := fun (u : State) (p : EntrySlot × Mode) => u.grantNow r p.1 p.2 id) s
    (fun u p => StoreMoved.grantNow u r p.1 p.2 id) members

theorem State.freeRecords_grantAll (members : List (EntrySlot × Mode)) :
    (members.foldl (fun u p => u.grantNow r p.1 p.2 id) s).freeRecords = s.freeRecords - members.length := by
  induction members generalizing s with
  | nil => rfl
  | cons p members ih =>
    rw [List.foldl_cons, ih, State.freeRecords_grantNow, List.length_cons]
    omega

theorem State.req_grantAll (members : List (EntrySlot × Mode)) (r' : ReqSlot) :
    (members.foldl (fun u p => u.grantNow r p.1 p.2 id) s).req r' =
      if r = r' then (s.req r).map fun q => { q with holdCount := q.holdCount + members.length } else s.req r' := by
  induction members generalizing s with
  | nil =>
    split
    · next h => subst h; simp
    · rfl
  | cons p members ih =>
    rw [List.foldl_cons, ih, State.req_grantNow, State.req_grantNow, if_pos rfl, Option.map_map, List.length_cons]
    split
    · refine congrArg (fun f => (s.req r).map f) (funext fun q => ?_)
      simp only [Function.comp_apply, Nat.add_zero, Nat.add_assoc, Nat.add_comm 1]
    · rfl

theorem State.entry_grantAll {members : List (EntrySlot × Mode)} (hd : (members.map Prod.fst).Nodup) (e : EntrySlot) :
    (members.foldl (fun u p => u.grantNow r p.1 p.2 id) s).entry e =
      ((members.find? fun p => p.1 = e).elim (s.entry e) fun p =>
        (s.entry e).bind fun en => (en.gainHolder ⟨r, p.2, id, false, none⟩).recomputed) := by
  induction members generalizing s with
  | nil => rfl
  | cons p members ih =>
    obtain ⟨hp, hd⟩ := List.nodup_cons.mp hd
    by_cases he : p.1 = e
    · subst he
      rw [List.foldl_cons, State.entry_grantAll_of_not_mem _ r id hp, State.entry_grantNow, if_pos rfl,
        List.find?_cons_of_pos (by simp)]
      rfl
    · rw [List.foldl_cons, ih _ hd, State.entry_grantNow, if_neg he, List.find?_cons_of_neg (by simpa using he)]

end grantAll

theorem grantAll_dropHanded (s : State) (o : Origin) (r : ReqSlot) (id : Option Word16) (members : List (EntrySlot × Mode)) :
    members.foldl (fun u p => u.grantNow r p.1 p.2 id) (s.dropHanded o) =
      (members.foldl (fun u p => u.grantNow r p.1 p.2 id) s).dropHanded o :=
  foldl_dropHanded (f := fun (u : State) (p : EntrySlot × Mode) => u.grantNow r p.1 p.2 id) s o
    (fun u p => grantNow_dropHanded u o r p.1 p.2 id) members

theorem acquireSetTested_atOnce {s : State} {r : ReqSlot} {members : List (EntrySlot × Mode)} (h : s.allAtOnce members = true)
    (limit : Nat) {u : State}
    (hu : members.foldl (fun u p => u.grantNow r p.1 p.2 (some s.takeSetId.setIdCounter)) s.takeSetId = u) :
    acquireSetTested r members limit s = (u, u.setGranted s.takeSetId.setIdCounter members) := by
  subst hu
  exact if_pos h

/-- A claim set is granted at once: the holds, the pool and the counts (R53). -/
theorem State.grantAll_eq {s : State} {r : ReqSlot} {q : Requester} {pairs : List (Handle × Mode)}
    (hd : (pairs.map fun p => p.1.slot).Nodup)
    (hlive : ∀ p ∈ pairs, ∃ en, s.entry p.1.slot = some en ∧ en.legal ∧ AtOnce en p.2) {f : EntrySlot → Entry → Entry}
    (hf : ∀ e en, f e en = (pairs.find? fun p => p.1.slot = e).elim en fun p =>
      en.granted r p.2 (some (nextUnused s.waitingSetIds s.setIdCounter))) :
    (slotModes pairs).foldl (fun u p => u.grantNow r p.1 p.2 (some (nextUnused s.waitingSetIds s.setIdCounter)))
        (s.renewed r q).takeSetId =
      { s with
        slots := s.mapEntries f, setIdCounter := nextUnused s.waitingSetIds s.setIdCounter, freeRecords := s.freeRecords - pairs.length
        requesters := s.requesters.set r.val (some { q.renewed with holdCount := q.holdCount + pairs.length }) } := by
  have hnodup : ((slotModes pairs).map Prod.fst).Nodup := by rwa [slotModes_map_fst]
  have hentries : ∀ e, (s.renewed r q).takeSetId.entry e = s.entry e := fun _ => rfl
  have hreqs : ∀ r', (s.renewed r q).takeSetId.req r' = if r = r' then some q.renewed else s.req r' := s.req_renewed r q
  refine ((StoreMoved.takeSetId_renewed s r q).trans (.grantAll _ r _ _)).eq (.mapped s f _ _ _) (fun e => ?_) ?_ fun r' => ?_
  · rw [State.entry_mapped, State.entry_grantAll _ r _ hnodup, hentries, find?_slotModes, funext (hf e)]
    cases hfind : pairs.find? fun p => p.1.slot = e with
    | none => exact Option.map_id'.symm
    | some p =>
      obtain rfl : p.1.slot = e := by simpa using List.find?_some hfind
      obtain ⟨en, hen, hlegal, hat⟩ := hlive p (List.mem_of_find?_eq_some hfind)
      rw [hen]
      exact Entry.granted_eq hlegal hat r _
  · rw [State.freeRecords_grantAll, length_slotModes]
    rfl
  · rw [State.req_mapped, State.req_grantAll, hreqs, hreqs, if_pos rfl, length_slotModes]
    split <;> rfl

theorem memberPasses_of_live {s : State} {r : ReqSlot} {pairs : List (Handle × Mode)}
    (h : ∀ p ∈ pairs, ∃ en, s.entryOf p.1 = some en ∧ en.state ≠ .retiring ∧ en.claimed r = false) :
    ∀ m ∈ membersNamed pairs, memberPasses s r m := fun m hm => by
  obtain ⟨p, hp, rfl⟩ := List.mem_map.mp hm
  exact h p hp

/-- An ACQUIRE_SET that passes its tests is answered by what R53 and R54 say of it on the state with the tenure restarted. -/
theorem answers_acquireSet_of_passed {s u : State} {o : Origin} {rid hi lo : Byte} {pairs : List (Handle × Mode)} {h : Handed}
    {r : ReqSlot} {q : Requester} {answer : Answer} (h2 : 2 ≤ pairs.length) (h4 : pairs.length ≤ 4)
    (hd : (pairs.map fun p => p.1.slot).Nodup) (hA : Asked s o rid 0x31#8 (setBytes (membersNamed pairs) hi lo) h r q)
    (hlive : ∀ p ∈ pairs, ∃ en, s.entryOf p.1 = some en ∧ en.state ≠ .retiring ∧ en.claimed r = false)
    (hbudget : q.holdCount + q.waitCount + pairs.length ≤ q.budget) (hpool : pairs.length ≤ s.freeRecords)
    (ht : acquireSetTested r (slotModes pairs) (nat16 hi lo) ((s.renewed r q).dropHanded o) = (u.dropHanded o, answer)) :
    Answers (.acquireSet o rid (setBytes (membersNamed pairs) hi lo)) s (u.reportPool s.freeRecords) h answer := by
  have hlen : (membersNamed pairs).length ≤ 9 := by rw [length_membersNamed]; omega
  refine answers_asked hA rfl (setPayload_setBytes hlen hi lo) ?_
  refine (acquireSetEffect_of_passed h2 h4 hd (s.req_renewed_dropHanded r q o) (memberPasses_of_live hlive)).trans ?_
  exact (if_neg (Nat.not_lt.mpr hbudget)).trans ((if_neg (Nat.not_lt.mpr hpool)).trans ht)

theorem setGranted_eq {t : State} {id : Word16} {pairs : List (Handle × Mode)} {report : Handle × Mode → List Byte}
    (h : ∀ p ∈ pairs, t.grantReport p.1.slot = report p) :
    t.setGranted id (slotModes pairs) = ⟨.granted, bytes16 id.toNat ++ pairs.flatMap report⟩ := by
  rw [State.setGranted, slotModes, List.flatMap_map]
  exact congrArg (fun l => (⟨.granted, bytes16 id.toNat ++ l⟩ : Answer)) (List.flatMap_congr h)

/-- Settles O27: every member entry gains the hold under the new set id. -/
theorem acquireSetGrantedAtOnce : Obligations.AcquireSetGrantedAtOnce := by
  intro s o rid hi lo members h r q named h2 h4 hd hA hs hlive hbudget hpool id u
  have hcons := s.consistent_iff.mp hs
  have hentries : ∀ p ∈ members, ∃ en, s.entry p.1.slot = some en ∧ en.legal ∧ AtOnce en p.2 := fun p hp => by
    obtain ⟨en, hen, -, hat⟩ := hlive p hp
    exact ⟨en, State.entry_of_entryOf hen, hcons.entries _ en (State.entry_of_entryOf hen), hat⟩
  have hu : (slotModes members).foldl (fun u p => u.grantNow r p.1 p.2 (some id)) (s.renewed r q).takeSetId = u :=
    State.grantAll_eq hd hentries fun e _ => by cases members.find? fun p => p.1.slot = e <;> rfl
  have hall : ((s.renewed r q).dropHanded o).allAtOnce (slotModes members) = true := State.allAtOnce_iff.mpr fun x hx => by
    obtain ⟨p, hp, rfl⟩ := List.mem_map.mp hx
    obtain ⟨en, hen, -, hat⟩ := hentries p hp
    exact ⟨en, hen, hat⟩
  refine ⟨fun x hx => hcons.table.fresh (State.mem_waitRecords.mp hx), ?_⟩
  refine answers_acquireSet_of_passed h2 h4 hd hA (fun p hp => ?_) hbudget hpool ?_
  · obtain ⟨en, hen, hcl, hat⟩ := hlive p hp
    exact ⟨en, hen, Entry.atOnce_ne_retiring hat, hcl⟩
  · refine (acquireSetTested_atOnce hall _ (u := u.dropHanded o)
      ((grantAll_dropHanded (s.renewed r q).takeSetId o r (some id) _).trans (by rw [hu]))).trans (Prod.ext rfl ?_)
    refine setGranted_eq fun p hp => ?_
    obtain ⟨en, hen, hlegal, hat⟩ := hentries p hp
    obtain ⟨en', hen', -⟩ := hlive p hp
    have hsame : en' = en := Option.some.inj ((State.entry_of_entryOf hen').symm.trans hen)
    have hentry : (u.dropHanded o).entry p.1.slot = some (en.granted r p.2 (some id)) := by
      have hmapped : u.entry p.1.slot = _ := State.entry_mapped s _ _ _ _ p.1.slot
      refine hmapped.trans ?_
      rw [hen, Option.map_some, find?_slot_of_mem hd hp]
    rw [State.grantReport_of_entry hentry, hen', hsame]
    rfl

end Sys2Proof.Machine
end

section
/-! ACQUIRE_SET that waits: the wait-for check, the records of the set in their queues, and the passes (R54, R55, R68). -/

namespace Sys2Proof.Machine

/-! ### The records of a set -/

/-- The waiting record of a member: the first one is marked and carries the countdown (R54). -/
def setRecordOf (r : ReqSlot) (id : Word16) (limit : Nat) (pairs : List (Handle × Mode)) (p : Handle × Mode) : Claim :=
  ⟨r, p.2, some id, decide ((pairs.head?.map fun x => x.1.slot) = some p.1.slot),
    if decide ((pairs.head?.map fun x => x.1.slot) = some p.1.slot) = true ∧ limit ≠ 65535 then some limit else none⟩

theorem setRecords_slotModes (r : ReqSlot) (id : Word16) (limit : Nat) {pairs : List (Handle × Mode)}
    (hd : (pairs.map fun p => p.1.slot).Nodup) :
    setRecords r id limit (slotModes pairs) = pairs.map fun p => (p.1.slot, setRecordOf r id limit pairs p) := by
  cases pairs with
  | nil => rfl
  | cons p pairs =>
    obtain ⟨hp, -⟩ := List.nodup_cons.mp hd
    have hfirst : setRecordOf r id limit (p :: pairs) p = ⟨r, p.2, some id, true, waitDeadline limit⟩ := by
      simp [setRecordOf, waitDeadline]
    have hothers : ∀ p' ∈ pairs, setRecordOf r id limit (p :: pairs) p' = ⟨r, p'.2, some id, false, none⟩ := fun p' hp' => by
      have hne : p.1.slot ≠ p'.1.slot := fun heq => hp (List.mem_map.mpr ⟨p', hp', heq.symm⟩)
      simp [setRecordOf, hne]
    show (p.1.slot, (⟨r, p.2, some id, true, waitDeadline limit⟩ : Claim)) ::
      (slotModes pairs).map (fun q => (q.1, (⟨r, q.2, some id, false, none⟩ : Claim))) = _
    rw [List.map_cons, hfirst, slotModes, List.map_map]
    refine congrArg (List.cons _) (List.map_congr_left fun p' hp' => ?_)
    rw [hothers p' hp']
    rfl

theorem find?_setRecords (r : ReqSlot) (id : Word16) (limit : Nat) {pairs : List (Handle × Mode)}
    (hd : (pairs.map fun p => p.1.slot).Nodup) (e : EntrySlot) : (setRecords r id limit (slotModes pairs)).find? (fun p => p.1 = e) =
      (pairs.find? fun p => p.1.slot = e).map fun p => (p.1.slot, setRecordOf r id limit pairs p) := by
  rw [setRecords_slotModes r id limit hd, List.find?_map]
  rfl

/-! ### Placements -/

section placeAll

variable (s : State)

theorem StoreMoved.placeAll (records : List (EntrySlot × Claim)) : StoreMoved s (records.foldl (fun u p => u.place p.1 p.2) s) :=
  StoreMoved.foldl (f := fun (u : State) (p : EntrySlot × Claim) => u.place p.1 p.2) s (fun u p => StoreMoved.place u p.1 p.2) records

theorem State.freeRecords_placeAll (records : List (EntrySlot × Claim)) :
    (records.foldl (fun u p => u.place p.1 p.2) s).freeRecords = s.freeRecords - records.length := by
  induction records generalizing s with
  | nil => rfl
  | cons p records ih =>
    rw [List.foldl_cons, ih, State.freeRecords_place, List.length_cons]
    omega

theorem State.req_placeAll {r : ReqSlot} {records : List (EntrySlot × Claim)} (h : ∀ p ∈ records, p.2.requester = r) (r' : ReqSlot) :
    (records.foldl (fun u p => u.place p.1 p.2) s).req r' =
      if r = r' then (s.req r).map fun q => { q with waitCount := q.waitCount + records.length } else s.req r' := by
  induction records generalizing s with
  | nil =>
    split
    · next h => subst h; simp
    · rfl
  | cons p records ih =>
    obtain rfl := h p List.mem_cons_self
    rw [List.foldl_cons, ih _ fun p' hp' => h p' (List.mem_cons_of_mem p hp'), State.req_place, State.req_place, if_pos rfl,
      Option.map_map, List.length_cons]
    split
    · refine congrArg (fun f => (s.req p.2.requester).map f) (funext fun q => ?_)
      simp only [Function.comp_apply, Nat.add_zero, Nat.add_assoc, Nat.add_comm 1]
    · rfl

end placeAll

theorem placeAll_dropHanded (s : State) (o : Origin) (records : List (EntrySlot × Claim)) :
    records.foldl (fun u p => u.place p.1 p.2) (s.dropHanded o) = (records.foldl (fun u p => u.place p.1 p.2) s).dropHanded o :=
  foldl_dropHanded (f := fun (u : State) (p : EntrySlot × Claim) => u.place p.1 p.2) s o (fun u p => place_dropHanded u o p.1 p.2) records

theorem placeRecords_dropHanded (s : State) (o : Origin) (r : ReqSlot) (limit : Nat) (members : List (EntrySlot × Mode)) :
    (s.dropHanded o).placeRecords r limit members = (s.placeRecords r limit members).dropHanded o :=
  placeAll_dropHanded s.takeSetId o _

/-- The records of a set stand in their queues (R54). -/
theorem State.placeRecords_eq {s : State} {r : ReqSlot} {q : Requester} {limit : Nat} {pairs : List (Handle × Mode)}
    (hq : s.req r = some q) (hd : (pairs.map fun p => p.1.slot).Nodup)
    (hlive : ∀ p ∈ pairs, ∃ en, s.entry p.1.slot = some en ∧ en.state ≠ .retiring) {f : EntrySlot → Entry → Entry}
    (hf : ∀ e en, f e en = (pairs.find? fun p => p.1.slot = e).elim en fun p =>
      en.placed s.priority (setRecordOf r (nextUnused s.waitingSetIds s.setIdCounter) limit pairs p)) :
    (s.renewed r q).placeRecords r limit (slotModes pairs) =
      { s with
        slots := s.mapEntries f, setIdCounter := nextUnused s.waitingSetIds s.setIdCounter, freeRecords := s.freeRecords - pairs.length
        requesters := s.requesters.set r.val (some { q.renewed with waitCount := q.waitCount + pairs.length }) } := by
  have hnodup : ((setRecords r (nextUnused s.waitingSetIds s.setIdCounter) limit (slotModes pairs)).map Prod.fst).Nodup := by
    rwa [setRecords_map_fst, slotModes_map_fst]
  have hentries : ∀ e, (s.renewed r q).takeSetId.entry e = s.entry e := fun _ => rfl
  have hreqs : ∀ r', (s.renewed r q).takeSetId.req r' = if r = r' then some q.renewed else s.req r' := s.req_renewed r q
  have hpriority : (s.renewed r q).takeSetId.priority = s.priority := State.priority_renewed hq
  have hlen : (setRecords r (s.renewed r q).takeSetId.setIdCounter limit (slotModes pairs)).length = pairs.length := by
    rw [setRecords_slotModes _ _ _ hd, List.length_map]
  refine ((StoreMoved.takeSetId_renewed s r q).trans (.placeAll _ _)).eq (.mapped s f _ _ _) (fun e => ?_) ?_ fun r' => ?_
  · rw [State.entry_mapped, funext (hf e)]
    refine (State.entry_placeAll (s := (s.renewed r q).takeSetId) hnodup e).trans ?_
    rw [hentries, find?_setRecords _ _ _ hd, hpriority]
    cases hfind : pairs.find? fun p => p.1.slot = e with
    | none => exact Option.map_id'.symm
    | some p =>
      obtain rfl : p.1.slot = e := by simpa using List.find?_some hfind
      obtain ⟨en, hen, hret⟩ := hlive p (List.mem_of_find?_eq_some hfind)
      rw [hen]
      exact Entry.recomputed_of_ne_retiring (en := { en with queue := insertWaiter s.priority _ en.queue }) hret
  · refine (State.freeRecords_placeAll _ _).trans ?_
    rw [hlen]
    rfl
  · rw [State.req_mapped]
    refine (State.req_placeAll _ (r := r) (fun p hp => (mem_setRecords hp).2.1) r').trans ?_
    rw [hreqs, hreqs, if_pos rfl, hlen]
    split <;> rfl

/-! ### The command -/

/-- The members on which passes run: those where a record of the set stands at the head (R55). -/
def State.headMembers (s : State) (r : ReqSlot) (id : Word16) : List EntrySlot :=
  s.slotsWhere fun en => (en.queue.head?.map fun c => c.inSet r id).getD false

theorem headMembers_dropHanded (s : State) (o : Origin) (r : ReqSlot) (id : Word16) :
    (s.dropHanded o).headMembers r id = s.headMembers r id := rfl

theorem placeSet_eq (r : ReqSlot) (members : List (EntrySlot × Mode)) (limit : Nat) (s : State) {u w : State}
    (hu : s.placeRecords r limit members = u) (hw : u.runPasses (.set r s.takeSetId.setIdCounter) (u.headMembers r s.takeSetId.setIdCounter) = w) :
    placeSet r members limit s = (w, if members.all fun p => w.isHolding r p.1 then w.setGranted s.takeSetId.setIdCounter members
      else ⟨.queued, bytes16 s.takeSetId.setIdCounter.toNat ++ members.flatMap fun p => u.queueReport r p.1⟩) := by
  subst hu
  subst hw
  exact (apply_ite (Prod.mk _) _ _ _).symm

/-- Whether passes granted the record of a requester that has no other record on the entry. -/
theorem PassesRan.isHolding_iff {quiet : Quiet} {list : List EntrySlot} {u w : State} (h : PassesRan quiet list u w) {e : EntrySlot}
    {eu : Entry} {r : ReqSlot} {c : Claim} (hu : u.entry e = some eu) (hold : eu.hold r = none)
    (hc : ∀ d ∈ eu.queue, d.requester = r ↔ d = c) : w.isHolding r e = true ↔ Granted u w e c := by
  obtain ⟨ew, hw⟩ := Option.isSome_iff_exists.mp ((h.live e).trans (by rw [hu]; rfl))
  have hadmitted := h.entries e eu ew hu hw
  rw [State.isHolding_of_entry hw, Entry.hold_isSome]
  constructor
  · rintro ⟨d, hd, hdr⟩
    obtain hd | ⟨x, hx, hgone, rfl⟩ := (hadmitted.holders d).mp hd
    · have hsome : (eu.hold r).isSome := Entry.hold_isSome.mpr ⟨d, hd, hdr⟩
      simp [hold] at hsome
    · obtain rfl := (hc x hx).mp hdr
      exact ⟨eu, ew, hu, hw, hx, hgone⟩
  · rintro ⟨eu', ew', hu', hw', hmem, hgone⟩
    obtain rfl : eu = eu' := Option.some.inj (hu.symm.trans hu')
    obtain rfl : ew = ew' := Option.some.inj (hw.symm.trans hw')
    exact ⟨_, (hadmitted.holders _).mpr (.inr ⟨c, hmem, hgone, rfl⟩), (hc c hmem).mpr rfl⟩

section tested

variable {s : State} {r : ReqSlot} {members : List (EntrySlot × Mode)} {limit : Nat} (hn : s.allAtOnce members = false) (hl : limit ≠ 0)

include hn hl

theorem acquireSetTested_deadlock (hd : s.wouldDeadlock r (setRecords r s.setIdCounter limit members) = true) :
    acquireSetTested r members limit s = refuseMember .wouldDeadlock 0 s := by
  rw [acquireSetTested, if_neg (by simp [hn]), if_neg hl, if_pos hd]

theorem acquireSetTested_placed (hd : ¬ s.wouldDeadlock r (setRecords r s.setIdCounter limit members) = true) :
    acquireSetTested r members limit s = placeSet r members limit s := by
  rw [acquireSetTested, if_neg (by simp [hn]), if_neg hl, if_neg hd]

end tested

/-- The wait-for check of a set refuses exactly a cycle of the relation with its records in place (R68). -/
theorem State.wouldDeadlock_set_iff {s : State} {r : ReqSlot} {q : Requester} {members : List (EntrySlot × Mode)} (limit : Nat)
    (ha : SetAllowed s r q members) (id : Word16) : s.wouldDeadlock r (setRecords r id limit members) = true ↔
      Relation.TransGen (fun x y => (x, y) ∈ (s.placeRecords r limit members).waitEdges) r r := by
  have hnodup : ∀ id, ((setRecords r id limit members).map Prod.fst).Nodup := fun id => by
    rw [setRecords_map_fst]
    exact ha.distinct
  have hlive : ∀ id, ∀ p ∈ setRecords r id limit members, p.2.requester = r ∧ ∃ en, s.entry p.1 = some en ∧ en.state ≠ .retiring :=
    fun id p hp => by
      obtain ⟨hmem, hr, -⟩ := mem_setRecords hp
      obtain ⟨en, hen, hret, -⟩ := ha.live _ hmem
      exact ⟨hr, en, hen, hret⟩
  rw [State.wouldDeadlock_iff (hnodup id) fun p hp => by
    obtain ⟨hr, en, hen, -⟩ := hlive id p hp
    exact ⟨hr, en, hen⟩]
  have hwaits := State.waitsAt_placeAll (s := s.takeSetId) (hnodup s.takeSetId.setIdCounter) (hlive _)
  rw [setRecords_map_fst] at hwaits ⊢
  exact (State.cycle_iff (s := s) hwaits).symm

/-- Settles O28: the check on the placed relation, the records in place and the passes. -/
theorem acquireSetPlaced : Obligations.AcquireSetPlaced := by
  intro s o rid hi lo members h r q named limit h2 h4 hd hA hs hlive hnot hbudget hpool hlimit i id record u cycle
  have hcons := (s.consistent_iff.mp hs).renewed hA.2.2
  have hentries : ∀ p ∈ members, ∃ en, s.entry p.1.slot = some en ∧ en.state ≠ .retiring ∧ en.claimed r = false := fun p hp => by
    obtain ⟨en, hen, hret, hcl⟩ := hlive p hp
    exact ⟨en, State.entry_of_entryOf hen, hret, hcl⟩
  have hallowed : SetAllowed (s.renewed r q) r q.renewed (slotModes members) := by
    refine ⟨by rwa [length_slotModes], by rwa [length_slotModes], by rwa [slotModes_map_fst], s.req_renewed_self r q, fun x hx => ?_,
      by rwa [length_slotModes], by rwa [length_slotModes]⟩
    obtain ⟨p, hp, rfl⟩ := List.mem_map.mp hx
    exact hentries p hp
  have hu : (s.renewed r q).placeRecords r limit (slotModes members) = u :=
    State.placeRecords_eq hA.2.2 hd (fun p hp => by
      obtain ⟨en, hen, hret, -⟩ := hentries p hp
      exact ⟨en, hen, hret⟩) fun e _ => by cases members.find? fun p => p.1.slot = e <;> rfl
  have huEntry : ∀ p ∈ members, ∃ en : Entry, en.claimed r = false ∧ u.entry p.1.slot = some (en.placed s.priority (record p)) := fun p hp => by
    obtain ⟨en, hen, -, hcl⟩ := hentries p hp
    have hmapped : u.entry p.1.slot = _ := State.entry_mapped s _ _ _ _ p.1.slot
    refine ⟨en, hcl, hmapped.trans ?_⟩
    rw [hen, Option.map_some, find?_slot_of_mem hd hp]
  have hall : ((s.renewed r q).dropHanded o).allAtOnce (slotModes members) = false := by
    rw [Bool.eq_false_iff]
    intro hall
    obtain ⟨p, hp, en, hen, hnot⟩ := hnot
    obtain ⟨en', hen', hat⟩ := State.allAtOnce_iff.mp hall (p.1.slot, p.2) (List.mem_map_of_mem hp)
    obtain rfl : en' = en := Option.some.inj (hen'.symm.trans (State.entry_of_entryOf hen))
    exact hnot hat
  have hcheck : ((s.renewed r q).dropHanded o).wouldDeadlock r (setRecords r s.setIdCounter limit (slotModes members)) = true ↔ cycle := by
    rw [wouldDeadlock_dropHanded, State.wouldDeadlock_set_iff limit hallowed, hu]
  have hanswer : ∀ {v : State} {answer : Answer}, acquireSetTested r (slotModes members) limit ((s.renewed r q).dropHanded o) =
      (v.dropHanded o, answer) → Answers i s (v.reportPool s.freeRecords) h answer := fun ht =>
    answers_acquireSet_of_passed h2 h4 hd hA hlive hbudget hpool ht
  refine ⟨fun hcycle => ?_, fun hcycle => ?_⟩
  · have hrefused := hanswer (v := s.renewed r q) (acquireSetTested_deadlock hall hlimit (hcheck.mpr hcycle))
    rwa [show s.freeRecords = (s.renewed r q).freeRecords from rfl, State.reportPool_same] at hrefused
  have hran := State.runPasses_passesRan (hcons.placeRecords limit hallowed) (.set r id) (u.headMembers r id)
  rw [hu] at hran
  obtain ⟨w, hw⟩ : ∃ w, u.runPasses (.set r id) (u.headMembers r id) = w := ⟨_, rfl⟩
  rw [hw] at hran
  have hgranted : ∀ p ∈ members, (w.isHolding r p.1.slot = true ↔ Granted u w p.1.slot (record p)) := fun p hp => by
    obtain ⟨en, hcl, hen⟩ := huEntry p hp
    refine hran.isHolding_iff hen (Entry.hold_of_unclaimed (en := en) hcl) fun d hd => ⟨fun hdr => ?_, fun hdr => by rw [hdr]⟩
    obtain heq | hold := Entry.mem_placed.mp hd
    · exact heq
    · exact absurd hdr (Entry.claimed_eq_false.mp hcl d (List.mem_append_right _ hold))
  have hplaceHanded : ((s.renewed r q).dropHanded o).placeRecords r limit (slotModes members) = u.dropHanded o := by
    rw [placeRecords_dropHanded, hu]
  have hrunHanded : (u.dropHanded o).runPasses (.set r id) ((u.dropHanded o).headMembers r id) = w.dropHanded o := by
    rw [runPasses_dropHanded, headMembers_dropHanded, hw]
  have hplace := placeSet_eq r (slotModes members) limit ((s.renewed r q).dropHanded o) hplaceHanded hrunHanded
  have htested := (acquireSetTested_placed hall hlimit (mt hcheck.mp hcycle)).trans hplace
  refine ⟨w, hran, fun hyes => hanswer (htested.trans (Prod.ext rfl ?_)), fun hno => hanswer (htested.trans (Prod.ext rfl ?_))⟩
  · have hholding : ((slotModes members).all fun p => (w.dropHanded o).isHolding r p.1) = true := List.all_eq_true.mpr fun x hx => by
      obtain ⟨p, hp, rfl⟩ := List.mem_map.mp hx
      exact (hgranted p hp).mpr (hyes p hp)
    refine (if_pos hholding).trans (setGranted_eq fun p hp => ?_)
    rw [State.grantReport]
    cases hen : w.entry p.1.slot with
    | none => rw [show (w.dropHanded o).entry p.1.slot = none from hen]
    | some en => rw [show (w.dropHanded o).entry p.1.slot = some en from hen]; rfl
  · have hholding : ¬ ((slotModes members).all fun p => (w.dropHanded o).isHolding r p.1) = true := fun hall => by
      obtain ⟨p, hp⟩ := List.exists_mem_of_length_pos (Nat.lt_of_lt_of_le Nat.zero_lt_two h2)
      exact hno p hp ((hgranted p hp).mp (List.all_eq_true.mp hall (p.1.slot, p.2) (List.mem_map_of_mem hp)))
    refine (if_neg hholding).trans (congrArg (fun l => (⟨.queued, bytes16 id.toNat ++ l⟩ : Answer)) ?_)
    rw [slotModes, List.flatMap_map]
    refine List.flatMap_congr fun p hp => ?_
    obtain ⟨en, -, hen⟩ := huEntry p hp
    rw [hen]
    exact State.queueReport_of_entry (s := u.dropHanded o) hen r

end Sys2Proof.Machine
end

section
/-! The node link commands: ROSTER_ADD, ROSTER_REMOVE, LINK_CONFIG, and what was deferred to the end of an exchange (R107, R133 to R138). -/

namespace Sys2Proof.Machine

/-! ### ROSTER_ADD -/

theorem rosterAddEffect_of_bad {b : Byte} (h : addressValid b.toNat = false) (s : State) : rosterAddEffect b s = refuse .badValue s := by
  simp only [rosterAddEffect, h, Bool.not_false, if_true]

section valid

variable {b : Byte} {s : State} (hv : addressValid b.toNat = true)

include hv

theorem rosterAddEffect_of_exists (h : (s.node b.toNat).isSome = true) : rosterAddEffect b s = refuse .nodeExists s := by
  simp only [rosterAddEffect, hv, Bool.not_true, Bool.false_eq_true, if_false, h, if_true]

theorem rosterAddEffect_of_full (h : (s.node b.toNat).isSome = false) (hfull : 30 ≤ s.link.roster.length) :
    rosterAddEffect b s = refuse .rosterFull s := by
  simp only [rosterAddEffect, hv, Bool.not_true, Bool.false_eq_true, if_false, h, Config.rosterSize, hfull, if_true]

theorem rosterAddEffect_of_new (h : (s.node b.toNat).isSome = false) (hroom : s.link.roster.length < 30) : rosterAddEffect b s =
    (({ s with link := { s.link with roster := insertNode (joinedRecord b.toNat) s.link.roster } } : State).resumePolling, ⟨.ok, []⟩) := by
  simp only [rosterAddEffect, hv, Bool.not_true, Bool.false_eq_true, if_false, h, Config.rosterSize, Nat.not_le.mpr hroom, changeOk]

end valid

theorem State.node_eq_none {s : State} {a : Nat} : s.node a = none ↔ ∀ n ∈ s.link.roster, n.address ≠ a := by
  rw [State.node, List.find?_eq_none]
  simp

theorem State.node_isSome_eq_false {s : State} {a : Nat} : (s.node a).isSome = false ↔ ∀ n ∈ s.link.roster, n.address ≠ a := by
  rw [← State.node_eq_none, Option.isSome_eq_false_iff, Option.isNone_iff_eq_none]

/-- A record enters a sorted roster between the lower and the higher addresses (R136). -/
theorem insertNode_split {n : NodeRecord} {l : List NodeRecord} (h : l.Pairwise fun m n => m.address < n.address)
    (hn : ∀ m ∈ l, m.address ≠ n.address) : ∃ below above, l = below ++ above ∧ insertNode n l = below ++ n :: above ∧
      (∀ m ∈ below, m.address < n.address) ∧ ∀ m ∈ above, n.address < m.address := by
  induction l with
  | nil => exact ⟨[], [], rfl, rfl, List.forall_mem_nil _, List.forall_mem_nil _⟩
  | cons k l ih =>
    obtain ⟨hk, hl⟩ := List.pairwise_cons.mp h
    have hne := hn k List.mem_cons_self
    by_cases hlt : k.address < n.address
    · obtain ⟨below, above, rfl, hins, hbelow, habove⟩ := ih hl fun m hm => hn m (List.mem_cons_of_mem _ hm)
      exact ⟨k :: below, above, rfl, by rw [insertNode, if_pos hlt, hins]; rfl, List.forall_mem_cons.mpr ⟨hlt, hbelow⟩, habove⟩
    · have hgt : n.address < k.address := by omega
      exact ⟨[], k :: l, rfl, if_neg hlt, List.forall_mem_nil _, List.forall_mem_cons.mpr ⟨hgt, fun m hm => hgt.trans (hk m hm)⟩⟩

/-- A controller that waits on an enabled link with a node starts a new cycle (R142). -/
theorem State.resumePolling_eq {s : State} (h : s.link.roster ≠ []) : s.resumePolling =
    { s with link := { s.link with
        pollWait := if s.link.pollWait ∧ s.link.enabled = true then false else s.link.pollWait
        cyclePosition := if s.link.pollWait ∧ s.link.enabled = true then none else s.link.cyclePosition } } := by
  by_cases hc : s.link.pollWait ∧ s.link.enabled = true
  · rw [State.resumePolling, if_pos ⟨hc.1, hc.2, h⟩]
    simp only [if_pos hc]
  · rw [State.resumePolling, if_neg fun hall => hc ⟨hall.1, hall.2.1⟩]
    simp only [if_neg hc]

/-- Settles O43: the refusals of R137, then the record in its place. -/
theorem nodeAdded : Obligations.NodeAdded := by
  intro s o rid b h hst hadmin i valid
  refine ⟨fun hbad => ?_, fun hv ⟨n, hn, ha⟩ => ?_, fun hv hnew hfull => ?_, fun hv hnew hroom hs => ?_⟩
  · exact answers_admin_same hst hadmin rfl rfl (rosterAddEffect_of_bad (addressValid_eq_false (by omega)) (s.dropHanded o)) rfl
  · exact answers_admin_same hst hadmin rfl rfl
      (rosterAddEffect_of_exists (s := s.dropHanded o) (addressValid_eq_true hv.1 hv.2) (State.node_isSome.mpr ⟨n, hn, ha⟩)) rfl
  · exact answers_admin_same hst hadmin rfl rfl
      (rosterAddEffect_of_full (s := s.dropHanded o) (addressValid_eq_true hv.1 hv.2) (State.node_isSome_eq_false.mpr hnew) hfull) rfl
  · obtain ⟨below, above, hroster, hins, hbelow, habove⟩ := insertNode_split (n := joinedRecord b.toNat) hs.1 hnew
    refine ⟨below, above, hroster, hbelow, habove, answers_admin_same hst hadmin rfl rfl ((rosterAddEffect_of_new (s := s.dropHanded o)
      (addressValid_eq_true hv.1 hv.2) (State.node_isSome_eq_false.mpr hnew) hroom).trans ?_) rfl⟩
    rw [State.resumePolling_eq (by simp [State.dropHanded, hins])]
    exact Prod.ext (by simp only [State.dropHanded, hins]; rfl) rfl

/-! ### The deletion of a node -/

/-- No requester of an origin is left when all of them were evicted. -/
theorem State.reqsOf_evictAll {s : State} (h : s.Consistent) (o : Origin) (cause : Cause) :
    (s.evictAll (s.reqsOf o) cause).reqsOf o = [] := by
  refine List.eq_nil_iff_forall_not_mem.mpr fun r hr => ?_
  obtain ⟨q, hq, ho⟩ := State.mem_reqsOf.mp hr
  obtain hnone | hsame := s.sameOrFree_evictAll (s.reqsOf o) cause r
  · rw [hnone] at hq
    cases hq
  · rw [hq, Option.map_some, eq_comm, Option.map_eq_some_iff] at hsame
    obtain ⟨q', hq', hfixed⟩ := hsame
    have ho' : q'.origin = o := (congrArg (fun x => x.1.1) hfixed).trans ho
    rw [(State.evictAll_gone h _ cause (State.mem_reqsOf.mpr ⟨q', hq', ho'⟩)).1] at hq
    cases hq

theorem State.Consistent.withoutNode {s : State} (h : s.Consistent) (a : Nat) : (s.withoutNode a).Consistent :=
  StoreChange.consistent h (.same ⟨rfl, rfl, rfl, rfl, rfl, rfl, rfl⟩)

/-- The deletion of a record evicts the node's requesters in turn (R107). -/
theorem State.deleteNode_inTurn {s : State} (h : s.Consistent) (a : Nat) :
    EvictedInTurn .roster (s.withoutNode a) (s.reqsOf (.node a)) (s.deleteNode a) :=
  State.evictAll_inTurn (h.withoutNode a) (s.nodup_reqsOf _) (fun _ hr => State.isSome_of_mem_reqsOf hr) .roster

theorem State.reqsOf_deleteNode {s : State} (h : s.Consistent) (a : Nat) : (s.deleteNode a).reqsOf (.node a) = [] :=
  State.reqsOf_evictAll (h.withoutNode a) (.node a) .roster

/-! ### ROSTER_REMOVE -/

theorem rosterRemoveEffect_of_bad {b : Byte} (h : addressValid b.toNat = false) (s : State) : rosterRemoveEffect b s = refuse .badValue s := by
  simp only [rosterRemoveEffect, h, Bool.not_false, if_true]

section remove

variable {b : Byte} {s : State} {n : NodeRecord} (hv : addressValid b.toNat = true)

include hv

theorem rosterRemoveEffect_of_none (hn : s.node b.toNat = none) : rosterRemoveEffect b s = refuse .noSuchNode s := by
  simp only [rosterRemoveEffect, hv, Bool.not_true, Bool.false_eq_true, if_false, hn]

variable (hn : s.node b.toNat = some n)

include hn

theorem rosterRemoveEffect_of_leaving (hl : n.state = .leaving) : rosterRemoveEffect b s = (s, ⟨.ok, []⟩) := by
  simp only [rosterRemoveEffect, hv, Bool.not_true, Bool.false_eq_true, if_false, hn, hl, if_true, answerOk]

theorem rosterRemoveEffect_of_inExchange (hl : n.state ≠ .leaving) (hx : s.inExchange b.toNat = true) : rosterRemoveEffect b s =
    (s.modifyNode b.toNat fun n => { n with state := .leaving }, ⟨.ok, []⟩) := by
  simp only [rosterRemoveEffect, hv, Bool.not_true, Bool.false_eq_true, if_false, hn, hl, hx, if_true, changeOk]

theorem rosterRemoveEffect_of_idle (hl : n.state ≠ .leaving) (hx : ¬ s.inExchange b.toNat = true) :
    rosterRemoveEffect b s = (s.deleteNode b.toNat, ⟨.ok, []⟩) := by
  simp only [rosterRemoveEffect, hv, Bool.not_true, Bool.false_eq_true, if_false, hn, hl, hx, changeOk]

end remove

theorem State.inExchange_iff {s : State} {a : Nat} :
    s.inExchange a = true ↔ ∃ x, s.link.exchange = some x ∧ x.node = a ∧ x.phase ≠ .ending := by
  unfold State.inExchange
  cases s.link.exchange <;> simp

/-- Settles O44: the refusals of R138, then the node by its state and its exchange. -/
theorem nodeRemovedOrLeaving : Obligations.NodeRemovedOrLeaving := by
  intro s o rid b h hst hadmin i inFlight deleted
  refine ⟨fun hbad => ?_, fun h1 h30 hn => ?_, fun n h1 h30 hn => ?_⟩
  · exact answers_admin_same hst hadmin rfl rfl (rosterRemoveEffect_of_bad (addressValid_eq_false hbad) (s.dropHanded o)) rfl
  · exact answers_admin_same hst hadmin rfl rfl
      (rosterRemoveEffect_of_none (s := s.dropHanded o) (addressValid_eq_true h1 h30) hn) rfl
  have hv := addressValid_eq_true h1 h30
  refine ⟨fun hl => ?_, fun hl hx => ?_, fun hl hx hs => ?_⟩
  · exact answers_admin_same hst hadmin rfl rfl (rosterRemoveEffect_of_leaving (s := s.dropHanded o) hv hn hl) rfl
  · exact answers_admin_same hst hadmin rfl rfl
      (rosterRemoveEffect_of_inExchange (s := s.dropHanded o) hv hn hl (State.inExchange_iff.mpr hx)) rfl
  · have hcons := s.consistent_iff.mp hs
    refine ⟨s.deleteNode b.toNat, State.deleteNode_inTurn hcons b.toNat, rfl, State.reqsOf_deleteNode hcons b.toNat,
      answers_admin hst hadmin rfl rfl
        (rosterRemoveEffect_of_idle (s := s.dropHanded o) hv hn hl (mt State.inExchange_iff.mp hx)) ?_⟩
    rw [deleteNode_dropHanded]
    rfl

/-! ### The exchange at its end -/

/-- An exchange whose node is not LEAVING leaves flight unless a disable or a bit time waits for its end (R133, R134). -/
theorem State.closeExchange_eq {s : State} {x : Exchange} (hx : s.link.exchange = some x)
    (hl : ∀ n, s.node x.node = some n → n.state ≠ .leaving) : s.closeExchange =
      { s with link := { s.link with
          exchange := if s.link.pendingDisable || s.link.bitTimePending then some ⟨x.node, .ending⟩ else none } } := by
  have hdeferred : s.endDeferred = (s.link.pendingDisable || s.link.bitTimePending) := by
    unfold State.endDeferred
    rw [hx]
    dsimp only
    cases hn : s.node x.node with
    | none => exact Bool.or_false _
    | some n => simp [hl n hn]
  simp only [State.closeExchange, hx, hdeferred]
  split <;> rfl

/-- The claims deferred to the end of an exchange, when no removal is among them. -/
theorem State.exec_takenAtEnd {s : State} {x : Exchange} (hx : s.link.exchange = some x) (hp : x.phase = .ending)
    (hl : ∀ n, s.node x.node = some n → n.state ≠ .leaving) :
    (s.link.pendingDisable = true → exec .linkDisable s = .next s.disableLink.closeExchange) ∧
    (s.link.bitTimePending = true →
      exec .bitTimeChange s = .next (s.setRate (s.link.pendingRate.getD s.link.rate)).closeExchange) := by
  have hnone : s.leavingAtEnd = none := by
    by_contra hsome
    obtain ⟨a, ha⟩ := Option.ne_none_iff_exists'.mp hsome
    obtain ⟨y, hy, -, rfl, n, hn, hleaving⟩ := State.leavingAtEnd_eq_some_iff.mp ha
    obtain rfl : x = y := Option.some.inj (hx.symm.trans hy)
    exact hl n hn hleaving
  have hending := State.ending_iff.mpr ⟨x, hx, hp⟩
  exact ⟨fun h => if_pos ⟨hending, hnone, h⟩, fun h => if_pos ⟨hending, hnone, h⟩⟩

/-- In a disabled link no node is LEAVING. -/
theorem State.node_disableLink {s : State} {a : Nat} {n : NodeRecord} (h : s.disableLink.node a = some n) : n.state ≠ .leaving := by
  obtain ⟨hmem, -⟩ := State.node_some h
  obtain ⟨m, -, rfl⟩ := List.mem_map.mp hmem
  exact nofun

/-! ### What was deferred to the end of an exchange -/

/-- An event ends with the report of the pool and the ATN lines at their levels. -/
theorem State.endEvent_withLink {v : State} {a b : Port} (ha : v.portA = a) (hb : v.portB = b) (before : Nat) (l : Link) :
    ({ v with link := l } : State).endEvent before = { State.reportPool { v with link := l } before with
      portA := { a with atnLow := (({ v with link := l } : State).endEvent before).attention .a }
      portB := { b with atnLow := (({ v with link := l } : State).endEvent before).attention .b } } := by
  generalize hu : ({ v with link := l } : State) = u
  have hatt : ∀ p, (u.endEvent before).attention p = (u.reportPool before).attention p := fun p => State.attention_settleAttention _ p
  have hua : u.portA = a := by rw [← hu, ← ha]
  have hub : u.portB = b := by rw [← hu, ← hb]
  rw [hatt, hatt, ← hua, ← hub, ← State.reportPool_portA u before, ← State.reportPool_portB u before]
  rfl

/-- Settles O50: the removal first, then the disable and the bit time. -/
theorem deferredClaimsTaken : Obligations.DeferredClaimsTaken := by
  intro s x hr hx hp leaving deleted
  have hending : (⟨x.node, .ending⟩ : Exchange) = x := by rw [← hp]
  have hstays : ¬ leaving → ∀ n, s.node x.node = some n → n.state ≠ .leaving := fun hno n hn hl =>
    hno ⟨n, (State.node_some hn).1, (State.node_some hn).2, hl⟩
  refine ⟨?_, fun hno hpending => ?_, fun hno hpending => ?_⟩
  · rintro ⟨n, hmem, ha, hl⟩ hs
    have hcons := s.consistent_iff.mp hs
    have hnode : s.node x.node = some n := by
      rw [← ha]
      exact find?_address_of_mem hr.1 hmem
    have hgone := State.leavingAtEnd_eq_some_iff.mpr ⟨x, hx, hp, rfl, n, hnode, hl⟩
    have hframe : EvictFrame (s.withoutNode x.node) (s.deleteNode x.node) := EvictFrame.evictAll _ _ _
    have hclosed : (s.deleteNode x.node).closeExchange = { s.deleteNode x.node with link := { (s.deleteNode x.node).link with
        exchange := if s.link.pendingDisable || s.link.bitTimePending then some x else none } } := by
      rw [State.closeExchange_eq (s := s.deleteNode x.node) (x := x) (by rw [hframe.link]; exact hx) fun m hm => ?_, hending, hframe.link]
      · rfl
      · obtain ⟨hm, hma⟩ := State.node_some hm
        rw [hframe.link] at hm
        simp [State.withoutNode, hma] at hm
    have hnotTaken := fun claim => State.not_takenAtEnd (s := s) (claim := claim) (.inr (.inl ⟨x, hx, n, hnode, hl⟩))
    have hturn := State.deleteNode_inTurn hcons x.node
    have hnil := State.reqsOf_deleteNode hcons x.node
    have hexec : exec .nodeRemoval s = .next ((s.deleteNode x.node).closeExchange.endEvent s.freeRecords) := by
      simp only [exec, execNodeRemoval, hgone, finishEvent]
    rw [hclosed] at hexec
    generalize s.deleteNode x.node = v at *
    exact ⟨v, _, hturn, hnil, hexec, State.endEvent_withLink hframe.portA hframe.portB s.freeRecords _, if_neg (hnotTaken _),
      if_neg (hnotTaken _)⟩
  · rw [(State.exec_takenAtEnd hx hp (hstays hno)).1 hpending,
      State.closeExchange_eq (s := s.disableLink) (x := x) hx fun n => State.node_disableLink, hending]
    rfl
  · rw [(State.exec_takenAtEnd hx hp (hstays hno)).2 hpending,
      State.closeExchange_eq (s := s.setRate _) (x := x) hx (hstays hno), hending]
    simp only [State.setRate, Bool.or_false]

/-! ### LINK_CONFIG -/

theorem linkRateOf_code (rate : LinkRate) : linkRateOf rate.code = some rate := by
  cases rate <;> rfl

theorem linkRateOf_eq_none {a : Byte} (h : 3 < a.toNat) : linkRateOf a = none := by
  unfold linkRateOf
  rw [if_neg, if_neg, if_neg, if_neg] <;> rintro rfl <;> exact absurd h (by decide)

theorem linkEnableOf_eq_none {b : Byte} (h : 1 < b.toNat) : linkEnableOf b = none := by
  unfold linkEnableOf
  rw [if_neg, if_neg] <;> rintro rfl <;> exact absurd h (by decide)

theorem linkConfigEffect_of_bad {a b : Byte} (h : 3 < a.toNat ∨ 1 < b.toNat) (s : State) : linkConfigEffect (a, b) s = refuse .badValue s := by
  obtain h | h := h
  · simp only [linkConfigEffect, linkRateOf_eq_none h]
  · simp only [linkConfigEffect, linkEnableOf_eq_none h]
    cases linkRateOf a <;> rfl

theorem linkConfigEffect_of_good {b : Byte} {enable : Bool} (h : linkEnableOf b = some enable) (rate : LinkRate) (s : State) :
    linkConfigEffect (rate.code, b) s = (s.configureLink rate enable, ⟨.ok, [flagByte s.link.enabled, s.link.rate.code]⟩) := by
  simp only [linkConfigEffect, linkRateOf_code, h]

section configure

variable {s : State} (rate : LinkRate) (enable : Bool)

theorem State.configureLink_of_exchange {x : Exchange} (hen : s.link.enabled = true) (hx : s.link.exchange = some x) :
    s.configureLink rate enable = s.deferLink rate (!enable) := by
  simp only [State.configureLink, hen, if_true, hx]

theorem State.configureLink_of_idle (hen : s.link.enabled = true) (hx : s.link.exchange = none) :
    s.configureLink rate enable = if enable then s.setRate rate else (s.setRate rate).disableLink := by
  simp only [State.configureLink, hen, if_true, hx]

theorem State.configureLink_of_disabled (hen : s.link.enabled = false) : s.configureLink rate enable =
    if enable then { (s.setRate rate).closeIfEnding with link := { (s.setRate rate).closeIfEnding.link with
      enabled := true, cyclePosition := none, pollWait := true } }.resumePolling else (s.setRate rate).closeIfEnding := by
  simp only [State.configureLink, hen, Bool.false_eq_true, if_false]

/-- On a disabled link the exchange at its end leaves flight with the bit time (R133, R134). -/
theorem State.closeIfEnding_setRate (hd : s.link.pendingDisable = false) (hx : ∀ x ∈ s.link.exchange, x.phase = .ending)
    (hn : ∀ n ∈ s.link.roster, n.state = .joining) :
    (s.setRate rate).closeIfEnding = { s.setRate rate with link := { (s.setRate rate).link with exchange := none } } := by
  have hidle : (s.setRate rate).link.exchange = s.link.exchange := rfl
  cases hex : s.link.exchange with
  | none =>
    rw [State.closeIfEnding, State.ending, hidle, hex]
    simp only [State.setRate, hex]
    rfl
  | some x =>
    have hending : (s.setRate rate).ending = true := State.ending_iff.mpr ⟨x, hex, hx x hex⟩
    rw [State.closeIfEnding, if_pos hending, State.closeExchange_eq (s := s.setRate rate) hex fun n hmem => by
      rw [hn n (State.node_some hmem).1]
      exact nofun]
    simp only [State.setRate, hd, Bool.or_self, Bool.false_eq_true, if_false]

end configure

/-- Settles O45: by enable, exchange and the enable requested. -/
theorem linkConfigured : Obligations.LinkConfigured := by
  intro s o rid a b h hst hadmin i answer
  refine ⟨fun hbad => ?_, ?_⟩
  · exact answers_admin_same hst hadmin rfl rfl (linkConfigEffect_of_bad hbad (s.dropHanded o)) rfl
  rintro rate rfl hb rated
  have hanswer : ∀ {u : State} {enable : Bool}, linkEnableOf b = some enable → u.freeRecords = s.freeRecords →
      (s.dropHanded o).configureLink rate enable = u.dropHanded o → Answers i s u h answer := fun hen hfree hu =>
    answers_admin_same hst hadmin rfl rfl ((linkConfigEffect_of_good hen rate (s.dropHanded o)).trans (Prod.ext hu rfl)) hfree
  refine ⟨fun hen hx => ?_, fun hen hx hb1 => ?_, fun hen hx hb0 => ?_, fun hen hr hl hb0 => ?_, fun hen hr hl hb1 => ?_⟩
  · obtain ⟨x, hx⟩ := Option.ne_none_iff_exists'.mp hx
    have hbit : b = 0x00#8 ∨ b = 0x01#8 := by
      obtain h0 | h1 := Nat.le_one_iff_eq_zero_or_eq_one.mp hb
      · exact .inl (BitVec.eq_of_toNat_eq h0)
      · exact .inr (BitVec.eq_of_toNat_eq h1)
    obtain rfl | rfl := hbit
    · exact hanswer (enable := false) rfl rfl (State.configureLink_of_exchange (s := s.dropHanded o) rate false hen hx)
    · exact hanswer (enable := true) rfl rfl (State.configureLink_of_exchange (s := s.dropHanded o) rate true hen hx)
  · subst hb1
    exact hanswer (enable := true) rfl rfl (State.configureLink_of_idle (s := s.dropHanded o) rate true hen hx)
  · subst hb0
    exact hanswer (enable := false) rfl rfl (State.configureLink_of_idle (s := s.dropHanded o) rate false hen hx)
  all_goals
    obtain ⟨-, -, -, hoff, -⟩ := hr
    obtain ⟨hjoining, hending⟩ := hoff hen
    obtain ⟨-, -, -, -, -, hdisabling, -⟩ := hl
    have hclosed := State.closeIfEnding_setRate (s := s.dropHanded o) rate (by simpa [hen] using hdisabling) hending hjoining
  · subst hb0
    refine hanswer (enable := false) rfl rfl ((State.configureLink_of_disabled (s := s.dropHanded o) rate false hen).trans ?_)
    rw [hclosed]
    rfl
  · subst hb1
    refine hanswer (enable := true) rfl rfl ((State.configureLink_of_disabled (s := s.dropHanded o) rate true hen).trans ?_)
    rw [hclosed, if_pos rfl]
    by_cases hempty : s.link.roster = []
    · rw [State.resumePolling, if_neg fun hall => hall.2.2 hempty, decide_eq_true hempty]
      rfl
    · rw [decide_eq_false hempty]
      exact State.resumePolling_eq (s := { s.dropHanded o with link := _ }) hempty

end Sys2Proof.Machine
end

section
/-! The exchanges that fail, and how a reply is told to be bad, a miss, or good (R140, R141, R144, R165, Table 9.2). -/

namespace Sys2Proof.Machine

/-! ### Which reply is which -/

theorem classify_of_incomplete {reply : List Byte} (hne : reply ≠ []) (h : replyProgress reply ≠ .complete) (node : Nat) :
    classify node reply = .bad := by
  rw [classify, if_neg (by simpa using hne), if_pos h]

theorem parseReply_reply (sync source control : Byte) (rest : List Byte) :
    ∃ r, parseReply (sync :: source :: control :: rest) = some r ∧ r.source = source := ⟨_, rfl, rfl⟩

/-- A complete reply is judged by its blocks, its CRC and its source (R144). -/
theorem classify_of_complete {sync source control : Byte} {rest : List Byte}
    (h : replyProgress (sync :: source :: control :: rest) = .complete) (node : Nat) :
    (¬ (blocksAgree (sync :: source :: control :: rest) = true ∧ replyCrcAgrees (sync :: source :: control :: rest) = true) →
      classify node (sync :: source :: control :: rest) = .bad) ∧
    (blocksAgree (sync :: source :: control :: rest) = true → replyCrcAgrees (sync :: source :: control :: rest) = true →
      (source.toNat ≠ node → classify node (sync :: source :: control :: rest) = .miss) ∧
      (source.toNat = node → ∃ good, classify node (sync :: source :: control :: rest) = .good good)) := by
  obtain ⟨r, hr, rfl⟩ := parseReply_reply sync source control rest
  simp only [classify, h, hr, List.isEmpty_cons, Bool.false_eq_true, if_false, ne_eq, not_true_eq_false]
  refine ⟨fun hno => ?_, fun hb hc => ?_⟩
  · cases hb : blocksAgree (sync :: r.source :: control :: rest) with
    | false => rfl
    | true =>
      have hc : replyCrcAgrees (sync :: r.source :: control :: rest) = false := by simpa [hb] using hno
      simp only [hc, Bool.not_true, Bool.not_false, Bool.false_eq_true, if_false, if_true]
  · simp only [hb, hc, Bool.not_true, Bool.false_eq_true, if_false]
    exact ⟨fun hne => if_pos hne, fun heq => ⟨r, if_neg (not_not_intro heq)⟩⟩

theorem declaredLength_of_complete {reply : List Byte} (h : replyProgress reply = .complete) :
    ∃ n, declaredLength reply = some n ∧ n ≤ reply.length := by
  unfold replyProgress at h
  split at h
  · next n hn =>
    split at h
    · cases h
    · split at h
      · next hle => exact ⟨n, hn, hle⟩
      · split at h <;> cases h
  · split at h <;> cases h

/-- The declared length reaches the end of the blocks, so that their bytes are read before the CRC (R165). -/
theorem getElem?_of_complete {sync source control : Byte} {blocks crc : List Byte} (hcrc : crc.length = 2)
    (h : replyProgress (sync :: source :: control :: (blocks ++ crc)) = .complete) {place : Nat}
    (hp : control.getLsbD 0 = true ∧ place = 0 ∨ control.getLsbD 2 = true ∧ (place = ackBytes control ∨ place = ackBytes control + 3)) :
    ∃ b, blocks[place]? = some b ∧ (blocks ++ crc)[place]? = some b := by
  obtain ⟨n, hn, hle⟩ := declaredLength_of_complete h
  have hlength : n ≤ blocks.length + 5 := by simpa [hcrc] using hle
  have hlt : place < blocks.length := by
    rw [declaredLength_reply] at hn
    obtain ⟨hc, rfl⟩ | ⟨hc, hp⟩ := hp
    · have hack : 1 ≤ ackBytes control := by simp [ackBytes, hc]
      split at hn
      · obtain ⟨b, -, rfl⟩ := Option.map_eq_some_iff.mp hn
        omega
      · obtain rfl := Option.some.inj hn
        omega
    · rw [if_pos hc] at hn
      obtain ⟨b, -, rfl⟩ := Option.map_eq_some_iff.mp hn
      omega
  exact ⟨blocks[place], List.getElem?_eq_getElem hlt, by rw [List.getElem?_append_left hlt, List.getElem?_eq_getElem hlt]⟩

theorem exists_le_iff_of_some {l m : List Byte} {place n : Nat} (h : ∃ b, l[place]? = some b ∧ m[place]? = some b) :
    (∃ b, m[place]? = some b ∧ b.toNat ≤ n) ↔ ¬ ∃ b, l[place]? = some b ∧ n < b.toNat := by
  obtain ⟨b, hl, hm⟩ := h
  simp [hl, hm]

/-- The blocks of a complete reply disagree where a bit, a sequence or a length is out of range (R165). -/
theorem blocksAgree_iff_of_complete {sync source control : Byte} {blocks crc : List Byte} (hcrc : crc.length = 2)
    (h : replyProgress (sync :: source :: control :: (blocks ++ crc)) = .complete) :
    blocksAgree (sync :: source :: control :: (blocks ++ crc)) = true ↔ ¬ (8 ≤ control.toNat ∨
      (control.getLsbD 0 = true ∧ ∃ b, blocks[0]? = some b ∧ 15 < b.toNat) ∨
      (control.getLsbD 2 = true ∧ ((∃ b, blocks[ackBytes control]? = some b ∧ 15 < b.toNat) ∨
        ∃ b, blocks[ackBytes control + 3]? = some b ∧ 32 < b.toNat))) := by
  rw [blocksAgree_reply, not_or, not_or, not_and, not_and, not_or, Nat.not_le]
  refine and_congr Iff.rfl (and_congr (forall_congr' fun h0 => ?_) (forall_congr' fun h2 => and_congr ?_ ?_))
  · exact exists_le_iff_of_some (getElem?_of_complete hcrc h (.inl ⟨h0, rfl⟩))
  · exact exists_le_iff_of_some (getElem?_of_complete hcrc h (.inr ⟨h2, .inl rfl⟩))
  · exact exists_le_iff_of_some (getElem?_of_complete hcrc h (.inr ⟨h2, .inr rfl⟩))

/-! ### The outcome of a failed exchange -/

/-- What a failed exchange makes of its node (Table 9.2). -/
def NodeRecord.failedBy (n : NodeRecord) (bad : Bool) : NodeRecord :=
  { n with
    state := if n.state = .active ∧ missedUp n.missed = 4 then .silent else n.state
    missed := missedUp n.missed
    errorCount := if bad then errorUp n.errorCount else n.errorCount }

theorem NodeRecord.failedBy_false (n : NodeRecord) : n.failed = n.failedBy false := by
  unfold NodeRecord.failed NodeRecord.failedBy
  dsimp only
  split <;> rfl

theorem NodeRecord.failedBy_true (n : NodeRecord) : { n.failed with errorCount := errorUp n.errorCount } = n.failedBy true := by
  rw [n.failedBy_false]
  rfl

theorem NodeRecord.failedBy_ne_leaving (n : NodeRecord) (bad : Bool) (h : n.state ≠ .leaving) : (n.failedBy bad).state ≠ .leaving := by
  unfold NodeRecord.failedBy
  dsimp only
  split
  · exact nofun
  · exact h

/-- The events that a failed exchange raises, LINK_ERROR first (Table 9.2). -/
def State.failedEvents (s : State) (a : Nat) (n : NodeRecord) (bad : Bool) : State :=
  let events := if bad then s.raise (.linkError a) else s
  if n.state = .active ∧ missedUp n.missed = 4 then events.raise (.nodeSilent a) else events

theorem State.failedEvents_withLink (s : State) (a : Nat) (n : NodeRecord) (bad : Bool) (l : Link) :
    ({ s with link := l } : State).failedEvents a n bad = { s.failedEvents a n bad with link := l } := by
  unfold State.failedEvents
  by_cases hsilent : n.state = .active ∧ missedUp n.missed = 4
  · simp only [if_pos hsilent]
    cases bad <;> rfl
  · simp only [if_neg hsilent]
    cases bad <;> rfl

theorem State.failedEvents_ports (s : State) (a : Nat) (n : NodeRecord) (bad : Bool) :
    (s.failedEvents a n bad).portA = s.portA ∧ (s.failedEvents a n bad).portB = s.portB := by
  unfold State.failedEvents
  by_cases hsilent : n.state = .active ∧ missedUp n.missed = 4
  · simp only [if_pos hsilent]
    cases bad <;> exact ⟨rfl, rfl⟩
  · simp only [if_neg hsilent]
    cases bad <;> exact ⟨rfl, rfl⟩

theorem State.updateHealth_failed {s : State} {a : Nat} {n : NodeRecord} (hn : s.node a = some n) (bad : Bool) :
    s.updateHealth a (if bad then .bad else .miss) = (s.modifyNode a fun m => m.failedBy bad).failedEvents a n bad := by
  have hsilent : n.fallsSilent = decide (n.state = .active ∧ missedUp n.missed = 4) := by
    simp [NodeRecord.fallsSilent]
  cases bad
  · show s.updateHealth a .miss = _
    rw [show (fun m : NodeRecord => m.failedBy false) = NodeRecord.failed from funext fun m => m.failedBy_false.symm]
    simp only [State.updateHealth, hn, hsilent, decide_eq_true_eq]
    rfl
  · show s.updateHealth a .bad = _
    rw [← show (fun m : NodeRecord => { m.failed with errorCount := errorUp m.errorCount }) = fun m => m.failedBy true from
      funext NodeRecord.failedBy_true]
    simp only [State.updateHealth, hn, hsilent, decide_eq_true_eq]
    rfl

/-- The events of the reply window that end an exchange (R141). -/
theorem exec_outcome {s : State} {x : Exchange} {reply : List Byte} {i : Instr} (hx : s.link.exchange = some x)
    (hp : x.phase = .window reply)
    (h : (i = .replyWindowClose ∧ reply = []) ∨ (i = .replyIdleTimeout ∧ reply ≠ [] ∧ replyProgress reply = .incomplete) ∨
      (i = .exchangeEnd ∧ reply ≠ [] ∧ replyProgress reply ≠ .incomplete)) :
    exec i s = .next (s.endExchange x (classify x.node reply)) := by
  obtain ⟨rfl, rfl⟩ | ⟨rfl, hne, hpr⟩ | ⟨rfl, hne, hpr⟩ := h
  · simp only [exec, execReplyWindowClose, hx, hp, List.isEmpty_nil, if_true]
  · simp only [exec, execReplyIdleTimeout, hx, hp]
    exact if_pos ⟨by simpa using hne, hpr⟩
  · simp only [exec, execExchangeEnd, hx, hp]
    exact if_neg (by simp [hne, hpr])

theorem State.takeOutcome_of_leaving {s : State} {a : Nat} {n : NodeRecord} (hn : s.node a = some n) (hl : n.state = .leaving)
    (outcome : ExchangeOutcome) : s.takeOutcome a outcome = s := by
  simp only [State.takeOutcome, hn, hl, if_true]

theorem State.takeOutcome_failed {s : State} {a : Nat} {n : NodeRecord} (hn : s.node a = some n) (hl : n.state ≠ .leaving)
    (bad : Bool) : s.takeOutcome a (if bad then .bad else .miss) = s.updateHealth a (if bad then .bad else .miss) := by
  cases bad <;> simp only [State.takeOutcome, hn, hl, if_false, if_true, Bool.false_eq_true]

/-- Nothing is taken of an exchange with a LEAVING node, which stands at its end (R138). -/
theorem State.closeExchange_of_leaving {s : State} {x : Exchange} {n : NodeRecord} (hx : s.link.exchange = some x)
    (hn : s.node x.node = some n) (hl : n.state = .leaving) :
    s.closeExchange = { s with link := { s.link with exchange := some ⟨x.node, .ending⟩ } } := by
  simp only [State.closeExchange, State.endDeferred, hx, hn, hl, decide_true, Bool.or_true, if_true, State.setPhase]

theorem State.endExchange_failed {s : State} {x : Exchange} {n : NodeRecord} (hx : s.link.exchange = some x)
    (hn : s.node x.node = some n) (hl : n.state ≠ .leaving) (bad : Bool) : s.endExchange x (if bad then .bad else .miss) =
      State.settleAttention { s.failedEvents x.node n bad with link := { s.link with
        roster := s.link.roster.map fun m => if m.address = x.node then m.failedBy bad else m
        exchange := if s.link.pendingDisable || s.link.bitTimePending then some ⟨x.node, .ending⟩ else none } } := by
  rw [State.endExchange, State.takeOutcome_failed hn hl, State.updateHealth_failed hn]
  refine congrArg State.settleAttention ?_
  rw [State.modifyNode, State.failedEvents_withLink]
  refine State.closeExchange_eq (s := { s.failedEvents x.node n bad with link := _ }) hx fun m hm => ?_
  have hnode : (s.modifyNode x.node fun m => m.failedBy bad).node x.node = some m := hm
  rw [State.node_modifyNode (f := fun m => m.failedBy bad) s x.node (fun _ => rfl), hn, Option.map_some, if_pos (State.node_some hn).2] at hnode
  rw [← Option.some.inj hnode]
  exact n.failedBy_ne_leaving bad hl

/-- Settles O48: the outcome of the reply, what it makes of the node and the events, and the tests of a complete reply. -/
theorem failedExchangeCounted : Obligations.FailedExchangeCounted := by
  refine ⟨?_, ?_, ?_⟩
  · intro s x reply n i hx hp hn hl hi missed silent failed
    have hfailed : ∀ bad, classify x.node reply = (if bad then .bad else .miss) → failed bad := fun bad hc => by
      show exec i s = _
      rw [exec_outcome hx hp hi, hc, State.endExchange_failed hx hn hl, State.settleAttention]
      obtain ⟨hportA, hportB⟩ := s.failedEvents_ports x.node n bad
      rw [hportA, hportB]
      rfl
    refine ⟨fun hnil => hfailed false ?_, fun hne hpr => hfailed true (classify_of_incomplete hne hpr _), hfailed true, hfailed false⟩
    rw [hnil]
    rfl
  · intro s x reply n i hx hp hn hl hi
    rw [exec_outcome hx hp hi, State.endExchange, State.takeOutcome_of_leaving hn hl, State.closeExchange_of_leaving hx hn hl]
    rfl
  · intro node source control blocks crc hcrc reply hcomplete request above malformed agrees
    have hblocks := blocksAgree_iff_of_complete hcrc hcomplete
    have hagrees : replyCrcAgrees reply = true ↔ agrees := replyCrcAgrees_iff 0x3A#8 (body := source :: control :: blocks) hcrc
    obtain ⟨hbad, hgood⟩ := classify_of_complete hcomplete node
    refine ⟨fun h => hbad fun ⟨hb, hc⟩ => ?_, fun hm ha => (hgood (hblocks.mpr hm) (hagrees.mpr ha)).1,
      fun hm ha => (hgood (hblocks.mpr hm) (hagrees.mpr ha)).2⟩
    exact h.elim (fun hm => hblocks.mp hb hm) fun hno => hno (hagrees.mp hc)

end Sys2Proof.Machine
end

section
/-! A good reply and what is taken of it (R119, R140, R145, R146, Table 9.2). -/

namespace Sys2Proof.Machine

/-! ### The notice acknowledgement -/

theorem State.notices_dropHeadNotice {s : State} {r : ReqSlot} {head : Notice} (h : (s.noticeQueue r).head? = some head) :
    (s.dropHeadNotice r).notices = s.notices.erase head := by
  have howner : head.owner = r := by simpa using (List.mem_filter.mp (List.mem_of_head? h)).2
  show s.notices.eraseP (fun n => n.owner = r) = _
  unfold State.noticeQueue at h
  generalize s.notices = l at *
  induction l with
  | nil => rfl
  | cons n l ih =>
    by_cases hn : n.owner = r
    · rw [List.filter_cons_of_pos (by simpa using hn), List.head?_cons, Option.some.injEq] at h
      rw [List.eraseP_cons_of_pos (by simpa using hn), h, List.erase_cons_head]
    · rw [List.filter_cons_of_neg (by simpa using hn)] at h
      have hne : n ≠ head := fun heq => hn (heq ▸ howner)
      rw [List.eraseP_cons_of_neg (by simpa using hn), List.erase_cons_tail (by simpa using hne), ih h]

/-- The acknowledgement of a head notice removes it (R119). -/
theorem State.notices_noticeAck_of_head {s : State} (hs : s.noticesLegal) {a : Nat} {serial : Word16} {r : ReqSlot} {q : Requester}
    {head : Notice} (hq : s.req r = some q) (ho : q.origin = .node a) (hh : (s.noticeQueue r).head? = some head)
    (hserial : head.serial = serial) : (s.noticeAck a (some serial)).notices = s.notices.erase head := by
  obtain ⟨-, -, hnodup, -⟩ := hs
  obtain ⟨r', hfind⟩ : ∃ r', ((s.reqsOf (.node a)).find? fun r => ((s.noticeQueue r).head?.map Notice.serial) = some serial) = some r' :=
    Option.isSome_iff_exists.mp (List.find?_isSome.mpr ⟨r, State.mem_reqsOf.mpr ⟨q, hq, ho⟩, by simp [hh, hserial]⟩)
  have hfound : ((s.noticeQueue r').head?.map Notice.serial) = some serial := by simpa using List.find?_some hfind
  obtain ⟨head', hh', hserial'⟩ := Option.map_eq_some_iff.mp hfound
  have hmem : ∀ {r : ReqSlot} {n : Notice}, (s.noticeQueue r).head? = some n → n ∈ s.notices ∧ n.owner = r := fun h => by
    simpa [State.noticeQueue] using List.mem_filter.mp (List.mem_of_head? h)
  obtain ⟨hin, hown⟩ := hmem hh
  obtain ⟨hin', hown'⟩ := hmem hh'
  obtain rfl : head' = head := List.inj_on_of_nodup_map hnodup hin' hin (hserial'.trans hserial.symm)
  obtain rfl : r' = r := hown'.symm.trans hown
  simp only [State.noticeAck, State.ackNotice, hfind]
  exact State.notices_dropHeadNotice hh

theorem State.notices_noticeAck_of_none {s : State} {a : Nat} {ack : Option Word16}
    (h : ∀ serial r q head, ack = some serial → s.req r = some q → q.origin = .node a → (s.noticeQueue r).head? = some head →
      head.serial ≠ serial) : (s.noticeAck a ack).notices = s.notices := by
  cases ack with
  | none => rfl
  | some serial =>
    have hnone : ((s.reqsOf (.node a)).find? fun r => ((s.noticeQueue r).head?.map Notice.serial) = some serial) = none := by
      refine List.find?_eq_none.mpr fun r hr hserial => ?_
      obtain ⟨q, hq, ho⟩ := State.mem_reqsOf.mp hr
      obtain ⟨head, hh, hs⟩ := Option.map_eq_some_iff.mp (of_decide_eq_true hserial)
      exact h serial r q head rfl hq ho hh hs
    simp only [State.noticeAck, State.ackNotice, hnone]

/-- An acknowledgement changes the notices alone, and the link has no part in it. -/
theorem State.noticeAck_withLink (s : State) (l : Link) (a : Nat) (ack : Option Word16) :
    ({ s with link := l } : State).noticeAck a ack = { s with link := l, notices := (s.noticeAck a ack).notices } := by
  cases ack with
  | none => rfl
  | some serial =>
    have hreqs : ({ s with link := l } : State).reqsOf (.node a) = s.reqsOf (.node a) := rfl
    have hqueue : ({ s with link := l } : State).noticeQueue = s.noticeQueue := rfl
    simp only [State.noticeAck, State.ackNotice, hreqs, hqueue]
    split <;> rfl

/-! ### The request -/

/-- The restart of a tenure changes the requester table alone. -/
theorem State.restartTenureOf_with (s : State) (l : Link) (notices : List Notice) (o : Origin) (rid : Byte) :
    ({ s with link := l, notices := notices } : State).restartTenureOf o rid =
      { s with link := l, notices := notices, requesters := (s.restartTenureOf o rid).requesters } := by
  have hfind : ({ s with link := l, notices := notices } : State).findReq o rid = s.findReq o rid := rfl
  cases hf : s.findReq o rid with
  | none => simp only [State.restartTenureOf, hfind, hf]
  | some r =>
    have hreq : ({ s with link := l, notices := notices } : State).req r = s.req r := rfl
    simp only [State.restartTenureOf, State.restartTenure, State.modifyReq, hfind, hf, hreq]
    cases s.req r <;> rfl

section request

variable {s : State} {a : Nat} {n : NodeRecord} {q : NodeRequest} (hn : s.node a = some n)

include hn

theorem State.takeRequest_of_new (h : n.lastSequence ≠ some q.sequence) : s.takeRequest a (some q) =
    { s with decoder := s.decoder ++ [⟨.node a, q.localId, q.code, q.payload, q.sequence, false⟩] } := by
  simp only [State.takeRequest, hn, if_neg h]

theorem State.takeRequest_of_duplicate (h : n.lastSequence = some q.sequence) : s.takeRequest a (some q) =
    if codeNamesRequester (.node a) q.code then
      (s.modifyNode a fun n => { n with acknowledged := false }).restartTenureOf (.node a) q.localId
    else s.modifyNode a fun n => { n with acknowledged := false } := by
  simp only [State.takeRequest, hn, if_pos h]

end request

/-! ### The record of the node polled -/

/-- The link with this record in the place of that of the address. -/
def Link.withNode (l : Link) (a : Nat) (m : NodeRecord) : Link :=
  { l with roster := l.roster.map fun y => if y.address = a then m else y }

section withNode

variable {s : State} {a : Nat} {m n : NodeRecord}

theorem State.modifyNode_eq (h : s.link.roster.Pairwise fun m n => m.address < n.address) (hn : s.node a = some n)
    (f : NodeRecord → NodeRecord) : s.modifyNode a f = { s with link := s.link.withNode a (f n) } := by
  have hmap : (s.link.roster.map fun y => if y.address = a then f y else y) = s.link.roster.map fun y => if y.address = a then f n else y :=
    List.map_congr_left fun y hy => by
      split
      · next hya =>
        have hfind := find?_address_of_mem h hy
        rw [hya] at hfind
        rw [Option.some.inj (hfind.symm.trans hn)]
      · rfl
  rw [State.modifyNode, hmap]
  rfl

theorem State.modifyNode_withNode (hm : m.address = a) (f : NodeRecord → NodeRecord) (u : State) (hu : u.link = s.link.withNode a m) :
    u.modifyNode a f = { u with link := s.link.withNode a (f m) } := by
  have hmap : ((s.link.roster.map fun y => if y.address = a then m else y).map fun y => if y.address = a then f y else y) =
      s.link.roster.map fun y => if y.address = a then f m else y := by
    rw [List.map_map]
    refine List.map_congr_left fun y _ => ?_
    by_cases hy : y.address = a <;> simp [hy, hm]
  rw [State.modifyNode, hu]
  simp only [Link.withNode, hmap]

theorem State.node_withNode (hn : (s.node a).isSome) (hm : m.address = a) (u : State) (hu : u.link = s.link.withNode a m) :
    u.node a = some m := by
  obtain ⟨n, hn⟩ := Option.isSome_iff_exists.mp hn
  have hpred : ((fun y : NodeRecord => decide (y.address = a)) ∘ fun y => if y.address = a then m else y) =
      fun y => decide (y.address = a) := by
    funext y
    by_cases hy : y.address = a <;> simp [hy, hm]
  rw [State.node, hu, Link.withNode, List.find?_map, hpred]
  unfold State.node at hn
  rw [hn, Option.map_some, if_pos (State.node_some (s := s) hn).2]

/-- Whether the record in the place of the address is acknowledged. -/
theorem Link.any_withNode (hn : (s.node a).isSome) (hm : m.address = a) :
    ((s.link.withNode a m).roster.any fun y => y.address = a && y.acknowledged) = m.acknowledged := by
  obtain ⟨n, hmem, hna⟩ := State.node_isSome.mp hn
  rw [Bool.eq_iff_iff, List.any_eq_true]
  constructor
  · rintro ⟨y, hy, hya⟩
    obtain ⟨z, -, rfl⟩ := List.mem_map.mp hy
    by_cases hz : z.address = a <;> simp_all
  · exact fun hack => ⟨m, List.mem_map.mpr ⟨n, hmem, if_pos hna⟩, by simp [hm, hack]⟩

end withNode

/-! ### A good reply -/

theorem NodeRecord.respAck_withAck (n : NodeRecord) (ack : Option Nat) :
    n.respAck ack = { n with acknowledged := (n.respAck ack).acknowledged } := by
  obtain h | h := n.respAck_eq ack <;> rw [h]

/-- An acknowledgement of the last taken sequence marks the stored response (R145). -/
theorem NodeRecord.respAck_acknowledged {n : NodeRecord} (h : n.legal) (ack : Option Nat) :
    (n.respAck ack).acknowledged = true ↔ n.acknowledged = true ∨ (ack ≠ none ∧ ack = n.lastSequence) := by
  obtain ⟨-, -, -, -, hlast, -⟩ := h
  rw [hlast]
  unfold NodeRecord.respAck
  cases ack with
  | none => simp
  | some a =>
    cases hs : n.stored with
    | none => simp
    | some r =>
      by_cases ha : r.sequence = a
      · simp [ha]
      · simp [ha, Ne.symm ha]

/-- The state with what was taken of a good reply, before the health of its node. -/
def State.replyTaken (s : State) (a : Nat) (m : NodeRecord) (decoder : List Handed) (requesters : Vector (Option Requester) 48)
    (notices : List Notice) : State :=
  { s with link := s.link.withNode a m, decoder := decoder, requesters := requesters, notices := notices }

/-- Whether a reply carries the request taken last again (R146). -/
def NodeRecord.duplicate (n : NodeRecord) (r : Reply) : Prop := ∃ q, r.request = some q ∧ n.lastSequence = some q.sequence

/-- What is taken of a good reply by the steps of R145, and what of the decoder, the requesters and the acknowledgement follows. -/
structure ReplySteps (s : State) (a : Nat) (n : NodeRecord) (r : Reply) (ack : Bool) (decoder : List Handed)
    (requesters : Vector (Option Requester) 48) : Prop where
  taken : s.takeReply a r = s.replyTaken a { n with acknowledged := ack } decoder requesters (s.noticeAck a r.noticeAck).notices
  ack : ack = true ↔ (n.respAck r.respAck).acknowledged = true ∧ ¬ n.duplicate r
  new : ∀ q, r.request = some q → ¬ n.duplicate r →
    decoder = s.decoder ++ [⟨.node a, q.localId, q.code, q.payload, q.sequence, false⟩]
  old : r.request = none ∨ n.duplicate r → decoder = s.decoder
  renewed : ∀ q, r.request = some q → n.duplicate r → codeNamesRequester (.node a) q.code = true →
    requesters = (s.restartTenureOf (.node a) q.localId).requesters
  kept : (∀ q, r.request = some q → n.duplicate r → codeNamesRequester (.node a) q.code = false) → requesters = s.requesters

theorem State.takeReply_steps {s : State} (h : s.link.roster.Pairwise fun m n => m.address < n.address) {a : Nat} {n : NodeRecord}
    (hn : s.node a = some n) (r : Reply) : ∃ ack decoder requesters, ReplySteps s a n r ack decoder requesters := by
  have haddr : (n.respAck r.respAck).address = a := by
    rw [n.respAck_withAck]
    exact (State.node_some hn).2
  have hacked : (s.modifyNode a fun n => n.respAck r.respAck).noticeAck a r.noticeAck =
      { s with link := s.link.withNode a (n.respAck r.respAck), notices := (s.noticeAck a r.noticeAck).notices } := by
    rw [State.modifyNode_eq h hn, State.noticeAck_withLink]
  have hsome : (s.node a).isSome := by simp [hn]
  have htake : s.takeReply a r = ({ s with
      link := s.link.withNode a (n.respAck r.respAck), notices := (s.noticeAck a r.noticeAck).notices } : State).takeRequest a r.request :=
    congrArg (fun u => State.takeRequest u a r.request) hacked
  have hnode := State.node_withNode hsome haddr { s with
      link := s.link.withNode a (n.respAck r.respAck), notices := (s.noticeAck a r.noticeAck).notices } rfl
  have hlast : (n.respAck r.respAck).lastSequence = n.lastSequence := by rw [n.respAck_withAck]
  cases hr : r.request with
  | none =>
    have hnot : ¬ n.duplicate r := by simp [NodeRecord.duplicate, hr]
    refine ⟨(n.respAck r.respAck).acknowledged, s.decoder, s.requesters, ?_, by simp [hnot], by simp [hr], fun _ => rfl, by simp [hr], fun _ => rfl⟩
    rw [htake, hr, ← n.respAck_withAck]
    rfl
  | some q =>
    have hdup : n.duplicate r ↔ n.lastSequence = some q.sequence := by simp [NodeRecord.duplicate, hr]
    by_cases hseq : n.lastSequence = some q.sequence
    · have hn' : { n.respAck r.respAck with acknowledged := false } = { n with acknowledged := false } := by
        rw [n.respAck_withAck]
      have hmod := State.modifyNode_withNode (s := s) haddr (fun n => { n with acknowledged := false }) { s with
        link := s.link.withNode a (n.respAck r.respAck), notices := (s.noticeAck a r.noticeAck).notices } rfl
      refine ⟨false, s.decoder, if codeNamesRequester (.node a) q.code then (s.restartTenureOf (.node a) q.localId).requesters else
        s.requesters, ?_, by simp [hdup, hseq], fun _ _ hnot => absurd (hdup.mpr hseq) hnot, fun _ => rfl, fun q' hq' _ hcode => ?_,
        fun hcode => if_neg (by simp [hcode q hr (hdup.mpr hseq)])⟩
      · rw [htake, hr, State.takeRequest_of_duplicate hnode (hlast.trans hseq), hmod, hn', State.restartTenureOf_with s]
        split <;> rfl
      · obtain rfl := Option.some.inj (hr.symm.trans hq')
        exact if_pos hcode
    · refine ⟨(n.respAck r.respAck).acknowledged, s.decoder ++ [⟨.node a, q.localId, q.code, q.payload, q.sequence, false⟩],
        s.requesters, ?_, by simp [hdup, hseq], fun q' hq' _ => ?_,
        fun hor => absurd hor (by simp [hr, hdup, hseq]), fun _ _ hd => absurd (hdup.mp hd) hseq, fun _ => rfl⟩
      · rw [htake, hr, State.takeRequest_of_new hnode (by rw [hlast]; exact hseq), ← n.respAck_withAck]
        rfl
      · obtain rfl := Option.some.inj (hr.symm.trans hq')
        rfl

/-- The state before the health of a node is updated by a good reply, with the event of an exchange that it ends. -/
theorem State.endExchange_good {s : State} {x : Exchange} {n : NodeRecord} {r : Reply} {ack : Bool} {decoder : List Handed}
    {requesters : Vector (Option Requester) 48} (hx : s.link.exchange = some x) (hn : s.node x.node = some n)
    (hl : n.state ≠ .leaving) (h : ReplySteps s x.node n r ack decoder requesters) : s.endExchange x (.good r) =
      State.settleAttention { (if n.state = .active then s else s.raise (.nodeJoined x.node)) with
        link := { s.link.withNode x.node { n with state := .active, missed := 0, acknowledged := ack } with
          exchange := if s.link.pendingDisable || s.link.bitTimePending then some ⟨x.node, .ending⟩ else none }
        decoder := decoder, requesters := requesters, notices := (s.noticeAck x.node r.noticeAck).notices } := by
  have hsome : (s.node x.node).isSome := by simp [hn]
  have haddr : n.address = x.node := (State.node_some hn).2
  obtain ⟨u, hu⟩ : ∃ u, s.replyTaken x.node { n with acknowledged := ack } decoder requesters (s.noticeAck x.node r.noticeAck).notices = u :=
    ⟨_, rfl⟩
  have hlink : u.link = s.link.withNode x.node { n with acknowledged := ack } := by rw [← hu]; rfl
  have hnode : u.node x.node = some { n with acknowledged := ack } := State.node_withNode (m := { n with acknowledged := ack }) hsome haddr u hlink
  have hhealth : u.updateHealth x.node (.good r) = { (if n.state = .active then u else u.raise (.nodeJoined x.node)) with
      link := s.link.withNode x.node { n with state := .active, missed := 0, acknowledged := ack } } := by
    simp only [State.updateHealth, hnode]
    rw [State.modifyNode_withNode (m := { n with acknowledged := ack }) haddr _ u hlink]
    split <;> rfl
  have htaken : s.takeOutcome x.node (.good r) = u.updateHealth x.node (.good r) := by
    simp only [State.takeOutcome, hn, if_neg hl, h.taken, hu]
  rw [State.endExchange, htaken, hhealth]
  refine congrArg State.settleAttention ?_
  obtain ⟨v, hv⟩ : ∃ v, (if n.state = .active then u else u.raise (.nodeJoined x.node)) = v := ⟨_, rfl⟩
  rw [hv]
  obtain ⟨l, hl'⟩ : ∃ l, s.link.withNode x.node { n with state := .active, missed := 0, acknowledged := ack } = l := ⟨_, rfl⟩
  rw [hl', State.closeExchange_eq (s := { v with link := l }) (x := x) (by rw [← hl']; exact hx) fun m hm => ?_]
  · rw [← hl', ← hv, ← hu]
    split <;> rfl
  · have hnode' := State.node_withNode (s := s) (m := { n with state := .active, missed := 0, acknowledged := ack }) hsome haddr
      { v with link := l } hl'.symm
    rw [← Option.some.inj (hnode'.symm.trans hm)]
    exact nofun

/-- The ATN lines take the level of the conditions of the state that they leave (R123). -/
theorem State.settleAttention_eq {w : State} {a b : Port} (ha : w.portA = a) (hb : w.portB = b) : w.settleAttention = { w with
    portA := { a with atnLow := w.settleAttention.attention .a }
    portB := { b with atnLow := w.settleAttention.attention .b } } := by
  rw [State.attention_settleAttention, State.attention_settleAttention, ← ha, ← hb]
  rfl

/-- Settles O49: the steps of R145 on the record of the node, the decoder, the requesters and the notices. -/
theorem goodReplyTaken : Obligations.GoodReplyTaken := by
  intro s x reply n good hr hnotices hx hp hn hl hcomplete hclass duplicate acked
  have hne : reply ≠ [] := by
    rintro rfl
    cases hclass
  have hexec := (exec_outcome (i := .exchangeEnd) hx hp (.inr (.inr ⟨rfl, hne, by rw [hcomplete]; exact nofun⟩)))
  obtain ⟨ack, decoder, requesters, hsteps⟩ := State.takeReply_steps hr.1 hn good
  rw [hclass, State.endExchange_good hx hn hl hsteps] at hexec
  have hsome : (s.node x.node).isSome := by simp [hn]
  have haddr : n.address = x.node := (State.node_some hn).2
  have hany := Link.any_withNode (s := s) (a := x.node) (m := { n with state := .active, missed := 0, acknowledged := ack }) hsome haddr
  have hacked : ack = true ↔ acked ∧ ¬ duplicate := by
    rw [hsteps.ack, NodeRecord.respAck_acknowledged (hr.2.1 n (State.node_some hn).1)]
    rfl
  obtain ⟨t, ht⟩ : ∃ t, State.settleAttention { (if n.state = .active then s else s.raise (.nodeJoined x.node)) with
      link := { s.link.withNode x.node { n with state := .active, missed := 0, acknowledged := ack } with
        exchange := if s.link.pendingDisable || s.link.bitTimePending then some ⟨x.node, .ending⟩ else none }
      decoder := decoder, requesters := requesters, notices := (s.noticeAck x.node good.noticeAck).notices } = t := ⟨_, rfl⟩
  rw [ht] at hexec
  have hroster : (t.link.roster.any fun y => y.address = x.node && y.acknowledged) = ack := by
    rw [← ht]
    exact hany
  have hdecoder : t.decoder = decoder := by rw [← ht]; rfl
  have hrequesters : t.requesters = requesters := by rw [← ht]; rfl
  have hnoticesT : t.notices = (s.noticeAck x.node good.noticeAck).notices := by rw [← ht]; rfl
  rw [← hdecoder, ← hrequesters] at hsteps
  refine ⟨t, hexec, ?_, ?_, hsteps.new, hsteps.old, hsteps.renewed, hsteps.kept, ?_, ?_, ?_⟩
  · rw [hroster, ← ht]
    rfl
  · rw [← hacked, ← hroster, List.any_eq_true]
    simp only [Bool.and_eq_true, decide_eq_true_eq]
  · intro serial r q head hack hq ho hh hserial
    rw [hnoticesT, hack]
    exact State.notices_noticeAck_of_head hnotices hq ho hh hserial
  · intro hno
    rw [hnoticesT]
    exact State.notices_noticeAck_of_none hno
  · rw [← ht]
    refine (State.settleAttention_eq (a := s.portA) (b := s.portB) ?_ ?_).trans rfl
    all_goals
      dsimp only
      split <;> rfl

end Sys2Proof.Machine
end

section
/-! The selection of the next node and the poll that it starts (R142, R143, R164). -/

namespace Sys2Proof.Machine

/-! ### The bytes of a poll -/

theorem pollFrame_eq (node : Nat) (response : Option Stored) (notice : Option Notice) :
    pollFrame node response notice = pollLayout node response notice := by
  cases response <;> cases notice <;> simp [pollFrame, pollLayout, Stored.bytes, Notice.bytes_eq]

/-! ### Due nodes -/

section due

variable {s : State}

theorem State.awaitsResponse_iff {a : Nat} : s.awaitsResponse a = true ↔ ∃ h ∈ s.decoder, h.origin = .node a ∧ h.discard = false := by
  simp [State.awaitsResponse]

theorem State.nodeDue_iff {count : Nat} {n : NodeRecord} : s.nodeDue count n = true ↔ ¬ s.awaitsResponse n.address = true ∧
    (n.state = .joining ∨ n.state = .active ∨ (n.state = .silent ∧ count % 8 = 0)) := by
  unfold State.nodeDue
  rw [Bool.and_eq_true, Bool.not_eq_true', Bool.not_eq_true]
  cases n.state <;> simp

theorem nodesAbove_eq (roster : List NodeRecord) (position : Option Nat) : nodesAbove roster position =
    roster.filter fun n => position.elim true fun p => decide (p < n.address) := by
  cases position with
  | none => exact (List.filter_eq_self.mpr fun _ _ => rfl).symm
  | some p => rfl

theorem nodesAbove_sublist (roster : List NodeRecord) (position : Option Nat) : (nodesAbove roster position).Sublist roster := by
  rw [nodesAbove_eq]
  exact List.filter_sublist

/-- Of the nodes in address order the first that is due is the lowest. -/
theorem find?_lowest {l : List NodeRecord} {p : NodeRecord → Bool} {n : NodeRecord} (h : l.Pairwise fun m n => m.address < n.address)
    (hn : n ∈ l) (hp : p n = true) (hmin : ∀ m ∈ l, m.address < n.address → ¬ p m = true) : l.find? p = some n := by
  obtain ⟨before, after, rfl⟩ := List.append_of_mem hn
  refine List.find?_eq_some_iff_append.mpr ⟨hp, before, after, rfl, fun m hm => ?_⟩
  simpa using hmin m (List.mem_append_left _ hm) ((List.pairwise_append.mp h).2.2 m hm n List.mem_cons_self)

end due

/-! ### The selection -/

section select

variable {s : State} {count : Nat} {position : Option Nat}

theorem State.select_of_due {n : NodeRecord} (h : (nodesAbove s.link.roster position).find? (s.nodeDue count) = some n) (turns : Nat) :
    s.select (turns + 1) count position = .poll n.address count := by
  simp only [State.select, h]

theorem State.select_of_awaited (h : (nodesAbove s.link.roster position).find? (s.nodeDue count) = none)
    (ha : ((nodesAbove s.link.roster position).any fun x => s.awaitsResponse x.address) = true) (turns : Nat) :
    s.select (turns + 1) count position = .wait count position := by
  simp only [State.select, h, ha, if_true]

theorem State.select_of_ended (h : (nodesAbove s.link.roster position).find? (s.nodeDue count) = none)
    (ha : ((nodesAbove s.link.roster position).any fun x => s.awaitsResponse x.address) = false) (turns : Nat) :
    s.select (turns + 1) count position = s.select turns ((count + 1) % 256) none := by
  simp only [State.select, h, ha, Bool.false_eq_true, if_false]

/-- At most 8 turns reach a cycle in which every node that is not awaited is due, so that more turns select the same (R142). -/
theorem State.select_stable (hne : s.link.roster ≠ []) (hl : ∀ n ∈ s.link.roster, n.state ≠ .leaving) (d more : Nat) :
    ∀ {count : Nat}, (count + d) % 8 = 0 → s.select (d + 1 + more) count none = s.select (d + 1) count none := by
  induction d with
  | zero =>
    intro count hc
    cases hf : (nodesAbove s.link.roster none).find? (s.nodeDue count) with
    | some n => rw [Nat.add_comm _ more, ← Nat.add_assoc, State.select_of_due hf, State.select_of_due hf]
    | none =>
      have hawaited : ((nodesAbove s.link.roster none).any fun x => s.awaitsResponse x.address) = true := by
        obtain ⟨n, hn⟩ := List.exists_mem_of_ne_nil _ hne
        refine List.any_eq_true.mpr ⟨n, hn, ?_⟩
        by_contra hno
        refine List.find?_eq_none.mp hf n hn (State.nodeDue_iff.mpr ⟨hno, ?_⟩)
        have := hl n hn
        cases hstate : n.state <;> simp_all
      rw [Nat.add_comm _ more, ← Nat.add_assoc, State.select_of_awaited hf hawaited, State.select_of_awaited hf hawaited]
  | succ d ih =>
    intro count hc
    rw [show d + 1 + 1 + more = (d + 1 + more) + 1 by omega]
    cases hf : (nodesAbove s.link.roster none).find? (s.nodeDue count) with
    | some n => rw [State.select_of_due hf, State.select_of_due hf]
    | none =>
      cases ha : (nodesAbove s.link.roster none).any fun x => s.awaitsResponse x.address with
      | true => rw [State.select_of_awaited hf ha, State.select_of_awaited hf ha]
      | false =>
        rw [State.select_of_ended hf ha, State.select_of_ended hf ha]
        exact ih (by omega)

/-- A node that is selected stands in the roster. -/
theorem State.node_of_select {turns a c : Nat} (h : s.select turns count position = .poll a c) : (s.node a).isSome := by
  induction turns generalizing count position with
  | zero => cases h
  | succ turns ih =>
    cases hf : (nodesAbove s.link.roster position).find? (s.nodeDue count) with
    | some n =>
      rw [State.select_of_due hf, Selection.poll.injEq] at h
      exact State.node_isSome.mpr ⟨n, (nodesAbove_sublist _ _).subset (List.mem_of_find?_eq_some hf), h.1⟩
    | none =>
      cases ha : (nodesAbove s.link.roster position).any fun x => s.awaitsResponse x.address with
      | true =>
        rw [State.select_of_awaited hf ha] at h
        cases h
      | false =>
        rw [State.select_of_ended hf ha] at h
        exact ih h

end select

/-! ### What a selection does -/

/-- The taking of a selection. -/
def State.selected (s : State) : Selection → State
  | .wait count position => s.waitForResponse count position
  | .poll address count => s.startPoll address count

section exec

variable {s : State} (hx : s.link.exchange = none) (hp : s.link.pollWait = false) (hw : s.link.responseWait = [])

include hx hp hw

theorem exec_nodeSelection_of_off (h : s.link.enabled = false ∨ s.link.roster = []) :
    exec .nodeSelection s = .next { s with link := { s.link with pollWait := true } } := by
  have hoff : (!s.link.enabled || s.link.roster.isEmpty) = true := by
    obtain h | h := h <;> simp [h]
  simp only [exec, execNodeSelection, hx, hp, hw, hoff, Bool.false_eq_true, ne_eq, not_true_eq_false, or_self, if_false, if_true]

theorem exec_nodeSelection_of_on (hen : s.link.enabled = true) (hne : s.link.roster ≠ []) :
    exec .nodeSelection s = .next (s.selected (s.select 10 s.link.cycleCount s.link.cyclePosition)) := by
  have hon : (!s.link.enabled || s.link.roster.isEmpty) = false := by simp [hen, hne]
  simp only [exec, execNodeSelection, hx, hp, hw, hon, Bool.false_eq_true, ne_eq, not_true_eq_false, or_self, if_false]
  cases s.select 10 s.link.cycleCount s.link.cyclePosition <;> rfl

end exec

theorem State.startPoll_eq {s : State} {a count : Nat} {n : NodeRecord} (hn : s.node a = some n) : s.startPoll a count =
    { s with link := { s.link with
        roster := s.link.roster.map fun m =>
          if m.address = a then { m with noticeInFlight := (s.offeredNotice a).map Notice.serial } else m
        exchange := some ⟨a, .polling⟩
        cycleCount := count
        cyclePosition := some a
        lde := true
        ltx := .sending (pollLayout a (if n.acknowledged then none else n.stored) (s.offeredNotice a)) } } := by
  simp only [State.startPoll, hn, pollFrame_eq]
  rfl

/-- A selection does not read the count and the position from the state. -/
theorem State.selected_atCycle {s : State} {turns turns' count count' c : Nat} {position position' p : Option Nat}
    (h : s.select turns count position = s.select turns' count' position') :
    ({ s with link := { s.link with cycleCount := c, cyclePosition := p } } : State).selected (s.select turns' count' position') =
      s.selected (s.select turns count position) := by
  rw [h]
  cases hsel : s.select turns' count' position' with
  | wait => rfl
  | poll a c' =>
    obtain ⟨n, hn⟩ := Option.isSome_iff_exists.mp (State.node_of_select hsel)
    exact (State.startPoll_eq (s := { s with link := { s.link with cycleCount := c, cyclePosition := p } }) hn).trans
      (State.startPoll_eq hn).symm

theorem State.select_atCycle (s : State) (c : Nat) (p : Option Nat) (turns count : Nat) (position : Option Nat) :
    ({ s with link := { s.link with cycleCount := c, cyclePosition := p } } : State).select turns count position =
      s.select turns count position := by
  induction turns generalizing count position with
  | zero => rfl
  | succ turns ih =>
    simp only [State.select, ih]
    rfl

/-- After the end of a cycle 9 turns select as 10 do. -/
theorem State.select_nine {s : State} (hne : s.link.roster ≠ []) (hl : ∀ n ∈ s.link.roster, n.state ≠ .leaving) (count : Nat) :
    s.select 9 count none = s.select 10 count none := by
  have hstable := State.select_stable hne hl ((8 - count % 8) % 8)
  have hnine := hstable (8 - (8 - count % 8) % 8) (count := count) (by omega)
  have hten := hstable (9 - (8 - count % 8) % 8) (count := count) (by omega)
  rw [show (8 - count % 8) % 8 + 1 + (8 - (8 - count % 8) % 8) = 9 by omega] at hnine
  rw [show (8 - count % 8) % 8 + 1 + (9 - (8 - count % 8) % 8) = 10 by omega] at hten
  rw [hnine, hten]

/-- The response of a node for which NLC waits ends the wait (R142). -/
theorem State.responseWait_respond {s : State} {h : Handed} {a : Answer} {m : Nat} (ho : h.origin = .node m) (hd : h.discard = false)
    (hm : m ∈ s.link.responseWait) : (s.respond h a).link.responseWait = [] := by
  simp only [State.respond, ho, hd, Bool.false_eq_true, if_false, State.storeResponse]
  exact if_pos hm

/-- The oldest notice of a node's requesters (R118). -/
theorem State.offeredNotice_eq (s : State) (a : Nat) : s.offeredNotice a =
    s.notices.find? fun x => ((s.req x.owner).map fun q => q.origin == .node a).getD false := by
  refine congrArg (fun p => s.notices.find? p) (funext fun x => ?_)
  cases s.req x.owner <;> rfl

/-- Settles O46: the lowest due node, the wait, or the end of the cycle and the selection made again. -/
theorem selectionPollsLowestDue : Obligations.SelectionPollsLowestDue := by
  intro s hr hx hp hw
  obtain ⟨hsorted, -, hleaving, -⟩ := hr
  refine ⟨exec_nodeSelection_of_off hx hp hw, fun hen hne => ?_⟩
  have hon := exec_nodeSelection_of_on hx hp hw hen hne
  have hl : ∀ n ∈ s.link.roster, n.state ≠ .leaving := fun n hn hl => by
    have := hleaving n hn hl
    rw [hx] at this
    cases this
  intro above awaited due
  have habove : above = nodesAbove s.link.roster s.link.cyclePosition := by
    rw [nodesAbove_eq]
    refine List.filter_congr fun n _ => ?_
    cases s.link.cyclePosition <;> simp
  have hawaited : ∀ n : NodeRecord, s.awaitsResponse n.address = true ↔ awaited n := fun n => State.awaitsResponse_iff
  have hdue : ∀ n, s.nodeDue s.link.cycleCount n = true ↔ due n := fun n => by rw [State.nodeDue_iff, hawaited]
  have hfound : (∀ n ∈ above, ¬ due n) → (nodesAbove s.link.roster s.link.cyclePosition).find? (s.nodeDue s.link.cycleCount) = none :=
    fun hno => List.find?_eq_none.mpr fun n hn => by rw [hdue]; exact hno n (by rwa [habove])
  refine ⟨fun n hn hd hmin => ?_, fun hno hsome => ?_, fun hno => ?_⟩
  · rw [habove] at hn hmin
    have hroster := (nodesAbove_sublist s.link.roster s.link.cyclePosition).subset hn
    have hlowest := find?_lowest (hsorted.sublist (nodesAbove_sublist _ _)) hn ((hdue n).mpr hd) fun m hm hlt => by
      rw [hdue]
      exact hmin m hm hlt
    rw [hon, State.select_of_due hlowest]
    rw [← State.offeredNotice_eq]
    exact congrArg _ (State.startPoll_eq (find?_address_of_mem hsorted hroster))
  · have hany : ((nodesAbove s.link.roster s.link.cyclePosition).any fun x => s.awaitsResponse x.address) = true := by
      obtain ⟨n, hn, ha⟩ := hsome
      exact List.any_eq_true.mpr ⟨n, by rwa [← habove], (hawaited n).mpr ha⟩
    rw [State.select_of_awaited (hfound hno) hany] at hon
    have hmem : ∀ n ∈ above, n.address ∈ ((nodesAbove s.link.roster s.link.cyclePosition).filter fun x =>
        s.awaitsResponse x.address).map NodeRecord.address ↔ awaited n := fun n hn => by
      simp only [List.mem_map, List.mem_filter, ← hawaited]
      exact ⟨fun ⟨m, ⟨_, ha⟩, he⟩ => by rwa [← he], fun ha => ⟨n, ⟨by rwa [← habove], ha⟩, rfl⟩⟩
    have hwaits : ((nodesAbove s.link.roster s.link.cyclePosition).filter fun x =>
        s.awaitsResponse x.address).map NodeRecord.address ≠ [] := by
      obtain ⟨n, hn, ha⟩ := hsome
      exact List.ne_nil_of_mem ((hmem n hn).mpr ha)
    refine ⟨_, hon, rfl, ?_, hmem, exec_nodeSelection_of_waiting (.inr (.inr hwaits)), fun h a m ho hd hm => State.responseWait_respond ho hd hm⟩
    rw [habove]
    exact List.filter_sublist.map _
  · have hany : ((nodesAbove s.link.roster s.link.cyclePosition).any fun x => s.awaitsResponse x.address) = false := by
      rw [Bool.eq_false_iff, Ne, List.any_eq_true]
      rintro ⟨n, hn, ha⟩
      exact (hno n (by rwa [habove])).2 ((hawaited n).mp ha)
    have hselect := (State.select_of_ended (hfound fun n hn => (hno n hn).1) hany 9).trans (State.select_nine hne hl _)
    refine ⟨?_, _, hon⟩
    rw [hon, exec_nodeSelection_of_on (s := { s with link := { s.link with
      cycleCount := (s.link.cycleCount + 1) % 256, cyclePosition := none } }) hx hp hw hen hne, State.select_atCycle]
    exact congrArg _ (State.selected_atCycle hselect).symm

end Sys2Proof.Machine
end

section
/-! RETIRE: the waits and the holds of the entry go, the slot is freed or drains, and passes run on the other members of the removed
sets (R15 to R19). -/

namespace Sys2Proof.Machine

/-! ### What a retire makes of its entry and of the others -/

/-- The outcomes that a retire tells: each removed wait, then each revoked hold (R16, R18). -/
def retireOutcomes (en : Entry) (draining : Bool) : List (ReqSlot × NoticeBody) :=
  en.queue.map (fun c => (c.requester, .waitCancelled c.setId)) ++
    if draining then [] else en.holders.map fun c => (c.requester, .revoked .retired)

/-- The state v in which the records of the entry e are gone, before its slot is written, with the entries due for a pass. -/
structure Ended (s : State) (e : EntrySlot) (en : Entry) (draining : Bool) (v : State) (list : List EntrySlot) : Prop where
  others : ∀ e', e' ≠ e → v.entry e' = (s.entry e').map fun x => (x.withoutSets en.queue).settle
  list : ∀ e', e' ∈ list ↔ e' ≠ e ∧ ∃ c ∈ s.queueAt e', removedBy en.queue c = true
  telling : Telling (retireOutcomes en draining) s v
  told : ∀ c ∈ en.queue, c.setId = none → Told s v c.requester e (s.generation e) (.waitCancelled none)
  toldSets : ∀ c ∈ en.queue, ∀ id, c.setId = some id → ∀ e' x, x ∈ s.queueAt e' → x.setId = some id → x.firstMember = true →
    Told s v c.requester e' (s.generation e') (.waitCancelled (some id))
  toldHolds : draining = false → ∀ c ∈ en.holders, Told s v c.requester e (s.generation e) (.revoked .retired)

theorem Cancelled.ended {s : State} {e : EntrySlot} {en : Entry} {v : State} {list : List EntrySlot} {draining : Bool}
    (h : Cancelled s e en en.queue [] v list) (hd : draining = true ∨ en.holders = []) : Ended s e en draining v list := by
  refine ⟨h.others, h.list, ?_, h.told, h.toldSets, fun hno c hc => ?_⟩
  · obtain rfl | hnil := hd
    · simpa [retireOutcomes] using h.telling
    · simpa [retireOutcomes, hnil] using h.telling
  · obtain rfl | hnil := hd
    · cases hno
    · rw [hnil] at hc
      cases hc

theorem Forced.ended {s : State} {e : EntrySlot} {en : Entry} {v u : State} {list : List EntrySlot} (h : Forced s e en v u list) :
    Ended s e en false u list := by
  have hgen := h.cancelled.telling.generations
  refine ⟨fun e' he' => (h.revoked.others e' he').trans (h.cancelled.others e' he'), h.cancelled.list,
    h.cancelled.telling.trans h.revoked.telling, fun c hc hn => h.cancelled.telling.told_before h.revoked.telling (h.cancelled.told c hc hn),
    fun c hc id hid e' x hx hxid hf =>
      h.cancelled.telling.told_before h.revoked.telling (h.cancelled.toldSets c hc id hid e' x hx hxid hf), fun _ c hc => ?_⟩
  rw [← hgen e]
  exact h.cancelled.telling.told_after h.revoked.telling (h.revoked.told c hc)

/-- The slot as a retire leaves it (R17, R18). -/
def State.retiredSlot (v : State) (e : EntrySlot) (en : Entry) (draining : Bool) : State :=
  if draining then v.setEntry e { en with state := .retiring, queue := [] } else v.freeSlot e

/-- The steps of a retire that ends the records of its entry. -/
theorem State.retireSteps_ended {s : State} (hs : s.Consistent) {e : EntrySlot} {en : Entry} (hen : s.entry e = some en) {force : Bool}
    (hst : en.state = .reserved ∨ (en.state = .exclusive ∨ en.state = .shared) ∨ (en.state = .retiring ∧ force = true))
    {draining : Bool} (hd : draining = true ↔ force = false ∧ (en.state = .exclusive ∨ en.state = .shared)) :
    ∃ v list, Ended s e en draining v list ∧ s.retireSteps e en force = ((v.retiredSlot e en draining, list), draining) := by
  have hcancelled := State.cancelWaits_cancelled hs hen
  obtain ⟨v, u, list, hforced⟩ := State.forceRetire_forced hs hen
  have hforce : draining = false → (s.forceRetire e en, false) = ((u.retiredSlot e en draining, list), draining) := fun h => by
    rw [hforced.steps, h]
    rfl
  obtain hr | hheld | ⟨hr, rfl⟩ := hst
  · obtain rfl : draining = false := by simpa [hr] using hd
    refine ⟨_, _, hcancelled.ended (.inr ((hs.entries e en hen).holders_of_reserved hr)), ?_⟩
    simp only [State.retireSteps, hr]
    rfl
  · cases force with
    | false =>
      obtain rfl : draining = true := by simpa [hheld] using hd
      refine ⟨_, _, hcancelled.ended (.inl rfl), ?_⟩
      obtain hx | hx := hheld
      all_goals
        simp only [State.retireSteps, hx, State.drainRetire_eq hs hen, Bool.false_eq_true, if_false]
        rfl
    | true =>
      obtain rfl : draining = false := by simpa using hd
      refine ⟨u, list, hforced.ended, ?_⟩
      obtain hx | hx := hheld
      all_goals
        simp only [State.retireSteps, hx, if_true]
        exact hforce rfl
  · obtain rfl : draining = false := by simpa using hd
    refine ⟨u, list, hforced.ended, ?_⟩
    simp only [State.retireSteps, hr, if_true]
    exact hforce rfl

/-! ### The command -/

theorem retireEffect_of_bad {m : Byte} (h : 1 < m.toNat) (handle : Handle) (s : State) :
    retireEffect (handle, m) s = refuse .badValue s := by
  have hnone : retireForceOf m = none := by
    unfold retireForceOf
    rw [if_neg, if_neg] <;> rintro rfl <;> exact absurd h (by decide)
  simp only [retireEffect, hnone]

/-- The steps of a retire and the passes after it. -/
theorem retireEffect_of_live {s : State} {handle : Handle} {m : Byte} {force draining : Bool} {en : Entry} {u : State}
    {list : List EntrySlot} (hm : retireForceOf m = some force) (hen : s.entryOf handle = some en)
    (hsteps : s.retireSteps handle.slot en force = ((u, list), draining)) : retireEffect (handle, m) s =
      (u.runPasses .loud ((List.finRange 256).filter fun e => list.contains e), retireOutcome draining) := by
  simp only [retireEffect, hm, hen, hsteps]

theorem retireForceOf_of_le_one {m : Byte} (h : m.toNat ≤ 1) : ∃ force, retireForceOf m = some force ∧
    (m = 0x00#8 ↔ force = false) ∧ (m = 0x01#8 ↔ force = true) := by
  obtain h0 | h1 := Nat.le_one_iff_eq_zero_or_eq_one.mp h
  · obtain rfl : m = 0x00#8 := BitVec.eq_of_toNat_eq h0
    exact ⟨false, rfl, by simp, by simp⟩
  · obtain rfl : m = 0x01#8 := BitVec.eq_of_toNat_eq h1
    exact ⟨true, rfl, by simp, by simp⟩

/-- An entry that drains is left alone by passes. -/
theorem Admitted.eq_of_retiring {en en' : Entry} (h : Admitted en en') (hr : en.state = .retiring) (hq : en.queue = [])
    (hp : en.holders.Pairwise fun c d => c.requester < d.requester) (hp' : en'.holders.Pairwise fun c d => c.requester < d.requester) :
    en' = en := by
  have hqueue : en'.queue = [] := List.suffix_nil.mp (hq ▸ h.queue)
  have hholders : en'.holders = en.holders := by
    have : Std.Irrefl fun c d : Claim => c.requester < d.requester := ⟨fun c => lt_irrefl c.requester⟩
    have : Std.Antisymm fun c d : Claim => c.requester < d.requester := ⟨fun c d hcd hdc => absurd hcd (lt_asymm hdc)⟩
    exact hp'.eq_of_mem_iff hp fun c => by simpa [hq] using h.holders c
  have hstate : en'.state = .retiring := h.state.trans (if_pos hr)
  have hgrant : en'.grantCount = en.grantCount := by simpa [hq, hqueue] using h.grantCount
  obtain ⟨htag, hshare, hhold, hnote, hstale⟩ := h.fixed
  cases en
  cases en'
  simp_all

/-! ### What follows of the slot -/

section ended

variable {s : State} {e : EntrySlot} {en : Entry} {draining : Bool} {v : State} {list : List EntrySlot}

theorem State.entry_retiredSlot (v : State) (e : EntrySlot) (en : Entry) (draining : Bool) (e' : EntrySlot) :
    (v.retiredSlot e en draining).entry e' = if e = e' then (if draining then some { en with state := .retiring, queue := [] } else none)
      else v.entry e' := by
  unfold State.retiredSlot
  cases draining
  · exact State.entry_freeSlot v e e'
  · exact State.entry_setEntry v e _ e'

theorem State.generation_retiredSlot (v : State) (e : EntrySlot) (en : Entry) (draining : Bool) (e' : EntrySlot) :
    (v.retiredSlot e en draining).generation e' = if e = e' ∧ draining = false then v.generation e + 1 else v.generation e' := by
  unfold State.retiredSlot
  cases draining
  · simp
  · exact (State.generation_setEntry v e _ e').trans (if_neg (by simp)).symm

theorem Ended.told_retired {r : ReqSlot} {e' : EntrySlot} {g : Byte} {body : NoticeBody} (h : Told s v r e' g body) :
    Told s (v.retiredSlot e en draining) r e' g body := by
  cases draining <;> exact h

theorem Ended.req_retired (h : Ended s e en draining v list) (hu : (v.retiredSlot e en draining).Consistent) (r : ReqSlot) :
    ∃ overrun, (overrun = true → 16 ≤ ((v.retiredSlot e en draining).noticeQueue r).length) ∧
      (v.retiredSlot e en draining).req r = (s.req r).map fun q =>
        { q with
          holdCount := (v.retiredSlot e en draining).holdsOf r, waitCount := (v.retiredSlot e en draining).waitsOf r
          overrun := q.overrun || overrun } := by
  obtain ⟨holds, waits, overrun, hreq, hfull⟩ := h.telling.requesters r
  have hsame : (v.retiredSlot e en draining).req r = v.req r := by cases draining <;> rfl
  have hqueue : (v.retiredSlot e en draining).noticeQueue r = v.noticeQueue r := by cases draining <;> rfl
  obtain ⟨-, -, -, -, hcounts⟩ := (State.consistent_iff _).mpr hu
  refine ⟨overrun, by rwa [hqueue], ?_⟩
  rw [hsame, hreq]
  cases hq : s.req r with
  | none => rfl
  | some q =>
    rw [hq] at hreq
    obtain ⟨hholds, hwaits, -⟩ := hcounts r _ (hsame.trans hreq)
    rw [← hholds, ← hwaits]

theorem Ended.rest_retired (h : Ended s e en draining v list) : v.retiredSlot e en draining = { s with
    slots := (v.retiredSlot e en draining).slots, dir := (v.retiredSlot e en draining).dir
    freeRecords := (v.retiredSlot e en draining).freeRecords, requesters := (v.retiredSlot e en draining).requesters
    notices := (v.retiredSlot e en draining).notices, noticeSerial := (v.retiredSlot e en draining).noticeSerial } := by
  rw [h.telling.rest]
  cases draining <;> rfl

/-- A retire and the passes after it leave no record of a removed set (R16). -/
theorem Ended.set_gone (h : Ended s e en draining v list) {quiet : Quiet} {passed : List EntrySlot} {w : State}
    (hran : PassesRan quiet passed (v.retiredSlot e en draining) w) {c : Claim} (hc : c ∈ en.queue) {id : Word16} (hid : c.setId = some id) :
    ∀ x ∈ w.waitRecords, x.2.setId ≠ some id := by
  rintro ⟨e', d⟩ hx hdid
  dsimp only at hdid
  obtain ⟨y, hy, hd⟩ := State.mem_queueAt.mp (State.mem_waitRecords.mp (hran.waitRecords_subset hx))
  rw [State.entry_retiredSlot] at hy
  split at hy
  · cases draining
    · cases hy
    · obtain rfl := Option.some.inj hy
      cases hd
  · next hne =>
    rw [h.others e' (Ne.symm hne)] at hy
    obtain ⟨x, -, rfl⟩ := Option.map_eq_some_iff.mp hy
    rw [Entry.settle_queue] at hd
    have hkept := (List.mem_filter.mp hd).2
    have hgone : removedBy en.queue d = true := List.any_eq_true.mpr ⟨c, hc, by simp [hid, hdid]⟩
    simp [hgone] at hkept

/-- A draining entry keeps its holders through the passes (R17). -/
theorem PassesRan.entry_draining {quiet : Quiet} {passed : List EntrySlot} {u w : State} (hran : PassesRan quiet passed u w)
    (hu : u.Consistent) {e : EntrySlot} {en : Entry} (he : u.entry e = some en) (hr : en.state = .retiring) (hq : en.queue = []) :
    w.entry e = some en := by
  have hw := (State.consistent_iff w).mp (hran.legal ((State.consistent_iff u).mpr hu))
  obtain ⟨en', hen'⟩ := Option.isSome_iff_exists.mp ((hran.live e).trans (by rw [he]; rfl))
  obtain ⟨-, hp, -⟩ := hu.entries e en he
  obtain ⟨-, hp', -⟩ := hw.entries e en' hen'
  rw [hen', (hran.entries e en en' he hen').eq_of_retiring hr hq hp hp']

end ended

/-- Settles O20: what a retire makes of the entry, then the passes on the others. -/
theorem retireEndsEntry : Obligations.RetireEndsEntry := by
  intro s o rid a g m h hst hadmin i e
  refine ⟨fun hbad => ?_, ?_⟩
  · exact answers_admin_same hst hadmin rfl rfl (retireEffect_of_bad hbad _ (s.dropHanded o)) rfl
  intro en hof held
  have hen := State.entry_of_entryOf hof
  refine ⟨fun hm hidle => ?_, fun hm hr => ?_, fun hm hs hcase => ?_⟩
  · obtain ⟨force, hforce, -⟩ := retireForceOf_of_le_one hm
    refine answers_admin_same hst hadmin rfl rfl ((retireEffect_of_live (s := s.dropHanded o) (draining := false) hforce hof
      (by simp only [State.retireSteps, hidle]; rfl)).trans ?_) rfl
    simp only [List.contains_nil, List.filter_false, State.runPasses_nil]
    rfl
  · subst hm
    refine answers_admin_same hst hadmin rfl rfl ((retireEffect_of_live (s := s.dropHanded o) (draining := true) (force := false) rfl hof
      (by simp only [State.retireSteps, hr]; rfl)).trans ?_) rfl
    simp only [List.contains_nil, List.filter_false, State.runPasses_nil]
    rfl
  intro draining removed
  obtain ⟨force, hforce, hm0, hm1⟩ := retireForceOf_of_le_one hm
  have hcons := s.consistent_iff.mp hs
  obtain ⟨d, hd⟩ : ∃ d : Bool, d = true ↔ draining := ⟨decide draining, decide_eq_true_iff⟩
  obtain ⟨v, list, hended, hsteps⟩ := State.retireSteps_ended hcons hen (force := force) (draining := d)
    (hcase.imp_right (Or.imp_right (And.imp_right hm1.mp))) (hd.trans (and_congr_left' hm0))
  have hif : ∀ {α : Type} (x y : α), (if draining then x else y) = if d = true then x else y := fun x y => if_congr hd.symm rfl rfl
  have hremoved : ∀ c, removed c = removedBy en.queue c := fun _ => rfl
  have hucons : (v.retiredSlot e en d).Consistent := by
    have := State.Consistent.retireSteps hcons hen force
    rwa [hsteps] at this
  have hoff : ¬ draining → d = false := fun h => Bool.eq_false_iff.mpr (mt hd.mp h)
  have hentry := v.entry_retiredSlot e en d
  have hdir : v.dir = s.dir := by rw [hended.telling.rest]
  have hgeneration : ∀ e', (v.retiredSlot e en d).generation e' = if e = e' ∧ d = false then s.generation e + 1 else s.generation e' :=
    fun e' => by rw [State.generation_retiredSlot, hended.telling.generations, hended.telling.generations]
  obtain ⟨new, hnew, hsublist⟩ := hended.telling.notices
  have hnewU : (v.retiredSlot e en d).notices = s.notices ++ new := by
    rw [← hnew]
    cases d <;> rfl
  have hran := State.runPasses_passesRan hucons .loud ((List.finRange 256).filter fun e => list.contains e)
  have heffect := retireEffect_of_live (s := s.dropHanded o) hforce hof (u := (v.retiredSlot e en d).dropHanded o) (list := list)
    (draining := d) (by rw [retireSteps_dropHanded]; exact congrArg (fun x => ((State.dropHanded x.1.1 o, x.1.2), x.2)) hsteps)
  rw [runPasses_dropHanded] at heffect
  obtain ⟨w, hw⟩ : ∃ w, (v.retiredSlot e en d).runPasses .loud ((List.finRange 256).filter fun e => list.contains e) = w := ⟨_, rfl⟩
  rw [hw] at hran heffect
  have htold : ∀ {r e' gen body}, Told s v r e' gen body → Told s w r e' gen body := fun h => hran.told_before hnewU (Ended.told_retired h)
  refine ⟨v.retiredSlot e en d, w, (List.finRange 256).filter fun e => list.contains e, new, hran, (List.nodup_finRange 256).filter _,
    fun e' => ?_, fun hdrain => ?_, fun hfree => ?_, fun e' he' => ?_, ?_, hended.req_retired hucons, hnewU, ?_, hended.rest_retired, ?_,
    fun hdrain => ?_, fun hfree => ?_, fun c hc hn => htold (hended.told c hc hn), fun c hc id hid => ⟨hended.set_gone hran hc hid, ?_⟩,
    fun hfree c hc => htold (hended.toldHolds ?_ c hc)⟩
  · simp only [List.mem_filter, List.mem_finRange, true_and, List.contains_eq_mem, decide_eq_true_eq, hended.list, hremoved]
    refine and_congr_right fun _ => ?_
    constructor
    · rintro ⟨c, hc, hr⟩
      obtain ⟨x, hx, hc⟩ := State.mem_queueAt.mp hc
      exact ⟨x, hx, c, hc, hr⟩
    · rintro ⟨x, hx, c, hc, hr⟩
      exact ⟨c, State.mem_queueAt.mpr ⟨x, hx, hc⟩, hr⟩
  · obtain rfl := hd.mpr hdrain
    exact ⟨(hentry e).trans (if_pos rfl), (hgeneration e).trans (if_neg (by simp)), hdir⟩
  · obtain rfl := hoff hfree
    exact ⟨(hentry e).trans (if_pos rfl), (hgeneration e).trans (if_pos ⟨rfl, rfl⟩), congrArg (List.filter _) hdir⟩
  · rw [hgeneration, if_neg fun h => he' h.1.symm, hentry, if_neg (Ne.symm he'), hended.others e' he']
    refine ⟨rfl, congrArg (fun f => (s.entry e').map f) (funext fun x => ?_)⟩
    rw [Entry.settle_eq]
    rfl
  · obtain ⟨-, -, -, hpool, -⟩ := hs
    obtain ⟨-, -, -, hpoolU, -⟩ := (State.consistent_iff _).mpr hucons
    rw [hpool, hpoolU]
  · rw [hif]
    exact hsublist
  · rw [hif]
    exact answers_admin hst hadmin rfl rfl heffect rfl
  · obtain rfl := hd.mpr hdrain
    exact ⟨hran.entry_draining hucons ((hentry e).trans (if_pos rfl)) rfl rfl,
      (hran.generations e).trans ((hgeneration e).trans (if_neg (by simp)))⟩
  · obtain rfl := hoff hfree
    refine ⟨?_, (hran.generations e).trans ((hgeneration e).trans (if_pos ⟨rfl, rfl⟩))⟩
    have hlive := hran.live e
    rw [hentry, if_pos rfl] at hlive
    exact Option.isNone_iff_eq_none.mp (Option.isSome_eq_false_iff.mp hlive)
  · rintro ⟨e', x⟩ hx hxid hf
    exact htold (hended.toldSets c hc id hid e' x (State.mem_waitRecords.mp hx) hxid hf)
  · exact hoff hfree

end Sys2Proof.Machine
end
